-- ==== Sys2Proof/Word.lean ====
section
/-! DEFINITION. The byte of the desk link and of the field ring, and the type of a table keyed by item number. -/

namespace Sys2Proof

/-- One byte on a desk link or on the field ring (chapter 12). -/
abbrev Byte := BitVec 8

/-- An unsigned 32-bit value: the counters (R179 counts modulo 2^32). -/
abbrev Word32 := BitVec 32

/-- A table of numbered items, sorted by item number, no number twice.  An item that is not listed is undescribed
(R1: every numbered entry is either described or undescribed). -/
abbrev Table (α : Type) := List (Nat × α)

end Sys2Proof
end

