-- ==== Sys2Proof/Machine/Arith.lean ====
section
/-! DEFINITION. The integer square root (R108), the bytes of a number (R185) and the CRC-8 (R186). -/

namespace Sys2Proof.Machine

/-- The bits of the square root of `x` below weight 2^n, added to `r` from the greatest down. -/
def isqrtFrom (x : Nat) : Nat → Nat → Nat
  | 0, r => r
  | n + 1, r => isqrtFrom x n (if (r + 2 ^ n) * (r + 2 ^ n) ≤ x then r + 2 ^ n else r)

/-- isqrt(x): the largest integer whose square does not exceed x (R108). -/
def isqrt (x : Nat) : Nat := isqrtFrom x (x.log2 / 2 + 1) 0

/-- The byte of a number below 256. -/
def byte (n : Nat) : Byte := BitVec.ofNat 8 n

/-- A number in `w` bytes, most significant first (R185). -/
def bytesOf : Nat → Nat → List Byte
  | 0, _ => []
  | w + 1, n => byte (n / 256 ^ w) :: bytesOf w n

/-- The number that bytes spell, most significant first (R185). -/
def numberOf (l : List Byte) : Nat := l.foldl (fun n b => n * 256 + b.toNat) 0

/-- One shift of the CRC register toward its most significant end (R186). -/
def crcShift (r : Byte) : Byte := if r.msb then (r <<< 1) ^^^ 0x31#8 else r <<< 1

/-- `n` shifts of the CRC register. -/
def crcShifts : Nat → Byte → Byte
  | 0, r => r
  | n + 1, r => crcShifts n (crcShift r)

/-- The CRC register after one more byte (R186). -/
def crcByte (r b : Byte) : Byte := crcShifts 8 (r ^^^ b)

/-- The CRC-8 of the bytes from ADDRESS through the last PAYLOAD byte (R150, R186). -/
def crc8 (l : List Byte) : Byte := l.foldl crcByte 0#8

end Sys2Proof.Machine
end

