-- ==== Sys2Proof/Syntax.lean ====
section
/-! DEFINITION. The names the block's commands are written with, the ordered requests a desk port can queue, and the
commands themselves: one constructor of `Instr` for each row of spec/opcode_table.json. -/

namespace Sys2Proof

/-- A desk port (chapter 10). -/
inductive PortId | a | b | c | d
deriving DecidableEq, Repr

/-- One character received on a desk link: its byte, and whether it had a parity or framing error (R164). -/
structure RxChar where
  byte : Byte
  bad : Bool
deriving DecidableEq, Repr

/-- The LOAD requests that carry a list (R185 lets their LENGTH grow with it). -/
inductive ListLoad | route | routePoints | plan
deriving DecidableEq, Repr

/-- An ordered request with its fields as the numbers the frame carries (R185).  A field may hold a number its rule
does not allow: such a request is valid, and the rule that owns it refuses it (R165). -/
inductive Request
  /-- BEGIN-CONFIG (R3) -/
  | beginConfig
  /-- LOAD-SECTION (R4, Table 1-2); an end signal of 0xFFFF is absent -/
  | loadSection (item erase length limit district addr input upSignal downSignal deckFlag : Nat)
  /-- LOAD-POINT (R4, Table 1-3) -/
  | loadPoint (item erase addr output section_ district : Nat)
  /-- LOAD-SIGNAL (R4, Table 1-3) -/
  | loadSignal (item erase section_ end_ kind addr output district : Nat)
  /-- LOAD-ROUTE (R4, Table 1-4): every field but the two point lists; exit 0xFFFF is absent, and so is a deck
  requirement of 0xFFFF, 0xFF -/
  | loadRoute (item erase entry exit cls : Nat) (sections : List (Nat × Nat)) (overlap approach : List Nat)
      (deckRoad deckEnd : Nat)
  /-- LOAD-ROUTE-POINTS (R4, Table 1-4): route points (point, position, route section index) and flank points -/
  | loadRoutePoints (item : Nat) (points : List (Nat × Nat × Nat)) (flanks : List (Nat × Nat))
  /-- LOAD-DISTRICT (R4, Table 1-5) -/
  | loadDistrict (item name : Nat)
  /-- LOAD-DECK (R4, Table 1-5) -/
  | loadDeck (erase n section_ addr : Nat)
  /-- LOAD-DECK-ROAD (R4, Table 1-5); a road section of 0xFFFF is absent -/
  | loadDeckRoad (road erase section_ end_ : Nat)
  /-- LOAD-TRAIN (R4, Table 1-6) -/
  | loadTrain (item erase addr vmax accel brake : Nat)
  /-- LOAD-PLAN (R4, Table 1-6) -/
  | loadPlan (item erase train start : Nat) (routes : List Nat) (throttle addr input : Nat)
  /-- LOAD-TRACTION (R4, Table 1-5) -/
  | loadTraction (erase addr : Nat)
  /-- LOAD-PORT-ROLES (R4, Table 1-6); a screening port of 0xFF is none -/
  | loadPortRoles (screening batchA batchB batchC batchD : Nat)
  /-- LOAD-PARAMETER (R5, Table 1-7) -/
  | loadParameter (param value : Nat)
  /-- A list-carrying LOAD whose LENGTH is allowed but whose list counts do not fit it (R165: valid, and refused by R4) -/
  | loadMisfit (kind : ListLoad) (item : Nat)
  /-- COMMIT-CONFIG (R6) -/
  | commitConfig
  /-- ABANDON-CONFIG (R8) -/
  | abandonConfig
  /-- REST (R12) -/
  | rest
  /-- WAKE (R16) -/
  | wake
  /-- RECONFIGURE (R18) -/
  | reconfigure
  /-- TAKE-DISTRICT (R38) -/
  | takeDistrict (district : Nat)
  /-- GIVE-DISTRICT (R39) -/
  | giveDistrict (district : Nat)
  /-- SET-DISTRICT-FLAGS (R40) -/
  | setDistrictFlags (district demoOk : Nat)
  /-- MOVE-POINT (R33) -/
  | movePoint (point position : Nat)
  /-- SET-ROUTE (R43): option 0 none, 1 QUEUE-IF-BLOCKED -/
  | setRoute (route option : Nat)
  /-- CANCEL-ROUTE (R43, R74) -/
  | cancelRoute (route : Nat)
  /-- PLACE-TRAIN (R85) -/
  | placeTrain (train section_ direction : Nat)
  /-- REMOVE-TRAIN (R86) -/
  | removeTrain (train : Nat)
  /-- TAKE-TRAIN (R87) -/
  | takeTrain (train : Nat)
  /-- GIVE-TRAIN (R88) -/
  | giveTrain (train : Nat)
  /-- RESTORE-TRAIN (R99) -/
  | restoreTrain (train : Nat)
  /-- TURN-DECK (R123): sense CW 0, CCW 1, SHORT 2 -/
  | turnDeck (road sense : Nat)
  /-- PASS-DEMO (R140) -/
  | passDemo (plan : Nat)
  /-- VETO-DEMO (R141) -/
  | vetoDemo (plan : Nat)
  /-- SET-SWEEP-MODE (R156) -/
  | setSweepMode (mode period : Nat)
  /-- SELECT-COUNTER (R181) -/
  | selectCounter (counter event qualifier : Nat)
  /-- DECREMENT-COUNTER (R183) -/
  | decrementCounter (counter d : Nat)
deriving DecidableEq, Repr

/-- The commands of the block: one constructor per row of spec/opcode_table.json, in the table's order.

Three kinds of row are told apart by their operands.  A pin, link or ring event, and the expiry of a timer, names what
it concerns.  An IMMEDIATE request (Table 10-2) is a valid frame taken at a port: port, TAG and the frame's fields.  An
ORDERED request is taken by `orderedRequest`, which puts it with its fields at the tail of its port's request queue
(R170); the row of its own name is its SERVICE as the head of that queue (R171), and its operand is the port, because
the fields stand in the queue. -/
inductive Instr
  /-- POWER_ON_RESET (R22): the reset pin; the operand is the level of the emergency-stop input when it is released -/
  | powerOnReset (estopAsserted : Bool)
  /-- EMERGENCY_STOP_ASSERTED (R20): the input has held asserted for 10 ms -/
  | emergencyStopAsserted
  /-- EMERGENCY_STOP_RELEASED (R19): the input has held released for 10 ms -/
  | emergencyStopReleased
  /-- BREAK (R169): the receive line held low for 2 character times or more -/
  | breakLine (p : PortId)
  /-- MALFORMED_FRAME (R165): the characters, the last of which completes or ends a malformed frame -/
  | malformedFrame (p : PortId) (chars : List RxChar)
  /-- FRAME_GAP_TIMEOUT (R164): the characters collected before the gap, and the character that ends the gap -/
  | frameGapTimeout (p : PortId) (chars : List RxChar) (next : RxChar)
  /-- SILENCE_TIMEOUT (R167) -/
  | silenceTimeout (p : PortId)
  /-- ORDERED_REQUEST (R170): the valid frame of an ordered request -/
  | orderedRequest (p : PortId) (tag : Byte) (req : Request)
  /-- HOLD_TIMER_EXPIRY (R173) -/
  | holdTimerExpiry (p : PortId)
  /-- HOLD_OFF_EXPIRY (R174) -/
  | holdOffExpiry (p : PortId)
  /-- TRANSMIT_HOLD (R173) -/
  | transmitHold (p : PortId)
  /-- TRANSMIT_RESPONSE (R172) -/
  | transmitResponse (p : PortId)
  /-- TRANSMIT_NOTICE (R177) -/
  | transmitNotice (p : PortId)
  /-- BEGIN_CONFIG (R3) -/
  | beginConfig (p : PortId)
  /-- LOAD_SECTION (R4) -/
  | loadSection (p : PortId)
  /-- LOAD_POINT (R4) -/
  | loadPoint (p : PortId)
  /-- LOAD_SIGNAL (R4) -/
  | loadSignal (p : PortId)
  /-- LOAD_ROUTE (R4) -/
  | loadRoute (p : PortId)
  /-- LOAD_ROUTE_POINTS (R4) -/
  | loadRoutePoints (p : PortId)
  /-- LOAD_DISTRICT (R4) -/
  | loadDistrict (p : PortId)
  /-- LOAD_DECK (R4) -/
  | loadDeck (p : PortId)
  /-- LOAD_DECK_ROAD (R4) -/
  | loadDeckRoad (p : PortId)
  /-- LOAD_TRAIN (R4) -/
  | loadTrain (p : PortId)
  /-- LOAD_PLAN (R4) -/
  | loadPlan (p : PortId)
  /-- LOAD_TRACTION (R4) -/
  | loadTraction (p : PortId)
  /-- LOAD_PORT_ROLES (R4) -/
  | loadPortRoles (p : PortId)
  /-- LOAD_PARAMETER (R5) -/
  | loadParameter (p : PortId)
  /-- COMMIT_CONFIG (R6, R7) -/
  | commitConfig (p : PortId)
  /-- ABANDON_CONFIG (R8) -/
  | abandonConfig (p : PortId)
  /-- READ_DESCRIPTION (R9): table in the order of Table 1-1, item (0xFFFF where the table has one entry) -/
  | readDescription (p : PortId) (tag : Byte) (table item : Nat)
  /-- REST (R12) -/
  | rest (p : PortId)
  /-- WAKE (R16) -/
  | wake (p : PortId)
  /-- RECONFIGURE (R18) -/
  | reconfigure (p : PortId)
  /-- ALL_STOP (R20) -/
  | allStop (p : PortId) (tag : Byte)
  /-- RESUME (R21) -/
  | resume (p : PortId) (tag : Byte)
  /-- READ_MODE (R19) -/
  | readMode (p : PortId) (tag : Byte)
  /-- PRESENT (R167) -/
  | present (p : PortId) (tag : Byte)
  /-- SET_SILENCE (R167) -/
  | setSilence (p : PortId) (tag : Byte) (ms : Nat)
  /-- HOLD_OFF (R174) -/
  | holdOff (p : PortId) (tag : Byte) (quanta : Nat)
  /-- SET_SUBSCRIPTION (R175): the bit of weight 2^(c-1) subscribes class c -/
  | setSubscription (p : PortId) (tag : Byte) (mask : Nat)
  /-- SET_TRIGGER (R177) -/
  | setTrigger (p : PortId) (tag : Byte) (value : Nat)
  /-- TAKE_DISTRICT (R38) -/
  | takeDistrict (p : PortId)
  /-- GIVE_DISTRICT (R39) -/
  | giveDistrict (p : PortId)
  /-- SET_DISTRICT_FLAGS (R40) -/
  | setDistrictFlags (p : PortId)
  /-- MOVE_POINT (R33) -/
  | movePoint (p : PortId)
  /-- SET_ROUTE (R43): the port's SET-ROUTE is refused WRONG-MODE, or is granted and evaluated -/
  | setRoute (p : PortId)
  /-- CANCEL_ROUTE (R74) -/
  | cancelRoute (p : PortId)
  /-- RETRY_ENTRY_EVALUATION (R59): the level-2 group is granted and evaluates its oldest eligible retry entry -/
  | retryEntryEvaluation
  /-- DEMO_SET_ROUTE (R144): the level-2 group is granted and evaluates the Demonstration Unit's SET-ROUTE -/
  | demoSetRoute
  /-- DEMO_CANCEL_ROUTE (R147): the same for the CANCEL-ROUTE of the head of its cancel list -/
  | demoCancelRoute
  /-- PLACE_TRAIN (R85) -/
  | placeTrain (p : PortId)
  /-- REMOVE_TRAIN (R86) -/
  | removeTrain (p : PortId)
  /-- TAKE_TRAIN (R87) -/
  | takeTrain (p : PortId)
  /-- GIVE_TRAIN (R88) -/
  | giveTrain (p : PortId)
  /-- THROTTLE (R89) -/
  | throttle (p : PortId) (tag : Byte) (train value direction : Nat)
  /-- RESTORE_TRAIN (R99) -/
  | restoreTrain (p : PortId)
  /-- TURN_DECK (R123, R125) -/
  | turnDeck (p : PortId)
  /-- PASS_DEMO (R140) -/
  | passDemo (p : PortId)
  /-- VETO_DEMO (R141) -/
  | vetoDemo (p : PortId)
  /-- SET_SWEEP_MODE (R156) -/
  | setSweepMode (p : PortId)
  /-- SELECT_COUNTER (R181) -/
  | selectCounter (p : PortId)
  /-- DECREMENT_COUNTER (R183) -/
  | decrementCounter (p : PortId)
  /-- READ_COUNTERS (R182) -/
  | readCounters (p : PortId) (tag : Byte)
  /-- READ_SECTION (R42) -/
  | readSection (p : PortId) (tag : Byte) (section_ : Nat)
  /-- READ_POINT (R42) -/
  | readPoint (p : PortId) (tag : Byte) (point : Nat)
  /-- READ_SIGNAL (R42) -/
  | readSignal (p : PortId) (tag : Byte) (signal : Nat)
  /-- READ_DISTRICTS (R42) -/
  | readDistricts (p : PortId) (tag : Byte)
  /-- READ_INSTANCE (R65, R66) -/
  | readInstance (p : PortId) (tag : Byte) (slot : Nat)
  /-- READ_ROUTE_ENGINE (R65) -/
  | readRouteEngine (p : PortId) (tag : Byte)
  /-- READ_TRAIN (R100) -/
  | readTrain (p : PortId) (tag : Byte) (train : Nat)
  /-- READ_SUPERVISION (R119) -/
  | readSupervision (p : PortId) (tag : Byte) (train : Nat)
  /-- READ_DECK (R134) -/
  | readDeck (p : PortId) (tag : Byte)
  /-- READ_DEMO (R148) -/
  | readDemo (p : PortId) (tag : Byte)
  /-- READ_MODULE (R163) -/
  | readModule (p : PortId) (tag : Byte) (addr : Nat)
  /-- READ_RING (R163) -/
  | readRing (p : PortId) (tag : Byte)
  /-- READ_PORT (R178): the port named, A 0 to D 3 -/
  | readPort (p : PortId) (tag : Byte) (named : Nat)
  /-- SWEEP_TIMER_EXPIRY (R154) -/
  | sweepTimerExpiry
  /-- POSTPONED_PARTIAL_SWEEP (R157) -/
  | postponedPartialSweep
  /-- POLL (R150): the next address of the partial sweep under way is polled -/
  | poll
  /-- GOOD_ANSWER (R151): the bytes of the answer received in the window -/
  | goodAnswer (frame : List Byte)
  /-- MISS (R152): the bytes received in the window, none of them or not a good answer -/
  | miss (received : List Byte)
  /-- RING_COMMAND_SENT (R162) -/
  | ringCommandSent
  /-- SUPERVISION_EXPIRY (R102) -/
  | supervisionExpiry (train : Nat)
  /-- POINT_MOVE_TIMEOUT (R32) -/
  | pointMoveTimeout (point : Nat)
  /-- APPROACH_RELEASE_EXPIRY_SET (R78) -/
  | approachReleaseExpirySet (slot : Nat)
  /-- APPROACH_RELEASE_EXPIRY_OCCUPIED (R80) -/
  | approachReleaseExpiryOccupied (slot : Nat)
  /-- OVERLAP_RELEASE_TIMEOUT (R73) -/
  | overlapReleaseTimeout (slot : Nat)
  /-- RETRY_LIFETIME_EXPIRY (R60): the entry is named by its route, since no two entries are for one route (R57) -/
  | retryLifetimeExpiry (route : Nat)
  /-- DECK_MOVE_TIMEOUT (R128) -/
  | deckMoveTimeout
  /-- SCREENING_TIMEOUT (R140) -/
  | screeningTimeout (plan : Nat)
  /-- ADMISSION_TIMEOUT (R142) -/
  | admissionTimeout
  /-- RUN_LIMIT_EXPIRY (R146) -/
  | runLimitExpiry
deriving DecidableEq, Repr

end Sys2Proof
end

