-- ==== Sys2Proof/Decode.lean ====
section
/-! DEFINITION. From the bytes of a desk frame to the command it carries, and back (R164, R165, R185), and the host's
`decodeTableWord`.  The rows of spec/opcode_table.json give no bits: what a board sends is a framed message. -/

namespace Sys2Proof

open Machine

/-- No row of the table gives bits, so no word spells a command. -/
def decodeTableWord (_nbits _w : Nat) : Option Instr := none

/-- SYNC (Table 12-1). -/
def syncByte : Byte := 0xA5#8

/-- The number in `w` bytes of a body from place `at_` on, most significant byte first (R185). -/
def fieldAt (body : List Byte) (at_ w : Nat) : Nat := numberOf ((body.drop at_).take w)

/-- `k` entries of one byte from the front of a body, and the rest. -/
def takeOnes : Nat → List Byte → Option (List Nat × List Byte)
  | 0, l => some ([], l)
  | k + 1, x :: l => (takeOnes k l).map (fun r => (x.toNat :: r.1, r.2))
  | _ + 1, [] => none

/-- `k` entries of two one-byte fields. -/
def takePairs : Nat → List Byte → Option (List (Nat × Nat) × List Byte)
  | 0, l => some ([], l)
  | k + 1, x :: y :: l => (takePairs k l).map (fun r => ((x.toNat, y.toNat) :: r.1, r.2))
  | _ + 1, _ => none

/-- `k` entries of three one-byte fields. -/
def takeTriples : Nat → List Byte → Option (List (Nat × Nat × Nat) × List Byte)
  | 0, l => some ([], l)
  | k + 1, x :: y :: z :: l => (takeTriples k l).map (fun r => ((x.toNat, y.toNat, z.toNat) :: r.1, r.2))
  | _ + 1, _ => none

/-- A list of one-byte entries with its count in front (R185). -/
def takeOneList : List Byte → Option (List Nat × List Byte)
  | n :: l => takeOnes n.toNat l
  | [] => none

/-- A list of two-field entries with its count in front (R185). -/
def takePairList : List Byte → Option (List (Nat × Nat) × List Byte)
  | n :: l => takePairs n.toNat l
  | [] => none

/-- A list of three-field entries with its count in front (R185). -/
def takeTripleList : List Byte → Option (List (Nat × Nat × Nat) × List Byte)
  | n :: l => takeTriples n.toNat l
  | [] => none

/-- The fields of LOAD-ROUTE after its class: sections, overlap sections, approach sections, deck requirement. -/
def takeRouteLists (l : List Byte) :
    Option (List (Nat × Nat) × List Nat × List Nat × Nat × Nat) :=
  match takePairList l with
  | some (secs, l1) => match takeOneList l1 with
    | some (ovl, l2) => match takeOneList l2 with
      | some (app, [hi, lo, end_]) => some (secs, ovl, app, hi.toNat * 256 + lo.toNat, end_.toNat)
      | _ => none
    | none => none
  | none => none

/-- LOAD-ROUTE from its body. With the erase flag set its fields are ignored (R4). -/
def decodeLoadRoute (body : List Byte) : Request :=
  match takeRouteLists (body.drop 6) with
  | some (secs, ovl, app, road, end_) =>
    .loadRoute (fieldAt body 0 1) (fieldAt body 1 1) (fieldAt body 2 1) (fieldAt body 3 2) (fieldAt body 5 1) secs ovl
      app road end_
  | none =>
    if fieldAt body 1 1 = 1 then .loadRoute (fieldAt body 0 1) 1 0 0 0 [] [] [] 0 0
    else .loadMisfit .route (fieldAt body 0 1)

/-- LOAD-ROUTE-POINTS from its body. -/
def decodeLoadRoutePoints (body : List Byte) : Request :=
  match takeTripleList (body.drop 1) with
  | some (pts, l1) => match takePairList l1 with
    | some (fls, []) => .loadRoutePoints (fieldAt body 0 1) pts fls
    | _ => .loadMisfit .routePoints (fieldAt body 0 1)
  | none => .loadMisfit .routePoints (fieldAt body 0 1)

/-- LOAD-PLAN from its body. -/
def decodeLoadPlan (body : List Byte) : Request :=
  match takeOneList (body.drop 4) with
  | some (rs, [th, ad, inp]) =>
    .loadPlan (fieldAt body 0 1) (fieldAt body 1 1) (fieldAt body 2 1) (fieldAt body 3 1) rs th.toNat ad.toNat inp.toNat
  | _ =>
    if fieldAt body 1 1 = 1 then .loadPlan (fieldAt body 0 1) 1 0 0 [] 0 0 0
    else .loadMisfit .plan (fieldAt body 0 1)

/-- The numbers of body bytes a LOAD-ROUTE-POINTS may have: 3 + 3a + 2b for lists of a ≤ 8 and b ≤ 4 entries. -/
def routePointsLength (n : Nat) : Bool :=
  (List.range 9).any fun a => (List.range 5).any fun b => n == 3 + 3 * a + 2 * b

/-- The ordered request of a KIND and BODY, when the KIND is that of an ordered request and the LENGTH is one it allows
(R165, Table 12-2, R185).  LOAD-PORT-ROLES has one body of five bytes, the screening port and the batch flags of A to D,
and no item byte: Table 1-1 gives the port roles the items A to D and R4 loads one entry, so this is the model's choice
(log entry 12). -/
def decodeRequest (kind : Nat) (body : List Byte) : Option Request :=
  match kind, body.length with
  | 0x01, 0 => some .beginConfig
  | 0x02, 14 => some (.loadSection (fieldAt body 0 1) (fieldAt body 1 1) (fieldAt body 2 2) (fieldAt body 4 2)
      (fieldAt body 6 1) (fieldAt body 7 1) (fieldAt body 8 1) (fieldAt body 9 2) (fieldAt body 11 2) (fieldAt body 13 1))
  | 0x03, 6 => some (.loadPoint (fieldAt body 0 1) (fieldAt body 1 1) (fieldAt body 2 1) (fieldAt body 3 1)
      (fieldAt body 4 1) (fieldAt body 5 1))
  | 0x04, 8 => some (.loadSignal (fieldAt body 0 1) (fieldAt body 1 1) (fieldAt body 2 1) (fieldAt body 3 1)
      (fieldAt body 4 1) (fieldAt body 5 1) (fieldAt body 6 1) (fieldAt body 7 1))
  | 0x05, n => if 12 ≤ n ∧ n ≤ 41 then some (decodeLoadRoute body) else none
  | 0x06, n => if routePointsLength n then some (decodeLoadRoutePoints body) else none
  | 0x07, 2 => some (.loadDistrict (fieldAt body 0 1) (fieldAt body 1 1))
  | 0x08, 4 => some (.loadDeck (fieldAt body 0 1) (fieldAt body 1 1) (fieldAt body 2 1) (fieldAt body 3 1))
  | 0x09, 5 => some (.loadDeckRoad (fieldAt body 0 1) (fieldAt body 1 1) (fieldAt body 2 2) (fieldAt body 4 1))
  | 0x0A, 10 => some (.loadTrain (fieldAt body 0 1) (fieldAt body 1 1) (fieldAt body 2 2) (fieldAt body 4 2)
      (fieldAt body 6 2) (fieldAt body 8 2))
  | 0x0B, n => if 8 ≤ n ∧ n ≤ 14 then some (decodeLoadPlan body) else none
  | 0x0C, 2 => some (.loadTraction (fieldAt body 0 1) (fieldAt body 1 1))
  | 0x0D, 5 => some (.loadPortRoles (fieldAt body 0 1) (fieldAt body 1 1) (fieldAt body 2 1) (fieldAt body 3 1)
      (fieldAt body 4 1))
  | 0x0E, 3 => some (.loadParameter (fieldAt body 0 1) (fieldAt body 1 2))
  | 0x0F, 0 => some .commitConfig
  | 0x10, 0 => some .abandonConfig
  | 0x18, 0 => some .rest
  | 0x19, 0 => some .wake
  | 0x1A, 0 => some .reconfigure
  | 0x20, 1 => some (.takeDistrict (fieldAt body 0 1))
  | 0x21, 1 => some (.giveDistrict (fieldAt body 0 1))
  | 0x22, 2 => some (.setDistrictFlags (fieldAt body 0 1) (fieldAt body 1 1))
  | 0x23, 2 => some (.movePoint (fieldAt body 0 1) (fieldAt body 1 1))
  | 0x24, 2 => some (.setRoute (fieldAt body 0 1) (fieldAt body 1 1))
  | 0x25, 1 => some (.cancelRoute (fieldAt body 0 1))
  | 0x28, 3 => some (.placeTrain (fieldAt body 0 1) (fieldAt body 1 1) (fieldAt body 2 1))
  | 0x29, 1 => some (.removeTrain (fieldAt body 0 1))
  | 0x2A, 1 => some (.takeTrain (fieldAt body 0 1))
  | 0x2B, 1 => some (.giveTrain (fieldAt body 0 1))
  | 0x2D, 1 => some (.restoreTrain (fieldAt body 0 1))
  | 0x2E, 2 => some (.turnDeck (fieldAt body 0 1) (fieldAt body 1 1))
  | 0x30, 1 => some (.passDemo (fieldAt body 0 1))
  | 0x31, 1 => some (.vetoDemo (fieldAt body 0 1))
  | 0x32, 3 => some (.setSweepMode (fieldAt body 0 1) (fieldAt body 1 2))
  | 0x33, 3 => some (.selectCounter (fieldAt body 0 1) (fieldAt body 1 1) (fieldAt body 2 1))
  | 0x34, 5 => some (.decrementCounter (fieldAt body 0 1) (fieldAt body 1 4))
  | _, _ => none

/-- The immediate request of a KIND and BODY taken at port `p` (Tables 10-2 and 12-2). -/
def decodeImmediate (p : PortId) (kind : Nat) (tag : Byte) (body : List Byte) : Option Instr :=
  match kind, body.length with
  | 0x1B, 0 => some (.allStop p tag)
  | 0x1C, 0 => some (.resume p tag)
  | 0x1D, 0 => some (.present p tag)
  | 0x2C, 3 => some (.throttle p tag (fieldAt body 0 1) (fieldAt body 1 1) (fieldAt body 2 1))
  | 0x38, 2 => some (.setSilence p tag (fieldAt body 0 2))
  | 0x39, 2 => some (.holdOff p tag (fieldAt body 0 2))
  | 0x3A, 2 => some (.setSubscription p tag (fieldAt body 0 2))
  | 0x3B, 1 => some (.setTrigger p tag (fieldAt body 0 1))
  | 0x3C, 0 => some (.readCounters p tag)
  | 0x40, 3 => some (.readDescription p tag (fieldAt body 0 1) (fieldAt body 1 2))
  | 0x41, 0 => some (.readMode p tag)
  | 0x42, 1 => some (.readSection p tag (fieldAt body 0 1))
  | 0x43, 1 => some (.readPoint p tag (fieldAt body 0 1))
  | 0x44, 1 => some (.readSignal p tag (fieldAt body 0 1))
  | 0x45, 0 => some (.readDistricts p tag)
  | 0x46, 1 => some (.readInstance p tag (fieldAt body 0 1))
  | 0x47, 0 => some (.readRouteEngine p tag)
  | 0x48, 1 => some (.readTrain p tag (fieldAt body 0 1))
  | 0x49, 1 => some (.readSupervision p tag (fieldAt body 0 1))
  | 0x4A, 0 => some (.readDeck p tag)
  | 0x4B, 0 => some (.readDemo p tag)
  | 0x4C, 1 => some (.readModule p tag (fieldAt body 0 1))
  | 0x4D, 0 => some (.readRing p tag)
  | 0x4E, 1 => some (.readPort p tag (fieldAt body 0 1))
  | _, _ => none

/-- The command a KIND, TAG and BODY carry at port `p`. -/
def decodeBody (p : PortId) (kind : Nat) (tag : Byte) (body : List Byte) : Option Instr :=
  match decodeRequest kind body with
  | some r => some (.orderedRequest p tag r)
  | none => decodeImmediate p kind tag body

/-- The command a complete frame carries at port `p`; none when the frame is malformed (R165). -/
def decodeFrame (p : PortId) (frame : List Byte) : Option Instr :=
  match frame with
  | s :: len :: kind :: tag :: body =>
    if s = syncByte ∧ len.toNat = 2 + body.length ∧ body.length ≤ 58 then decodeBody p kind.toNat tag body else none
  | _ => none

/-- One byte of a body. -/
def e1 (n : Nat) : List Byte := bytesOf 1 n
/-- Two bytes of a body, most significant first. -/
def e2 (n : Nat) : List Byte := bytesOf 2 n
/-- Four bytes of a body, most significant first. -/
def e4 (n : Nat) : List Byte := bytesOf 4 n

/-- KIND and BODY of an ordered request (R185); a misfit has no one frame. -/
def encodeRequest : Request → Option (Nat × List Byte)
  | .beginConfig => some (0x01, [])
  | .loadSection i er len lim dis ad inp up dn fl =>
    some (0x02, e1 i ++ e1 er ++ e2 len ++ e2 lim ++ e1 dis ++ e1 ad ++ e1 inp ++ e2 up ++ e2 dn ++ e1 fl)
  | .loadPoint i er ad out sec dis => some (0x03, e1 i ++ e1 er ++ e1 ad ++ e1 out ++ e1 sec ++ e1 dis)
  | .loadSignal i er sec en k ad out dis =>
    some (0x04, e1 i ++ e1 er ++ e1 sec ++ e1 en ++ e1 k ++ e1 ad ++ e1 out ++ e1 dis)
  | .loadRoute i er en ex c secs ovl app rd de =>
    some (0x05, e1 i ++ e1 er ++ e1 en ++ e2 ex ++ e1 c ++ (e1 secs.length ++ secs.flatMap (fun x => e1 x.1 ++ e1 x.2)) ++
      (e1 ovl.length ++ ovl.flatMap e1) ++ (e1 app.length ++ app.flatMap e1) ++ e2 rd ++ e1 de)
  | .loadRoutePoints i pts fls =>
    some (0x06, e1 i ++ (e1 pts.length ++ pts.flatMap (fun x => e1 x.1 ++ e1 x.2.1 ++ e1 x.2.2)) ++
      (e1 fls.length ++ fls.flatMap (fun x => e1 x.1 ++ e1 x.2)))
  | .loadDistrict i n => some (0x07, e1 i ++ e1 n)
  | .loadDeck er n sec ad => some (0x08, e1 er ++ e1 n ++ e1 sec ++ e1 ad)
  | .loadDeckRoad rd er sec en => some (0x09, e1 rd ++ e1 er ++ e2 sec ++ e1 en)
  | .loadTrain i er ad v a b => some (0x0A, e1 i ++ e1 er ++ e2 ad ++ e2 v ++ e2 a ++ e2 b)
  | .loadPlan i er t st rs th ad inp =>
    some (0x0B, e1 i ++ e1 er ++ e1 t ++ e1 st ++ (e1 rs.length ++ rs.flatMap e1) ++ e1 th ++ e1 ad ++ e1 inp)
  | .loadTraction er ad => some (0x0C, e1 er ++ e1 ad)
  | .loadPortRoles s a b c d => some (0x0D, e1 s ++ e1 a ++ e1 b ++ e1 c ++ e1 d)
  | .loadParameter k v => some (0x0E, e1 k ++ e2 v)
  | .loadMisfit _ _ => none
  | .commitConfig => some (0x0F, [])
  | .abandonConfig => some (0x10, [])
  | .rest => some (0x18, [])
  | .wake => some (0x19, [])
  | .reconfigure => some (0x1A, [])
  | .takeDistrict k => some (0x20, e1 k)
  | .giveDistrict k => some (0x21, e1 k)
  | .setDistrictFlags k v => some (0x22, e1 k ++ e1 v)
  | .movePoint n pos => some (0x23, e1 n ++ e1 pos)
  | .setRoute r o => some (0x24, e1 r ++ e1 o)
  | .cancelRoute r => some (0x25, e1 r)
  | .placeTrain t sec d => some (0x28, e1 t ++ e1 sec ++ e1 d)
  | .removeTrain t => some (0x29, e1 t)
  | .takeTrain t => some (0x2A, e1 t)
  | .giveTrain t => some (0x2B, e1 t)
  | .restoreTrain t => some (0x2D, e1 t)
  | .turnDeck r s => some (0x2E, e1 r ++ e1 s)
  | .passDemo n => some (0x30, e1 n)
  | .vetoDemo n => some (0x31, e1 n)
  | .setSweepMode m per => some (0x32, e1 m ++ e2 per)
  | .selectCounter c ev q => some (0x33, e1 c ++ e1 ev ++ e1 q)
  | .decrementCounter c d => some (0x34, e1 c ++ e4 d)

/-- Port, KIND, TAG and BODY of the frame that carries a command; none for a command no frame carries. -/
def encodeCommand : Instr → Option (PortId × Nat × Byte × List Byte)
  | .orderedRequest p tag r => (encodeRequest r).map (fun e => (p, e.1, tag, e.2))
  | .allStop p tag => some (p, 0x1B, tag, [])
  | .resume p tag => some (p, 0x1C, tag, [])
  | .present p tag => some (p, 0x1D, tag, [])
  | .throttle p tag t v d => some (p, 0x2C, tag, e1 t ++ e1 v ++ e1 d)
  | .setSilence p tag v => some (p, 0x38, tag, e2 v)
  | .holdOff p tag q => some (p, 0x39, tag, e2 q)
  | .setSubscription p tag m => some (p, 0x3A, tag, e2 m)
  | .setTrigger p tag v => some (p, 0x3B, tag, e1 v)
  | .readCounters p tag => some (p, 0x3C, tag, [])
  | .readDescription p tag t i => some (p, 0x40, tag, e1 t ++ e2 i)
  | .readMode p tag => some (p, 0x41, tag, [])
  | .readSection p tag n => some (p, 0x42, tag, e1 n)
  | .readPoint p tag n => some (p, 0x43, tag, e1 n)
  | .readSignal p tag n => some (p, 0x44, tag, e1 n)
  | .readDistricts p tag => some (p, 0x45, tag, [])
  | .readInstance p tag n => some (p, 0x46, tag, e1 n)
  | .readRouteEngine p tag => some (p, 0x47, tag, [])
  | .readTrain p tag n => some (p, 0x48, tag, e1 n)
  | .readSupervision p tag n => some (p, 0x49, tag, e1 n)
  | .readDeck p tag => some (p, 0x4A, tag, [])
  | .readDemo p tag => some (p, 0x4B, tag, [])
  | .readModule p tag n => some (p, 0x4C, tag, e1 n)
  | .readRing p tag => some (p, 0x4D, tag, [])
  | .readPort p tag n => some (p, 0x4E, tag, e1 n)
  | _ => none

/-- The desk frame that carries a command: SYNC, LENGTH, KIND, TAG, BODY (Table 12-1). -/
def encodeFrame (c : Instr) : Option (PortId × List Byte) :=
  (encodeCommand c).map fun e =>
    (e.1, [syncByte, byte (2 + e.2.2.2.length), byte e.2.1, e.2.2.1] ++ e.2.2.2)

end Sys2Proof
end

