-- ==== Sys2Proof/Config.lean ====
section
/-! DEFINITION. What the spec fixes as a constant of the part, and the values the spec leaves open. -/

namespace Sys2Proof.Config

/-- The largest number of requests in a port's request queue (R170). -/
def queueCapacity : Nat := 8
/-- The largest number of responses in a port's response list (R172). -/
def responseCapacity : Nat := 16
/-- The largest number of records in a port's notice queue (R176). -/
def noticeCapacity : Nat := 32
/-- The quanta of a HOLD frame that asks the board to stop (R173). -/
def holdQuanta : Nat := 200
/-- One quantum of hold time in ms (section 10.4). -/
def quantumMs : Nat := 10
/-- The malformed run at which a port becomes ISOLATED (R165). -/
def malformedLimit : Nat := 8
/-- The default silence interval in ms (R167, R169). -/
def defaultSilence : Nat := 500
/-- How long a record may wait for company, in ms (R177). -/
def noticeWaitMs : Nat := 20
/-- The most records in one NOTICE frame (R177). -/
def noticesPerFrame : Nat := 6
/-- The largest number of body bytes in a desk frame: LENGTH is at most 60 and counts KIND and TAG (R185). -/
def bodyCapacity : Nat := 58
/-- The number of route instance slots (R44). -/
def slots : Nat := 32
/-- The largest lock count of a point (R52). -/
def pointLockLimit : Nat := 8
/-- The capacity of the retry list (R57). -/
def retryCapacity : Nat := 8
/-- The grants a batch port may have in a row (R46). -/
def batchRun : Nat := 3
/-- The longest section list of a train (R83). -/
def listLimit : Nat := 8
/-- The longest authority list (R105). -/
def authorityLimit : Nat := 16
/-- The supervision period in ms (R101). -/
def supervisionMs : Nat := 50
/-- The refresh count at which a SPEED command falls due (R115). -/
def refreshDue : Nat := 20
/-- The greatest speed the controller commands (R108, R110). -/
def maxSpeed : Nat := 1023
/-- The capacity of the demonstration queue (R135). -/
def demoCapacity : Nat := 6
/-- The places of the ring command queue (R159). -/
def ringCapacity : Nat := 32
/-- The misses in a row at which an ACTIVE module fails (R152). -/
def missLimit : Nat := 3
/-- The postponement count at which the ring is overloaded (R157). -/
def overloadLimit : Nat := 8
/-- The sweep period in REST, in ms (R14, R15). -/
def restPeriod : Nat := 1000
/-- The value at which a counter is half full (R184). -/
def halfFull : Nat := 2147483648

/-- FREE VALUE (log entry 3).  The reason code of a REFUSED response to a request whose field holds a code that names
no value, where the rule that owns the request names no reason for it (R165).  Applied to the KIND code. -/
opaque unstatedReason : Nat → Fin 27

/-- FREE VALUE (log entry 4).  A byte of the head offset, output speed or permitted speed that READ-TRAIN and a TRAIN
record report for an ABSENT train, which has no supervision state (R100, R101).  Applied to the state's counter of free
values and to the place of the byte. -/
opaque unstatedByte : Nat → Nat → Byte

/-- FREE VALUE (log entry 5).  The admission condition a DEMO UNAVAILABLE record carries when every condition holds at
the expiry of the admission timer (R142).  Applied to the state's counter of free values. -/
opaque unstatedCondition : Nat → Fin 7

/-- FREE VALUE (log entry 4).  The distance to the end of authority that READ-SUPERVISION reports where R119 states none: for
a train that has stepped beyond the authority list of its most recent expiry (R93), and where a section that the distance counts
is undescribed since a commit (R7).  Applied to the state's counter of free values. -/
opaque unstatedDistance : Nat → Nat

end Sys2Proof.Config
end

