-- ==== Sys2Proof/Machine/Description.lean ====
section
/-! DEFINITION. The layout description (chapter 1): the entries of its tables, its parameters and its port roles, and
the names of the states, aspects and kinds the other blocks use. -/

namespace Sys2Proof.Machine

/-- A travel direction, and the end of a section that lies in it (Table 0-4). -/
inductive Dir | up | down
deriving DecidableEq, Repr

/-- An end of the turntable deck (R120). -/
inductive DeckEnd | a | b
deriving DecidableEq, Repr

/-- A position of a point (Table 1-4). -/
inductive Position | normal | reverse
deriving DecidableEq, Repr

/-- The kinds of signal (Table 1-3). -/
inductive SignalKind | main | shunt | deck
deriving DecidableEq, Repr

/-- The classes of route (Table 1-4). -/
inductive RouteClass | main | shunt
deriving DecidableEq, Repr

/-- A sense of rotation of the deck (R120). -/
inductive Sense | cw | ccw
deriving DecidableEq, Repr

/-- A requested sense of rotation (R122). -/
inductive ReqSense | cw | ccw | short
deriving DecidableEq, Repr

/-- The sweep modes (Table 1-7). -/
inductive SweepMode | full | split2 | split4
deriving DecidableEq, Repr

/-- A sweep setting: a mode and a period in ms (R154). -/
structure SweepSetting where
  mode : SweepMode
  period : Nat
deriving DecidableEq, Repr

/-- Who drives, requests or is counted for: a port or the Demonstration Unit (R179). -/
inductive Party
  | port (p : PortId)
  | demo
deriving DecidableEq, Repr

/-- A section entry (Table 1-2). -/
structure SectionEntry where
  length : Nat
  limit : Nat
  district : Nat
  addr : Nat
  input : Nat
  upSignal : Option Nat
  downSignal : Option Nat
  deckFlag : Bool
deriving DecidableEq, Repr

/-- A point entry (Table 1-3). -/
structure PointEntry where
  addr : Nat
  output : Nat
  sec : Nat
  district : Nat
deriving DecidableEq, Repr

/-- A signal entry (Table 1-3). -/
structure SignalEntry where
  sec : Nat
  stands : Dir
  kind : SignalKind
  addr : Nat
  output : Nat
  district : Nat
deriving DecidableEq, Repr

/-- A route point: the point, its required position and the index of the route section it lies in (Table 1-4). -/
structure RoutePoint where
  point : Nat
  pos : Position
  idx : Nat
deriving DecidableEq, Repr

/-- A route entry (Table 1-4). -/
structure RouteEntry where
  entry : Nat
  exit : Option Nat
  cls : RouteClass
  sections : List (Nat × Dir)
  points : List RoutePoint
  flanks : List (Nat × Position)
  overlap : List Nat
  approach : List Nat
  deckReq : Option (Nat × DeckEnd)
deriving DecidableEq, Repr

/-- A deck road entry (Table 1-5). -/
structure RoadEntry where
  sec : Option Nat
  meeting : Dir
deriving DecidableEq, Repr

/-- The deck entry with its road entries (Table 1-5). -/
structure DeckEntry where
  n : Nat
  sec : Nat
  addr : Nat
  roads : Table RoadEntry
deriving DecidableEq, Repr

/-- A train entry (Table 1-6). -/
structure TrainEntry where
  addr : Nat
  vmax : Nat
  accel : Nat
  brake : Nat
deriving DecidableEq, Repr

/-- A demonstration plan entry (Table 1-6). -/
structure PlanEntry where
  train : Nat
  start : Nat
  routes : List Nat
  throttle : Nat
  addr : Nat
  input : Nat
deriving DecidableEq, Repr

/-- The parameter set (Table 1-7), in its order.  Times are in the unit the table gives. -/
structure Params where
  sweepPeriod : Nat
  sweepMode : SweepMode
  threshold : Nat
  stopMargin : Nat
  releaseSpeed : Nat
  shuntLimit : Nat
  pointTimeout : Nat
  approachTime : Nat
  overlapTime : Nat
  retryLife : Nat
  deckStep : Nat
  deckSettle : Nat
  screening : Nat
  runLimit : Nat
  admission : Nat
deriving DecidableEq, Repr

/-- The port roles (Table 1-6). -/
structure Roles where
  screening : Option PortId
  batchA : Bool
  batchB : Bool
  batchC : Bool
  batchD : Bool
deriving DecidableEq, Repr

/-- A layout description (Table 1-1). `names` holds the name index of each of the eight districts. -/
structure Desc where
  sections : Table SectionEntry
  points : Table PointEntry
  signals : Table SignalEntry
  routes : Table RouteEntry
  names : List Nat
  deck : Option DeckEntry
  trains : Table TrainEntry
  plans : Table PlanEntry
  traction : Option Nat
  roles : Roles
  params : Params
deriving DecidableEq, Repr

/-- The default parameters (Table 1-7). -/
def Params.default : Params :=
  { sweepPeriod := 100, sweepMode := .full, threshold := 8, stopMargin := 40, releaseSpeed := 25, shuntLimit := 150,
    pointTimeout := 3000, approachTime := 30, overlapTime := 10, retryLife := 60, deckStep := 1500, deckSettle := 2000,
    screening := 5, runLimit := 300, admission := 120 }

/-- The description after power-on reset (R22): every entry undescribed, names 0, parameters at their defaults, no
screening port, all batch flags clear. -/
def Desc.blank : Desc :=
  { sections := [], points := [], signals := [], routes := [], names := List.replicate 8 0, deck := none, trains := [],
    plans := [], traction := none, params := Params.default,
    roles := { screening := none, batchA := false, batchB := false, batchC := false, batchD := false } }

/-- The controller modes (Table 1-9). -/
inductive Mode | config | waking | inService | rest
deriving DecidableEq, Repr

/-- By which event WAKING was entered (R11). -/
inductive WakeCause | commit | wake
deriving DecidableEq, Repr

/-- The causes the all-stop latch records (R20). -/
inductive StopCause
  | emergency
  | port (p : PortId)
  | overload
  | tractionFailed
deriving DecidableEq, Repr

/-- The accepted occupancy of a section (Table 2-1). -/
inductive Occupancy | clear | occupied
deriving DecidableEq, Repr

/-- The occupant of a section (Table 2-1). -/
inductive Occupant
  | none
  | train (t : Nat)
  | unknown
deriving DecidableEq, Repr

/-- The role in which an instance holds a section (R27). -/
inductive LockRole | route | overlap
deriving DecidableEq, Repr

/-- The lock of a section: the slot of the instance that holds it and the role (R27). -/
structure Lock where
  slot : Nat
  role : LockRole
deriving DecidableEq, Repr

/-- The reported position of a point (Table 2-2). -/
inductive Reported | normal | reverse | moving | unproven
deriving DecidableEq, Repr

/-- The aspects (R35). -/
inductive Aspect | stop | caution | clear | shunt
deriving DecidableEq, Repr

/-- The states of a route instance (R44). -/
inductive InstState | setting | set | occupied | releasing
deriving DecidableEq, Repr

/-- The release mark of a route section (Table 4-1). -/
inductive Mark | locked | passed | released
deriving DecidableEq, Repr

/-- The deck claim of a route instance (R44, R54). -/
inductive Claim | none | pending | locked
deriving DecidableEq, Repr

/-- The state from which an instance entered RELEASING (Table 4-1). -/
inductive Origin | set | occupied
deriving DecidableEq, Repr

/-- The states of a train record (R83). -/
inductive TrainState | absent | placed | disrupted
deriving DecidableEq, Repr

/-- The direction of a train: a travel direction, or the deck end it faces (Table 5-1). -/
inductive Heading | up | down | faceA | faceB
deriving DecidableEq, Repr

/-- The causes of disruption (Table 5-1). -/
inductive Cause | overrun | vanished | parted | overflow | deck
deriving DecidableEq, Repr

/-- The limiting term of a permitted speed (R110). -/
inductive Term
  | vmax
  | line
  | sec (n : Nat)
  | eoa
  | release
  | disrupted
deriving DecidableEq, Repr

/-- The drive sense sent to the traction station (R115). -/
inductive DriveSense | forward | backward
deriving DecidableEq, Repr

/-- The lamp of a visitor button (R137). -/
inductive Lamp | closed | ready | queued | running
deriving DecidableEq, Repr

/-- The level of a visitor button (R138). -/
inductive Level | pressed | released
deriving DecidableEq, Repr

/-- The kinds of ring module (Table 9-1); an address with no described entry is ABSENT (R2). -/
inductive ModKind | absent | detect | point | signal | button | deck | traction
deriving DecidableEq, Repr

/-- The states of a ring module (R149). -/
inductive ModState | absent | active | failed
deriving DecidableEq, Repr

/-- The states of a desk port (Table 10-1). -/
inductive PortState | offline | online | lost | isolated
deriving DecidableEq, Repr

/-- The members of the Route Engine's rotation (R45). -/
inductive Member
  | port (p : PortId)
  | g
deriving DecidableEq, Repr

/-- The reason codes (Table 12-4), in code order from 1. -/
inductive Reason
  | wrongMode | notHolder | notDriver | notConfigurer | sessionOpen | held | alreadySet | alreadyQueued
  | alreadyReleasing | noSlot | conflict | pointBlocked | deckBusy | deckLocked | deckOccupied | locked | occupied
  | moduleFailed | busy | queueFull | retryFull | notQuiet | estopActive | tooLate | vanished | unknownItem | validation
deriving DecidableEq, Repr

/-- The fault kinds of a VALIDATION refusal (section 12.1). -/
inductive FaultKind
  | fieldRange | refMissing | dupModuleInput | routeShape | deckShape | noTraction | planShape
deriving DecidableEq, Repr

/-- The tables of the description, in the order of Table 1-1. -/
inductive TableId
  | sec | point | signal | route | district | deck | train | plan | traction | roles | params
deriving DecidableEq, Repr

/-- The kinds of counting event, in the order of Table 11-2. -/
inductive EventKind
  | routesSet | routesRefused | sectionSteps | signalOverruns | interventions | deckTurns | demosCompleted
  | buttonPresses | routeFailed | ringErrors | moduleFailures | noticesLost | demoVetoed | demoAborted | demoRefused
  | trainDisrupted | sweepOverrun
deriving DecidableEq, Repr

/-- The qualifier of a programmable counter (R180). -/
inductive Qualifier
  | any
  | port (p : PortId)
  | demo
  | district (k : Nat)
deriving DecidableEq, Repr

/-- The selection of a programmable counter (section 11.2). -/
structure Selection where
  event : EventKind
  qual : Qualifier
deriving DecidableEq, Repr

/-- A ring command (Table 9-2). -/
inductive RingCmd
  | aspect (sig : Nat) (a : Aspect)
  | speed (train : Nat) (v : Nat) (sense : DriveSense)
  | lamp (plan : Nat) (l : Lamp)
  | pointMove (pt : Nat) (pos : Position)
  | deckTurn (target : Nat) (sense : Sense)
  | power (on : Bool)
deriving DecidableEq, Repr

/-- What a ring command is for (Table 9-2): no two commands for one target wait at once. -/
inductive RingTarget
  | signal (n : Nat)
  | train (n : Nat)
  | button (n : Nat)
  | point (n : Nat)
  | deck
  | traction
deriving DecidableEq, Repr

/-- The conditions of an admission, in the order R142 names them for DEMO UNAVAILABLE. -/
inductive AdmCond | closed | run | cancels | trainState | driver | sec | moving
deriving DecidableEq, Repr

/-- The reasons of an abort (R146); REFUSED carries the refusal. -/
inductive AbortReason
  | runLimit
  | veto
  | disrupted
  | notHolder
  | refused (r : Reason)
  | routeFailed
  | serviceClosed
deriving DecidableEq, Repr

end Sys2Proof.Machine
end

