-- ==== Sys2Proof/Machine/Notice.lean ====
section
/-! DEFINITION. The records the controller raises (section 10.5) and the responses it gives (R172), with the fields
their rules name.  Their byte layouts are in Machine/Formats.lean. -/

namespace Sys2Proof.Machine

/-- The notice classes, in the order of Table 10-3. -/
inductive NoticeClass
  | occupancy | signal | point | train | deck | route | supervision | demo | district | port | module | counter | mode
deriving DecidableEq, Repr

/-- Events of an OCCUPANCY record (Table 12-5). -/
inductive OccEvent | state | lock | unknown
deriving DecidableEq, Repr

/-- Events of a POINT record (Table 12-5). -/
inductive PointEvent | position | timeout | lock
deriving DecidableEq, Repr

/-- Events of a TRAIN record (R100, Table 12-5). -/
inductive TrainEvent | placed | removed | step | reversed | disrupted | restored | driver | speed
deriving DecidableEq, Repr

/-- The fields of READ-TRAIN that a TRAIN record carries (R100).  `sup` holds head offset, output and permitted speed;
an ABSENT train has none. -/
structure TrainReport where
  entry : TrainEntry
  state : TrainState
  cause : Option Cause
  list : List Nat
  heading : Heading
  driver : Option Party
  throttle : Nat
  pendRev : Bool
  sup : Option (Nat × Nat × Nat)
deriving DecidableEq, Repr

/-- Where the deck is held to be (Table 7-2). -/
inductive DeckPos
  | aligned (j : Nat)
  | moving (f t : Nat) (sense : Sense)
  | unproven
deriving DecidableEq, Repr

/-- Who started the deck move under way (Table 7-2): a port, or a route instance with that instance's requester. -/
inductive MoveReq
  | port (p : PortId)
  | inst (slot : Nat) (party : Party)
deriving DecidableEq, Repr

/-- Causes of DECK ALIGNED (R134). -/
inductive AlignCause | completed | stopped | found
deriving DecidableEq, Repr

/-- Causes of DECK UNPROVEN (R134). -/
inductive UnprovenCause | lost | moduleFailed
deriving DecidableEq, Repr

/-- Causes of DECK LATCH-DISCARDED (R134). -/
inductive DiscardCause | timeout | lost | moduleFailed | config | rest
deriving DecidableEq, Repr

/-- Events of a DECK record (R134). -/
inductive DeckEvent
  | moving (steps : Nat) (req : MoveReq)
  | aligned (cause : AlignCause) (target : Option Nat)
  | timeout (target : Nat)
  | unproven (cause : UnprovenCause)
  | latched
  | latchStarted (steps : Nat)
  | latchRefused (reason : Reason)
  | latchDiscarded (cause : DiscardCause)
deriving DecidableEq, Repr

/-- Why an instance failed (R64) and the item concerned. -/
inductive FailReason
  | pointTimeout (pt : Nat)
  | pointLost (pt : Nat)
  | deckLost
deriving DecidableEq, Repr

/-- Why a retry entry left the list without evaluation (R60). -/
inductive ExpireCause | lifetime | portLost | rest | config
deriving DecidableEq, Repr

/-- Why an instance was released (R71, R75, R78). -/
inductive ReleaseCause | passage | cancel | timer
deriving DecidableEq, Repr

/-- Events of a ROUTE record (Tables 3-4 and 4-3). -/
inductive RouteEvent
  | setting (slot route : Nat) (requester : Party) (absorbed : List (Nat × Nat))
  | set (slot route : Nat)
  | queued (route : Nat) (p : PortId) (reason : Reason)
  | queuedSet (route : Nat) (p : PortId) (slot : Nat)
  | retryRefused (route : Nat) (p : PortId) (reason : Reason)
  | expired (route : Nat) (p : PortId) (cause : ExpireCause)
  | failed (slot route : Nat) (reason : FailReason)
  | occupied (slot route train : Nat)
  | overlapReleased (slot : Nat) (sections : List Nat) (receiver : Option Nat)
  | releasing (slot route : Nat) (origin : Origin) (source : Party)
  | cancelVoid (slot route train : Nat)
  | released (slot route : Nat) (cause : ReleaseCause)
deriving DecidableEq, Repr

/-- Events of a SUPERVISION record (R93, R114). -/
inductive SupEvent
  | signalOverrun (train signal sec : Nat)
  | interventionStart (train demanded permitted : Nat) (term : Term)
  | interventionEnd (train permitted : Nat)
deriving DecidableEq, Repr

/-- Which of the three service conditions fail (R136). -/
structure Failing where
  mode : Bool
  screening : Bool
  allStop : Bool
deriving DecidableEq, Repr

/-- How an entry was accepted (R140). -/
inductive AcceptCause | pass | window
deriving DecidableEq, Repr

/-- Events of a DEMO record (Table 8-1). -/
inductive DemoEvent
  | opened
  | closed (failing : Failing)
  | pending (plan train place : Nat)
  | accepted (plan : Nat) (cause : AcceptCause)
  | vetoed (plan : Nat)
  | refused (plan : Nat)
  | unavailable (plan : Nat) (cond : AdmCond)
  | dropped (plan : Nat)
  | admitted (plan train : Nat)
  | paused (plan : Nat)
  | resumed (plan : Nat)
  | completed (plan train : Nat)
  | aborted (plan train : Nat) (reason : AbortReason)
deriving DecidableEq, Repr

/-- Events of a DISTRICT record (R38 to R41). -/
inductive DistrictEvent
  | taken (p : PortId)
  | given (p : PortId)
  | flags (p : PortId) (demoOk : Bool)
  | freed (p : PortId) (state : PortState)
deriving DecidableEq, Repr

/-- Events of a MODULE record (Table 9-3). -/
inductive ModuleEvent
  | active (addr : Nat) (kind : ModKind) (previous : ModState)
  | failed (addr : Nat) (kind : ModKind)
  | powerMismatch (commanded reported : Bool)
  | sweepSet (setting : SweepSetting)
  | ringOverloaded (count : Nat)
  | commandLost (cmd : RingCmd)
deriving DecidableEq, Repr

/-- Events of a COUNTER record (R181, R184). -/
inductive CounterEvent
  | halfFull (counter : Nat) (sel : Option Selection) (value : Nat)
  | selected (counter : Nat) (sel : Selection) (p : PortId)
deriving DecidableEq, Repr

/-- Why a configuration session closed (R7, R8). -/
inductive CloseCause | commit | abandon | portLost
deriving DecidableEq, Repr

/-- Why a pending REST was abandoned (R13, R14). -/
inductive AbandonCause
  | throttle (train : Nat)
  | output
  | deck
  | demo
deriving DecidableEq, Repr

/-- Events of a MODE record (Table 1-11 and R176). -/
inductive ModeEvent
  | sessionOpen (p : PortId)
  | sessionClosed (cause : CloseCause)
  | waking (cause : WakeCause)
  | inService
  | restPending (p : PortId)
  | restAbandoned (cause : AbandonCause)
  | rest
  | config (p : PortId)
  | allStop (cause : StopCause)
  | resumed (p : PortId)
  | lostNotices (count : Nat)
deriving DecidableEq, Repr

/-- A notice record (R175) with the fields its rule gives it. -/
inductive Notice
  | occupancy (sec : Nat) (ev : OccEvent) (occ : Occupancy) (occupant : Occupant) (lock : Option Lock)
  | signal (sig : Nat) (aspect : Aspect)
  | point (pt : Nat) (ev : PointEvent) (reported : Reported) (commanded : Option Position) (locks : Nat)
      (lockedPos : Position)
  | train (t : Nat) (ev : TrainEvent) (report : TrainReport)
  | deck (ev : DeckEvent) (pos : DeckPos) (latchRoad : Option Nat)
  | route (ev : RouteEvent)
  | supervision (ev : SupEvent)
  | demo (ev : DemoEvent)
  | district (k : Nat) (ev : DistrictEvent)
  | port (p : PortId) (state previous : PortState)
  | module (ev : ModuleEvent)
  | counter (ev : CounterEvent)
  | mode (ev : ModeEvent)
deriving DecidableEq, Repr

/-- A record in a port's notice queue with the time it entered, in ms of the model's clock (R176). -/
structure QueuedNotice where
  entered : Nat
  notice : Notice
deriving DecidableEq, Repr

/-- The detail of a REFUSED response (Table 12-3). -/
inductive Detail
  | none
  | validation (fault : FaultKind) (table : TableId) (item : Nat)
  | held (by_ : Option Party)
deriving DecidableEq, Repr

/-- What a response says (R172). A DONE carries the bytes of the fields its rule gives, in their order (R185). -/
inductive Answer
  | done (fields : List Byte)
  | accepted (slot : Nat)
  | queued
  | latched
  | refused (reason : Reason) (detail : Detail)
deriving DecidableEq, Repr

/-- A response in a port's response list: the TAG of its request and what it says (R172). -/
structure Response where
  tag : Byte
  answer : Answer
deriving DecidableEq, Repr

end Sys2Proof.Machine
end

