-- ==== Sys2Proof/Machine/State.lean ====
section
/-! DEFINITION. Everything the spec gives the controller to hold, block by block (Table 0-3), the reasons a command can
stop, and the state right after power-on reset. -/

namespace Sys2Proof.Machine

/-- A configuration session: the configuring port and the working description (R1, R3). -/
structure Session where
  port : PortId
  working : Desc
deriving DecidableEq, Repr

/-- The Layout Store (R1). -/
structure Store where
  committed : Desc
  session : Option Session
deriving DecidableEq, Repr

/-- Mode Control (sections 1.3 and 1.4).  `wakeBy` says by which event the latest WAKING was entered (R11).
`estop` is the emergency-stop input: true when asserted. -/
structure Control where
  mode : Mode
  wakeBy : WakeCause
  pendingRest : Option PortId
  allStop : Option StopCause
  estop : Bool
deriving DecidableEq, Repr

/-- The dynamic state of a section (Table 2-1); its clear count stands in the module table. -/
structure SecState where
  occ : Occupancy
  occupant : Occupant
  lock : Option Lock
  disturbed : Bool
deriving DecidableEq, Repr

/-- The dynamic state of a point (Table 2-2); its neither count stands in the module table.  `timer` holds the ms left
of a running move timer. -/
structure PtState where
  reported : Reported
  commanded : Option Position
  locks : Nat
  lockedPos : Position
  timer : Option Nat
deriving DecidableEq, Repr

/-- A district: its holder and the DEMO-OK flag (section 2.4). -/
structure District where
  holder : Option PortId
  demoOk : Bool
deriving DecidableEq, Repr

/-- A point an instance holds (R44): the position it requires and, for a route point, the index of its route section;
a flank point has no index. -/
structure HeldPoint where
  point : Nat
  pos : Position
  idx : Option Nat
deriving DecidableEq, Repr

/-- The approach release timer (Table 4-1), in ms. -/
inductive ApproachTimer
  | stopped
  | running (left : Nat)
  | expired
deriving DecidableEq, Repr

/-- The overlap release timer (Table 4-1), in ms. -/
inductive OverlapTimer
  | stopped
  | running (left : Nat)
  | done
deriving DecidableEq, Repr

/-- A route instance (R44, Table 4-1).  `marks` has one mark for each section of the route's section list, in order. -/
structure Inst where
  route : Nat
  requester : Party
  state : InstState
  marks : List Mark
  overlap : List Nat
  held : List HeldPoint
  claim : Claim
  entering : Option Nat
  firstPassing : Option Nat
  origin : Option Origin
  approach : ApproachTimer
  overlapTimer : OverlapTimer
deriving DecidableEq, Repr

/-- The Interlocking Unit (chapters 2 to 4). A slot of `instances` that is not listed is free. -/
structure Interlock where
  sections : Table SecState
  points : Table PtState
  signals : Table Aspect
  districts : List District
  instances : Table Inst
deriving DecidableEq, Repr

/-- An entry of the retry list (R57); `left` is the ms left of its lifetime. -/
structure RetryEntry where
  route : Nat
  port : PortId
  left : Nat
  reason : Reason
  eligible : Bool
deriving DecidableEq, Repr

/-- The Route Engine (R46, R57).  `last` is the member that had the previous grant (R46). -/
structure Engine where
  pointer : Member
  batch : Nat
  last : Option Member
  retry : List RetryEntry
deriving DecidableEq, Repr

/-- A section of an authority list, with the route it was taken from (R92 step 3); the head section has none. -/
structure AuthSec where
  sec : Nat
  route : Option Nat
deriving DecidableEq, Repr

/-- The supervision state of a train (Table 6-1), with the ms left on its supervision timer.  `output` is the output in
force; `settled` is the output of the most recent supervision expiry, which the all-stop latch leaves (R86, R116). -/
structure Sup where
  offset : Nat
  auth : List AuthSec
  permitted : Nat
  term : Term
  demanded : Nat
  output : Nat
  settled : Nat
  intervening : Bool
  sense : DriveSense
  refresh : Nat
  notified : Nat
  timer : Nat
deriving DecidableEq, Repr

/-- A train record (Table 5-1); its static part is the committed train entry.  `sup` is the supervision state of a
PLACED or DISRUPTED train (R101). -/
structure TrainRec where
  state : TrainState
  list : List Nat
  heading : Heading
  driver : Option Party
  throttle : Nat
  pendRev : Bool
  cause : Option Cause
  sup : Option Sup
deriving DecidableEq, Repr

/-- A latched move (Table 7-2). -/
structure Latch where
  road : Nat
  sense : ReqSense
  port : PortId
deriving DecidableEq, Repr

/-- The Deck Controller (Table 7-2). -/
structure DeckState where
  pos : DeckPos
  req : Option MoveReq
  timer : Option Nat
  latch : Option Latch
  reported : Option Nat
  doubt : Nat
deriving DecidableEq, Repr

/-- A visitor button (R135). -/
structure Button where
  level : Option Level
  lamp : Lamp
deriving DecidableEq, Repr

/-- An entry of the demonstration queue (R135); the timers hold the ms left. -/
structure DemoEntry where
  plan : Nat
  accepted : Bool
  screening : Option Nat
  admission : Option Nat
deriving DecidableEq, Repr

/-- The route request in hand (R135). -/
inductive Hand
  | none
  | fresh
  | blocked (r : Reason)
deriving DecidableEq, Repr

/-- The running record (R135): `next` is the next route index, `insts` the plan's instances with their route indices,
`left` the ms left on the run-limit timer, which is frozen while `paused`. -/
structure Run where
  plan : Nat
  train : Nat
  next : Nat
  hand : Hand
  insts : List (Nat × Nat)
  left : Nat
  paused : Bool
deriving DecidableEq, Repr

/-- The Demonstration Unit (R135). -/
structure Demo where
  failing : Failing
  buttons : Table Button
  queue : List DemoEntry
  run : Option Run
  cancel : List Nat
deriving DecidableEq, Repr

/-- A module table entry (R149). An address of kind ABSENT is not listed in the table. -/
structure Module where
  kind : ModKind
  state : ModState
  misses : Nat
  data : Option (List Byte)
  clearCounts : List Nat
  neitherCounts : List Nat
deriving DecidableEq, Repr

/-- The Ring Master (chapter 9).  The sweep: `group` is the group of the partial sweep under way, `todo` the addresses
it has still to poll, `window` the address whose answer window is open, `due` the commands due before the next poll
(R162), `underWay` and `postponed` as R154 and R157 name them, `restTail` while the polls of the rest sweep run on after
WAKE (R158).  `line` is the frame most recently sent on the line. -/
structure Ring where
  modules : Table Module
  running : SweepSetting
  pendingSetting : Option SweepSetting
  service : SweepSetting
  timer : Option Nat
  nextGroup : Nat
  group : Nat
  underWay : Bool
  todo : List Nat
  window : Option Nat
  due : Nat
  postponed : Bool
  restTail : Bool
  postCount : Nat
  overloaded : Bool
  stopRun : List RingCmd
  queue : List RingCmd
  slot : Option RingCmd
  power : Option Bool
  mismatch : Bool
  line : List Byte
deriving DecidableEq, Repr

/-- The receive assembler (R164): idle, or collecting with the bytes so far. -/
inductive Assembler
  | idle
  | collecting (bytes : List Byte)
deriving DecidableEq, Repr

/-- A request waiting in a port's request queue (R170). -/
structure QueuedRequest where
  tag : Byte
  req : Request
deriving DecidableEq, Repr

/-- A Desk Port Unit (chapter 10). Timers hold the ms left while they run.  `subs` has one bit per notice class, in the
order of Table 10-3.  `tx` is the frame most recently begun on the transmit line. -/
structure Port where
  state : PortState
  assembler : Assembler
  malformed : Nat
  queue : List QueuedRequest
  responses : List Response
  overruns : Nat
  pendingHold : Option Nat
  holding : Bool
  holdTimer : Option Nat
  holdOff : Option Nat
  notices : List QueuedNotice
  lost : Nat
  subs : BitVec 13
  trigger : Nat
  silence : Nat
  silenceTimer : Option Nat
  tx : List Byte
deriving DecidableEq, Repr

/-- The four desk ports. -/
structure Ports where
  a : Port
  b : Port
  c : Port
  d : Port
deriving DecidableEq, Repr

/-- The Counter Unit (chapter 11): twelve values and half-full flags, and the selections of P0 to P3. -/
structure Counters where
  values : List Word32
  half : List Bool
  sel : List Selection
deriving DecidableEq, Repr

/-- The state of the block.  `now` is the model's clock in ms and `freeSeed` its counter of free values; `pending` is
the queue of the commands that wait to be taken. -/
structure State where
  now : Nat
  freeSeed : Nat
  store : Store
  ctl : Control
  il : Interlock
  engine : Engine
  trains : Table TrainRec
  deck : Option DeckState
  demo : Demo
  ring : Ring
  ports : Ports
  counters : Counters
  pending : List Instr
deriving DecidableEq, Repr

/-- The faults of a command: none.  No command of the spec stops the controller, so no command faults (safe). -/
inductive Fault
deriving DecidableEq, Repr

/-- The refusals of a command. -/
inductive Refusal
  /-- The command has no meaning in the model yet: raised by `exec`'s arm alone (safe). -/
  | notModelled (mnemonic : String)
deriving DecidableEq, Repr

/-- A desk port right after reset or a break (R169). -/
def Port.reset : Port :=
  { state := .offline, assembler := .idle, malformed := 0, queue := [], responses := [], overruns := 0,
    pendingHold := none, holding := false, holdTimer := none, holdOff := none, notices := [], lost := 0,
    subs := BitVec.allOnes 13, trigger := 1, silence := Config.defaultSilence, silenceTimer := none, tx := [] }

/-- The default sweep setting (Table 1-7). -/
def SweepSetting.default : SweepSetting := { mode := .full, period := 100 }

/-- The Ring Master after power-on reset (R149, R153, R154, R157, R159). -/
def Ring.reset : Ring :=
  { modules := [], running := SweepSetting.default, pendingSetting := none, service := SweepSetting.default,
    timer := none, nextGroup := 0, group := 0, underWay := false, todo := [], window := none, due := 0,
    postponed := false, restTail := false, postCount := 0, overloaded := false, stopRun := [], queue := [],
    slot := none, power := none, mismatch := false, line := [] }

/-- The Counter Unit after power-on reset (R179, R180, R184). -/
def Counters.reset : Counters :=
  { values := List.replicate 12 0, half := List.replicate 12 false,
    sel := List.replicate 4 { event := .routesSet, qual := .any } }

/-- The machine right after power-on reset with the emergency-stop input released (R22 and the reset sentences of the
other chapters); no command waits. -/
def State.reset : State :=
  { now := 0, freeSeed := 0,
    store := { committed := Desc.blank, session := none },
    ctl := { mode := .config, wakeBy := .commit, pendingRest := none, allStop := none, estop := false },
    il := { sections := [], points := [], signals := [],
            districts := List.replicate 8 { holder := none, demoOk := false }, instances := [] },
    engine := { pointer := .port .a, batch := 0, last := none, retry := [] },
    trains := [], deck := none,
    demo := { failing := { mode := true, screening := true, allStop := false }, buttons := [], queue := [], run := none,
              cancel := [] },
    ring := Ring.reset,
    ports := { a := Port.reset, b := Port.reset, c := Port.reset, d := Port.reset },
    counters := Counters.reset, pending := [] }

end Sys2Proof.Machine
end

