-- ==== Sys2Proof/Machine/Table.lean ====
section
/-! DEFINITION. Reading and writing the tables of numbered items (R1). -/

namespace Sys2Proof.Machine

/-- The entry of item `k`, when it is described. -/
def findItem {α : Type} : Table α → Nat → Option α
  | [], _ => none
  | (i, a) :: t, k => if i = k then some a else findItem t k

/-- Item `k` becomes described with entry `v`; the table stays sorted. -/
def putItem {α : Type} : Table α → Nat → α → Table α
  | [], k, v => [(k, v)]
  | (i, a) :: t, k, v =>
    if k < i then (k, v) :: (i, a) :: t else if k = i then (k, v) :: t else (i, a) :: putItem t k v

/-- Item `k` becomes undescribed. -/
def dropItem {α : Type} (t : Table α) (k : Nat) : Table α := t.filter (fun e => e.1 ≠ k)

/-- The entry of item `k`, when described, becomes `f` of it. -/
def updateItem {α : Type} : Table α → Nat → (α → α) → Table α
  | [], _, _ => []
  | (i, a) :: t, k, f => if i = k then (i, f a) :: t else (i, a) :: updateItem t k f

/-- The numbers of the described items, ascending. -/
def itemNumbers {α : Type} (t : Table α) : List Nat := t.map (·.1)

/-- The items whose entry satisfies `p`, ascending. -/
def itemsWhere {α : Type} (t : Table α) (p : Nat → α → Bool) : List Nat :=
  (t.filter (fun e => p e.1 e.2)).map (·.1)

/-- The entry at place `n` of a fixed list, with a default beyond its end. -/
def entryAt {α : Type} (l : List α) (n : Nat) (d : α) : α := (l[n]?).getD d

end Sys2Proof.Machine
end

