-- ==== Sys2Proof/Machine/Formats.lean ====
section
/-! DEFINITION. The byte layouts of what the controller sends (chapter 12): the codes of named values, responses,
notice records, HOLD frames and ring frames. An absent one-byte field is 0xFF and an absent two-byte field 0xFFFF
(log entry 12). -/

namespace Sys2Proof.Machine

/-- A one-byte field. -/
def b1 (n : Nat) : List Byte := bytesOf 1 n
/-- A two-byte field, most significant byte first. -/
def b2 (n : Nat) : List Byte := bytesOf 2 n
/-- A three-byte field. -/
def b3 (n : Nat) : List Byte := bytesOf 3 n
/-- A four-byte field. -/
def b4 (n : Nat) : List Byte := bytesOf 4 n
/-- A set-or-clear flag. -/
def bFlag (f : Bool) : List Byte := b1 (if f then 1 else 0)
/-- A one-byte field that may be absent. -/
def bOpt (o : Option Nat) : List Byte := b1 (o.getD 255)
/-- An optional item: two bytes, 0xFFFF absent (R185). -/
def bItem (o : Option Nat) : List Byte := b2 (o.getD 65535)
/-- A list: its number of entries, then the entries (R185). -/
def bList {α : Type} (f : α → List Byte) (l : List α) : List Byte := b1 l.length ++ (l.map f).flatten

/-- Ports are coded A 0 to D 3 (R185). -/
def codePort : PortId → Nat
  | .a => 0 | .b => 1 | .c => 2 | .d => 3

/-- DEMO is coded 4 (R185). -/
def codeParty : Party → Nat
  | .port p => codePort p
  | .demo => 4

def codeDir : Dir → Nat | .up => 0 | .down => 1
def codeEnd : DeckEnd → Nat | .a => 0 | .b => 1
def codePos : Position → Nat | .normal => 0 | .reverse => 1
def codeHeading : Heading → Nat | .up => 0 | .down => 1 | .faceA => 0 | .faceB => 1
def codeKind : SignalKind → Nat | .main => 0 | .shunt => 1 | .deck => 2
def codeClass : RouteClass → Nat | .main => 0 | .shunt => 1
def codeSense : Sense → Nat | .cw => 0 | .ccw => 1
def codeReqSense : ReqSense → Nat | .cw => 0 | .ccw => 1 | .short => 2
def codeSweep : SweepMode → Nat | .full => 0 | .split2 => 1 | .split4 => 2
def codeMode : Mode → Nat | .config => 0 | .waking => 1 | .inService => 2 | .rest => 3
def codeWake : WakeCause → Nat | .commit => 0 | .wake => 1
def codeStop : StopCause → Nat | .emergency => 0 | .port _ => 1 | .overload => 2 | .tractionFailed => 3
def codeOcc : Occupancy → Nat | .clear => 0 | .occupied => 1
/-- Occupants are coded 0–47 for a train, 0xFE for UNKNOWN and 0xFF for none (section 12.1). -/
def codeOccupant : Occupant → Nat | .none => 255 | .train t => t | .unknown => 254
def codeRole : LockRole → Nat | .route => 0 | .overlap => 1
def codeReported : Reported → Nat | .normal => 0 | .reverse => 1 | .moving => 2 | .unproven => 3
def codeAspect : Aspect → Nat | .stop => 0 | .caution => 1 | .clear => 2 | .shunt => 3
def codeInst : InstState → Nat | .setting => 0 | .set => 1 | .occupied => 2 | .releasing => 3
def codeMark : Mark → Nat | .locked => 0 | .passed => 1 | .released => 2
def codeClaim : Claim → Nat | .none => 0 | .pending => 1 | .locked => 2
def codeOrigin : Origin → Nat | .set => 0 | .occupied => 1
/-- The release origin of an instance in the order of Table 4-1, `none` first. -/
def codeReleaseOrigin : Option Origin → Nat | none => 0 | some .set => 1 | some .occupied => 2
def codeTrain : TrainState → Nat | .absent => 0 | .placed => 1 | .disrupted => 2
/-- The disruption cause in the order Table 5-1 names it, `none` first (log entry 12 on VANISHED). -/
def codeCause : Option Cause → Nat
  | none => 0 | some .overrun => 1 | some .vanished => 2 | some .parted => 3 | some .overflow => 4 | some .deck => 5
def codeTerm : Term → Nat
  | .vmax => 0 | .line => 1 | .sec _ => 2 | .eoa => 3 | .release => 4 | .disrupted => 5
/-- The section number a limiting term carries. -/
def termSection : Term → Option Nat | .sec n => some n | _ => none
def codeDrive : DriveSense → Nat | .forward => 0 | .backward => 1
def codeLamp : Lamp → Nat | .closed => 0 | .ready => 1 | .queued => 2 | .running => 3
def codeLevel : Option Level → Nat | none => 0 | some .pressed => 1 | some .released => 2
def codeModKind : ModKind → Nat
  | .absent => 0 | .detect => 1 | .point => 2 | .signal => 3 | .button => 4 | .deck => 5 | .traction => 6
def codeModState : ModState → Nat | .absent => 0 | .active => 1 | .failed => 2
def codePortState : PortState → Nat | .offline => 0 | .online => 1 | .lost => 2 | .isolated => 3
def codeMember : Member → Nat | .port p => codePort p | .g => 4

/-- The reason codes of Table 12-4. -/
def codeReason : Reason → Nat
  | .wrongMode => 1 | .notHolder => 2 | .notDriver => 3 | .notConfigurer => 4 | .sessionOpen => 5 | .held => 6
  | .alreadySet => 7 | .alreadyQueued => 8 | .alreadyReleasing => 9 | .noSlot => 10 | .conflict => 11
  | .pointBlocked => 12 | .deckBusy => 13 | .deckLocked => 14 | .deckOccupied => 15 | .locked => 16 | .occupied => 17
  | .moduleFailed => 18 | .busy => 19 | .queueFull => 20 | .retryFull => 21 | .notQuiet => 22 | .estopActive => 23
  | .tooLate => 24 | .vanished => 25 | .unknownItem => 26 | .validation => 27

/-- Every reason, in code order. -/
def allReasons : List Reason :=
  [.wrongMode, .notHolder, .notDriver, .notConfigurer, .sessionOpen, .held, .alreadySet, .alreadyQueued,
   .alreadyReleasing, .noSlot, .conflict, .pointBlocked, .deckBusy, .deckLocked, .deckOccupied, .locked, .occupied,
   .moduleFailed, .busy, .queueFull, .retryFull, .notQuiet, .estopActive, .tooLate, .vanished, .unknownItem,
   .validation]

/-- The fault kinds of section 12.1. -/
def codeFault : FaultKind → Nat
  | .fieldRange => 1 | .refMissing => 2 | .dupModuleInput => 3 | .routeShape => 4 | .deckShape => 5 | .noTraction => 6
  | .planShape => 7

/-- The tables in the order of Table 1-1, from 0. -/
def codeTable : TableId → Nat
  | .sec => 0 | .point => 1 | .signal => 2 | .route => 3 | .district => 4 | .deck => 5 | .train => 6 | .plan => 7
  | .traction => 8 | .roles => 9 | .params => 10

/-- The counting events in the order of Table 11-2, from 0. -/
def codeEvent : EventKind → Nat
  | .routesSet => 0 | .routesRefused => 1 | .sectionSteps => 2 | .signalOverruns => 3 | .interventions => 4
  | .deckTurns => 5 | .demosCompleted => 6 | .buttonPresses => 7 | .routeFailed => 8 | .ringErrors => 9
  | .moduleFailures => 10 | .noticesLost => 11 | .demoVetoed => 12 | .demoAborted => 13 | .demoRefused => 14
  | .trainDisrupted => 15 | .sweepOverrun => 16

/-- Qualifiers are coded ANY 0, A–D 1–4, DEMO 5, district k 8 + k (Table 12-3). -/
def codeQualifier : Qualifier → Nat
  | .any => 0 | .port p => 1 + codePort p | .demo => 5 | .district k => 8 + k

/-- The classes in the order of Table 10-3, from 1. -/
def codeNoticeClass : NoticeClass → Nat
  | .occupancy => 1 | .signal => 2 | .point => 3 | .train => 4 | .deck => 5 | .route => 6 | .supervision => 7
  | .demo => 8 | .district => 9 | .port => 10 | .module => 11 | .counter => 12 | .mode => 13

def codeAdm : AdmCond → Nat
  | .closed => 0 | .run => 1 | .cancels => 2 | .trainState => 3 | .driver => 4 | .sec => 5 | .moving => 6

/-- The reason of an abort by its place in R146's list; that NOT-HOLDER is 3 there, and not 2 as in Table 12-4, is the
model's choice (log entry 12). -/
def codeAbort : AbortReason → Nat
  | .runLimit => 0 | .veto => 1 | .disrupted => 2 | .notHolder => 3 | .refused _ => 4 | .routeFailed => 5
  | .serviceClosed => 6

/-- A port that may be none: 0xFF (R185). -/
def bPort (o : Option PortId) : List Byte := bOpt (o.map codePort)
/-- A party that may be none: 0xFF (R185). -/
def bParty (o : Option Party) : List Byte := bOpt (o.map codeParty)
/-- A commanded position that may be none: 0xFF (R185). -/
def bPos (o : Option Position) : List Byte := bOpt (o.map codePos)
/-- A selection: event and qualifier. -/
def bSel (s : Selection) : List Byte := b1 (codeEvent s.event) ++ b1 (codeQualifier s.qual)
/-- A lock as READ-SECTION answers it: the instance, an optional item of two bytes, and the role (R42, R185). -/
def bLockRead (o : Option Lock) : List Byte := bItem (o.map (·.slot)) ++ bOpt (o.map (fun l => codeRole l.role))
/-- A lock in an OCCUPANCY record: instance, 0xFF none, and role (Table 12-5). -/
def bLock (o : Option Lock) : List Byte := bOpt (o.map (·.slot)) ++ bOpt (o.map (fun l => codeRole l.role))

/-- The kind of a ring command, in the order of Table 9-2. -/
def codeCmd : RingCmd → Nat
  | .aspect _ _ => 0 | .speed _ _ _ => 1 | .lamp _ _ => 2 | .pointMove _ _ => 3 | .deckTurn _ _ => 4 | .power _ => 5

/-- What a ring command is for (Table 9-2). -/
def cmdTarget : RingCmd → RingTarget
  | .aspect n _ => .signal n
  | .speed t _ _ => .train t
  | .lamp n _ => .button n
  | .pointMove n _ => .point n
  | .deckTurn _ _ => .deck
  | .power _ => .traction

/-- The item number of a target; the deck and the traction station have none. -/
def targetItem : RingTarget → Option Nat
  | .signal n => some n | .train n => some n | .button n => some n | .point n => some n | .deck => none
  | .traction => none

/-! ### Notice records -/

/-- The class of a record. -/
def noticeClass : Notice → NoticeClass
  | .occupancy .. => .occupancy | .signal .. => .signal | .point .. => .point | .train .. => .train
  | .deck .. => .deck | .route .. => .route | .supervision .. => .supervision | .demo .. => .demo
  | .district .. => .district | .port .. => .port | .module .. => .module | .counter .. => .counter
  | .mode .. => .mode

/-- The item of a coalescable record (Table 10-3); the deck is one item. -/
def coalesceKey : Notice → Option (NoticeClass × Nat)
  | .occupancy n .. => some (.occupancy, n)
  | .signal n .. => some (.signal, n)
  | .point n .. => some (.point, n)
  | .train n .. => some (.train, n)
  | .deck .. => some (.deck, 0)
  | _ => none

def occEventCode : OccEvent → Nat | .state => 1 | .lock => 2 | .unknown => 3
def pointEventCode : PointEvent → Nat | .position => 1 | .timeout => 2 | .lock => 3
def trainEventCode : TrainEvent → Nat
  | .placed => 1 | .removed => 2 | .step => 3 | .reversed => 4 | .disrupted => 5 | .restored => 6 | .driver => 7
  | .speed => 8

/-- The figures of the Speed Supervisor in READ-TRAIN and in a TRAIN record: head offset 3 bytes, output and permitted
2 each.  An ABSENT train has no such figures: the bytes are free values. -/
def bSup (seed : Nat) : Option (Nat × Nat × Nat) → List Byte
  | some (p, out, perm) => b3 p ++ b2 out ++ b2 perm
  | none => (List.range 7).map (Config.unstatedByte seed)

/-- The detail of a TRAIN record (Table 12-5). -/
def bTrainReport (seed : Nat) (r : TrainReport) : List Byte :=
  b2 r.entry.addr ++ b2 r.entry.vmax ++ b2 r.entry.accel ++ b2 r.entry.brake ++ b1 (codeTrain r.state) ++
  b1 (codeCause r.cause) ++ bList b1 r.list ++ b1 (codeHeading r.heading) ++ bParty r.driver ++ b1 r.throttle ++
  bFlag r.pendRev ++ bSup seed r.sup

def deckEventCode : DeckEvent → Nat
  | .moving .. => 1 | .aligned .. => 2 | .timeout _ => 3 | .unproven _ => 4 | .latched => 5 | .latchStarted _ => 6
  | .latchRefused _ => 7 | .latchDiscarded _ => 8

def codeDeckPos : DeckPos → Nat | .aligned _ => 0 | .moving .. => 1 | .unproven => 2
def codeAlign : AlignCause → Nat | .completed => 0 | .stopped => 1 | .found => 2
/-- The cause of DECK UNPROVEN by its place in section 7.8's list; that MODULE-FAILED is 1 there, and not 18 as in Table
12-4, is the model's choice (log entry 12). -/
def codeUnproven : UnprovenCause → Nat | .lost => 0 | .moduleFailed => 1
/-- The cause of LATCH-DISCARDED by its place in section 7.8's list; that MODULE-FAILED is 2 there, and not 18 as in Table
12-4, is the model's choice (log entry 12). -/
def codeDiscard : DiscardCause → Nat
  | .timeout => 0 | .lost => 1 | .moduleFailed => 2 | .config => 3 | .rest => 4

/-- The from or aligned index of a deck position. -/
def deckIndex : DeckPos → Option Nat | .aligned j => some j | .moving f _ _ => some f | .unproven => none

/-- The target a DECK record carries: of the move under way, or that was not reached. -/
def deckTarget (ev : DeckEvent) (pos : DeckPos) : Option Nat :=
  match ev with
  | .aligned _ t => t
  | .timeout t => some t
  | _ => match pos with
    | .moving _ t _ => some t
    | _ => none

/-- The resolved sense of a move under way. -/
def deckSense : DeckPos → Option Sense | .moving _ _ s => some s | _ => none

/-- The cause or reason byte of a DECK record. -/
def deckCause : DeckEvent → Option Nat
  | .aligned c _ => some (codeAlign c)
  | .unproven c => some (codeUnproven c)
  | .latchRefused r => some (codeReason r)
  | .latchDiscarded c => some (codeDiscard c)
  | _ => none

/-- The detail of a DECK record (Table 12-5).  The steps and the move requester that R124 gives the event MOVING, and the
steps that R127 gives LATCH-STARTED, stand in the notice; Table 12-5 has no place for them, and the model leaves them out
of the bytes (log entry 12). -/
def bDeck (ev : DeckEvent) (pos : DeckPos) (latchRoad : Option Nat) : List Byte :=
  b1 (codeDeckPos pos) ++ bOpt (deckIndex pos) ++ bOpt (deckTarget ev pos) ++ bOpt ((deckSense pos).map codeSense) ++
  bOpt (deckCause ev) ++ bOpt latchRoad

/-- The reason and item of a ROUTE FAILED record; the deck has no number, and its item byte is 0xFF (R64; log entry
12). -/
def bFail : FailReason → List Byte
  | .pointTimeout n => b1 0 ++ b1 n
  | .pointLost n => b1 1 ++ b1 n
  | .deckLost => b1 2 ++ bOpt none

def codeExpire : ExpireCause → Nat | .lifetime => 0 | .portLost => 1 | .rest => 2 | .config => 3
def codeRelease : ReleaseCause → Nat | .passage => 0 | .cancel => 1 | .timer => 2

/-- Event code and detail of a ROUTE record (Tables 3-4 and 4-3). -/
def bRoute : RouteEvent → Nat × List Byte
  | .setting i r q l => (1, b1 i ++ b1 r ++ b1 (codeParty q) ++ bList (fun e => b1 e.1 ++ b1 e.2) l)
  | .set i r => (2, b1 i ++ b1 r)
  | .queued r p why => (3, b1 r ++ b1 (codePort p) ++ b1 (codeReason why))
  | .queuedSet r p i => (4, b1 r ++ b1 (codePort p) ++ b1 i)
  | .retryRefused r p why => (5, b1 r ++ b1 (codePort p) ++ b1 (codeReason why))
  | .expired r p c => (6, b1 r ++ b1 (codePort p) ++ b1 (codeExpire c))
  | .failed i r why => (7, b1 i ++ b1 r ++ bFail why)
  | .occupied i r t => (8, b1 i ++ b1 r ++ b1 t)
  | .overlapReleased i l rcv => (9, b1 i ++ bList b1 l ++ bItem rcv)
  | .releasing i r o q => (10, b1 i ++ b1 r ++ b1 (codeOrigin o) ++ b1 (codeParty q))
  | .cancelVoid i r t => (11, b1 i ++ b1 r ++ b1 t)
  | .released i r c => (12, b1 i ++ b1 r ++ b1 (codeRelease c))

/-- Event code and detail of a SUPERVISION record (Table 12-5). -/
def bSupervision : SupEvent → Nat × List Byte
  | .signalOverrun t g n => (1, b1 t ++ b1 g ++ b1 n)
  | .interventionStart t dem perm term => (2, b1 t ++ b2 dem ++ b2 perm ++ b1 (codeTerm term) ++ bItem (termSection term))
  | .interventionEnd t perm => (3, b1 t ++ b2 perm)

/-- The failing conditions of the service: MODE, SCREENING-PORT and ALL-STOP, one flag each (log entry 12). -/
def bFailing (f : Failing) : List Byte := bFlag f.mode ++ bFlag f.screening ++ bFlag f.allStop

/-- Event code and detail of a DEMO record (Table 8-1).  An ABORTED record with reason REFUSED carries the refusal's reason
in one byte more, and the cause QUEUE-FULL of a REFUSED record is 0, the one cause of its table (log entry 12). -/
def bDemo : DemoEvent → Nat × List Byte
  | .opened => (1, [])
  | .closed f => (2, bFailing f)
  | .pending n t k => (3, b1 n ++ b1 t ++ b1 k)
  | .accepted n c => (4, b1 n ++ b1 (match c with | .pass => 0 | .window => 1))
  | .vetoed n => (5, b1 n)
  | .refused n => (6, b1 n ++ b1 0)
  | .unavailable n c => (7, b1 n ++ b1 (codeAdm c))
  | .dropped n => (8, b1 n ++ b1 0)
  | .admitted n t => (9, b1 n ++ b1 t)
  | .paused n => (10, b1 n)
  | .resumed n => (11, b1 n)
  | .completed n t => (12, b1 n ++ b1 t)
  | .aborted n t why => (13, b1 n ++ b1 t ++ b1 (codeAbort why) ++
      (match why with | .refused r => b1 (codeReason r) | _ => []))

/-- Event code and detail of a DISTRICT record: district; port; DEMO-OK; port's new state (Table 12-5). -/
def bDistrict (k : Nat) : DistrictEvent → Nat × List Byte
  | .taken p => (1, b1 k ++ b1 (codePort p) ++ bFlag false ++ bOpt none)
  | .given p => (2, b1 k ++ b1 (codePort p) ++ bFlag false ++ bOpt none)
  | .flags p f => (3, b1 k ++ b1 (codePort p) ++ bFlag f ++ bOpt none)
  | .freed p st => (4, b1 k ++ b1 (codePort p) ++ bFlag false ++ b1 (codePortState st))

/-- Event code and detail of a MODULE record (Table 9-3). -/
def bModule : ModuleEvent → Nat × List Byte
  | .active a k prev => (1, b1 a ++ b1 (codeModKind k) ++ b1 (codeModState prev))
  | .failed a k => (2, b1 a ++ b1 (codeModKind k))
  | .powerMismatch c r => (3, bFlag c ++ bFlag r)
  | .sweepSet v => (4, b1 (codeSweep v.mode) ++ b2 v.period)
  | .ringOverloaded n => (5, b1 n)
  | .commandLost c => (6, b1 (codeCmd c) ++ bItem (targetItem (cmdTarget c)))

/-- Event code and detail of a COUNTER record: counter; selection; value or port (Table 12-5). -/
def bCounter : CounterEvent → Nat × List Byte
  | .halfFull n sel v => (1, b1 n ++ (match sel with | some x => bSel x | none => bItem none) ++ b4 v)
  | .selected n sel p => (2, b1 n ++ bSel sel ++ b1 (codePort p))

/-- Event code and detail of a MODE record (Table 1-11, then LOST-NOTICES): port, cause or count.  The train of a
REST-ABANDONED and the port of an ALL-STOP record stand with the cause THROTTLE or PORT alone (log entry 12). -/
def bMode : ModeEvent → Nat × List Byte
  | .sessionOpen p => (1, b1 (codePort p))
  | .sessionClosed c => (2, b1 (match c with | .commit => 0 | .abandon => 1 | .portLost => 2))
  | .waking c => (3, b1 (codeWake c))
  | .inService => (4, [])
  | .restPending p => (5, b1 (codePort p))
  | .restAbandoned c => (6, match c with
      | .throttle t => b1 0 ++ b1 t | .output => b1 1 | .deck => b1 2 | .demo => b1 3)
  | .rest => (7, [])
  | .config p => (8, b1 (codePort p))
  | .allStop c => (9, b1 (codeStop c) ++ (match c with | .port p => b1 (codePort p) | _ => []))
  | .resumed p => (10, b1 (codePort p))
  | .lostNotices n => (11, b1 n)

/-- Item, event code and detail of a record. -/
def noticeParts (seed : Nat) : Notice → Option Nat × Nat × List Byte
  | .occupancy n ev o w l => (some n, occEventCode ev, b1 (codeOcc o) ++ b1 (codeOccupant w) ++ bLock l)
  | .signal n a => (some n, 1, b1 (codeAspect a))
  | .point n ev r c k lp => (some n, pointEventCode ev, b1 (codeReported r) ++ bPos c ++ b1 k ++ b1 (codePos lp))
  | .train n ev r => (some n, trainEventCode ev, bTrainReport seed r)
  | .deck ev pos lr => (some 0, deckEventCode ev, bDeck ev pos lr)
  | .route ev => (none, (bRoute ev).1, (bRoute ev).2)
  | .supervision ev => (none, (bSupervision ev).1, (bSupervision ev).2)
  | .demo ev => (none, (bDemo ev).1, (bDemo ev).2)
  | .district k ev => (none, (bDistrict k ev).1, (bDistrict k ev).2)
  | .port p st prev => (none, codePortState st + (if st = .offline then 4 else 0), b1 (codePort p) ++ b1 (codePortState prev))
  | .module ev => (none, (bModule ev).1, (bModule ev).2)
  | .counter ev => (none, (bCounter ev).1, (bCounter ev).2)
  | .mode ev => (none, (bMode ev).1, (bMode ev).2)

/-- A notice record: CLASS, RECLEN, ITEM, EVENT, DETAIL (section 12.1). -/
def bNotice (seed : Nat) (n : Notice) : List Byte :=
  b1 (codeNoticeClass (noticeClass n)) ++ b1 (5 + (noticeParts seed n).2.2.length) ++ bItem (noticeParts seed n).1 ++
  b1 (noticeParts seed n).2.1 ++ (noticeParts seed n).2.2

/-! ### Desk frames -/

/-- A desk frame: SYNC, LENGTH, KIND, TAG, BODY (Table 12-1). -/
def deskFrame (kind : Nat) (tag : Byte) (body : List Byte) : List Byte :=
  [byte 0xA5, byte (2 + body.length), byte kind, tag] ++ body

/-- The detail of a REFUSED response (Table 12-3). -/
def bDetail : Detail → List Byte
  | .none => []
  | .validation f t item => b1 (codeFault f) ++ b1 (codeTable t) ++ b2 item
  | .held o => bParty o

/-- KIND and BODY of a response (Tables 12-2 and 12-3). -/
def bAnswer : Answer → Nat × List Byte
  | .done l => (0x80, l)
  | .accepted i => (0x81, b1 i)
  | .queued => (0x82, [])
  | .latched => (0x83, [])
  | .refused r d => (0x84, b1 (codeReason r) ++ bDetail d)

/-- The frame of a response; it carries the TAG of its request (R185). -/
def responseFrame (r : Response) : List Byte := deskFrame (bAnswer r.answer).1 r.tag (bAnswer r.answer).2

/-- Notice records placed end to end; each takes its own place in the counter of free values. -/
def bNotices : Nat → List Notice → List Byte
  | _, [] => []
  | seed, n :: l => bNotice seed n ++ bNotices (seed + 1) l

/-- A NOTICE frame: TAG 0 (R185). -/
def noticeFrame (seed : Nat) (l : List Notice) : List Byte := deskFrame 0x90 0#8 (bNotices seed l)

/-- A HOLD frame: TAG 0, quanta in 2 bytes (R185, Table 12-3). -/
def holdFrame (quanta : Nat) : List Byte := deskFrame 0x91 0#8 (b2 quanta)

/-! ### Ring frames -/

/-- A ring frame: ADDRESS, TYPE, PAYLOAD, CRC (R186). -/
def ringFrame (addr type : Nat) (payload : List Byte) : List Byte :=
  byte addr :: byte type :: payload ++ [crc8 (byte addr :: byte type :: payload)]

/-- The POLL frame of an address (Table 12-6). -/
def pollFrame (addr : Nat) : List Byte := ringFrame addr 0x01 []

/-- The number of payload bytes of a STATUS answer, by the module's kind (Table 12-6). -/
def statusPayload : ModKind → Nat
  | .detect => 1 | .point => 1 | .signal => 0 | .button => 1 | .deck => 2 | .traction => 1 | .absent => 0

/-- The module a command is sent to, from the committed description (Table 9-2). -/
def cmdModule (d : Desc) : RingCmd → Option Nat
  | .aspect n _ => (findItem d.signals n).map (·.addr)
  | .speed _ _ _ => d.traction
  | .lamp n _ => (findItem d.plans n).map (·.addr)
  | .pointMove n _ => (findItem d.points n).map (·.addr)
  | .deckTurn _ _ => d.deck.map (·.addr)
  | .power _ => d.traction

/-- TYPE and PAYLOAD of a command frame (Table 12-6). -/
def cmdPayload (d : Desc) : RingCmd → Nat × List Byte
  | .aspect n a => (0x10, b1 (((findItem d.signals n).map (·.output)).getD 0) ++ b1 (codeAspect a))
  | .pointMove n p => (0x11, b1 (((findItem d.points n).map (·.output)).getD 0) ++ b1 (codePos p))
  | .lamp n l => (0x12, b1 (((findItem d.plans n).map (·.input)).getD 0) ++ b1 (codeLamp l))
  | .deckTurn t s => (0x13, b1 t ++ b1 (codeSense s))
  | .speed t v s => (0x14, b2 (((findItem d.trains t).map (·.addr)).getD 0) ++ b2 v ++ b1 (codeDrive s))
  | .power on => (0x15, bFlag on)

/-- The frame of a command on the line (R186). -/
def cmdFrame (d : Desc) (c : RingCmd) : List Byte :=
  ringFrame ((cmdModule d c).getD 0) (cmdPayload d c).1 (cmdPayload d c).2

/-- An answer is good when its CRC checks, it carries the polled address and its length is that of a STATUS answer for
the module's kind (R150, R186); its TYPE is not looked at (log entry 17). -/
def goodFrame (addr : Nat) (kind : ModKind) (frame : List Byte) : Bool :=
  frame.length == 3 + statusPayload kind && frame.head? == some (byte addr) &&
  frame.getLast? == some (crc8 frame.dropLast)

/-- The payload of a good answer. -/
def payloadOf (frame : List Byte) : List Byte := (frame.drop 2).dropLast

end Sys2Proof.Machine
end

