-- ==== Sys2Proof/Machine/Flags.lean ====
section
/-! DEFINITION. What the block computes as a flag: whether a request is served in a mode (R10), whether a counter takes
an event (R180), and a counter's half-full flag (R184). -/

namespace Sys2Proof.Machine

/-- "Every other request" of Table 1-10 is served in WAKING and IN-SERVICE. -/
def runsIn : Mode → Bool | .waking => true | .inService => true | _ => false

/-- A selection takes an event when its kind is the one selected and its qualifier is met (R180). -/
def selTakes (sel : Selection) (ev : EventKind) (party : Option Party) (district : Option Nat) : Bool :=
  sel.event == ev &&
  match sel.qual with
  | .any => true
  | .port p => party == some (.port p)
  | .demo => party == some .demo
  | .district k => district == some k

/-- Counter `i` takes an event: the fixed counter of its kind, and each programmable counter whose selection matches
(R179). -/
def counterTakes (c : Counters) (ev : EventKind) (party : Option Party) (district : Option Nat) (i : Nat) : Bool :=
  if i < 8 then codeEvent ev == i
  else match c.sel[i - 8]? with
    | some sel => selTakes sel ev party district
    | none => false

/-- The half-full flag after a counter has come to `v` by an event: set at 2^31, cleared below it (R184). -/
def halfAfter (old : Bool) (v : Word32) : Bool :=
  if v.toNat = Config.halfFull then true else if v.toNat < Config.halfFull then false else old

/-- One counter's part of an event: +1 modulo 2^32, the half-full flag, and the record a crossing of 2^31 raises
(R179, R184). -/
def bumpOne (ev : EventKind) (party : Option Party) (district : Option Nat) (c : Counters) (i : Nat) :
    Counters × List CounterEvent :=
  if counterTakes c ev party district i then
    let v := entryAt c.values i 0 + 1
    ({ c with values := c.values.set i v, half := c.half.set i (halfAfter (entryAt c.half i false) v) },
     if v.toNat = Config.halfFull then [.halfFull i (if i < 8 then none else c.sel[i - 8]?) v.toNat] else [])
  else (c, [])

/-- An event at the Counter Unit: every counter that takes it increases by 1 (R179); the counters that cross 2^31 by it give
their HALF-FULL records in ascending number (R184; log entry 13). -/
def bump (c : Counters) (ev : EventKind) (party : Option Party) (district : Option Nat) : Counters × List CounterEvent :=
  (List.range 12).foldl
    (fun acc i => ((bumpOne ev party district acc.1 i).1, acc.2 ++ (bumpOne ev party district acc.1 i).2)) (c, [])

/-- The value after a decrement, saturating at 0 (R183). -/
def decremented (v : Word32) (d : Nat) : Word32 := BitVec.ofNat 32 (v.toNat - d)

end Sys2Proof.Machine
end

