-- ==== Sys2Proof/Machine/Operands.lean ====
section
/-! DEFINITION. The values that the codes of a request's fields name (R185, section 12.1); none for a code that names
no value. -/

namespace Sys2Proof.Machine

/-- A port letter, A 0 to D 3 (R185). -/
def portOfCode : Nat → Option PortId
  | 0 => some .a | 1 => some .b | 2 => some .c | 3 => some .d | _ => none

/-- A direction or an end of a section, UP 0, DOWN 1 (R185). -/
def dirOfCode : Nat → Option Dir | 0 => some .up | 1 => some .down | _ => none

/-- A deck end, A 0, B 1 (R185). -/
def endOfCode : Nat → Option DeckEnd | 0 => some .a | 1 => some .b | _ => none

/-- A position, NORMAL 0, REVERSE 1 (R185). -/
def posOfCode : Nat → Option Position | 0 => some .normal | 1 => some .reverse | _ => none

/-- A set-or-clear flag (R185). -/
def flagOfCode : Nat → Option Bool | 0 => some false | 1 => some true | _ => none

/-- A signal kind in the order of Table 1-3. -/
def kindOfCode : Nat → Option SignalKind | 0 => some .main | 1 => some .shunt | 2 => some .deck | _ => none

/-- A route class in the order of Table 1-4. -/
def classOfCode : Nat → Option RouteClass | 0 => some .main | 1 => some .shunt | _ => none

/-- A requested sense, CW 0, CCW 1, SHORT 2 (Table 12-3). -/
def senseOfCode : Nat → Option ReqSense | 0 => some .cw | 1 => some .ccw | 2 => some .short | _ => none

/-- The sweep mode stored for a code; a code above the last one stores SPLIT-4 (R5, R156). -/
def sweepOfCode : Nat → SweepMode | 0 => .full | 1 => .split2 | _ => .split4

/-- A number stored as the nearest limit of its range (R5, R156). -/
def clampTo (lo hi n : Nat) : Nat := if n < lo then lo else if hi < n then hi else n

/-- A table in the order of Table 1-1. -/
def tableOfCode : Nat → Option TableId
  | 0 => some .sec | 1 => some .point | 2 => some .signal | 3 => some .route | 4 => some .district | 5 => some .deck
  | 6 => some .train | 7 => some .plan | 8 => some .traction | 9 => some .roles | 10 => some .params | _ => none

/-- The events in the order of Table 11-2. -/
def allEvents : List EventKind :=
  [.routesSet, .routesRefused, .sectionSteps, .signalOverruns, .interventions, .deckTurns, .demosCompleted,
   .buttonPresses, .routeFailed, .ringErrors, .moduleFailures, .noticesLost, .demoVetoed, .demoAborted, .demoRefused,
   .trainDisrupted, .sweepOverrun]

/-- A counting event in the order of Table 11-2, from 0 (Table 12-3). -/
def eventOfCode (n : Nat) : Option EventKind := allEvents[n]?

/-- A qualifier: ANY 0, A–D 1–4, DEMO 5, district k 8 + k (Table 12-3). -/
def qualifierOfCode : Nat → Option Qualifier
  | 0 => some .any
  | 1 => some (.port .a)
  | 2 => some (.port .b)
  | 3 => some (.port .c)
  | 4 => some (.port .d)
  | 5 => some .demo
  | n => if 8 ≤ n ∧ n ≤ 15 then some (.district (n - 8)) else none

/-- The trigger level stored for a value (R177). -/
def triggerOf (v : Nat) : Nat := if v ≤ 1 then 1 else if v = 2 then 2 else if v ≤ 4 then 4 else 6

/-- The silence interval stored for a value in ms (R167). -/
def silenceOf (v : Nat) : Nat := if v = 0 then 0 else clampTo 100 5000 v

/-! ### Directions, ends and positions -/

/-- The other position. -/
def otherPos : Position → Position | .normal => .reverse | .reverse => .normal

/-- The reported position of blades proven in a position (R28). -/
def provenIn : Position → Reported | .normal => .normal | .reverse => .reverse

/-- The position a report proves, if it proves one. -/
def positionOf : Reported → Option Position
  | .normal => some .normal | .reverse => some .reverse | _ => none

/-- The heading of a train that travels in a direction. -/
def headingOf : Dir → Heading | .up => .up | .down => .down

/-- The end of its head section that a train runs towards: end A is the UP end of the deck section (R105, R120). -/
def headingEnd : Heading → Dir | .up => .up | .down => .down | .faceA => .up | .faceB => .down

/-- The heading after a reversal (R90). -/
def flipHeading : Heading → Heading
  | .up => .down | .down => .up | .faceA => .faceB | .faceB => .faceA

/-- The drive sense after a reversal (R115). -/
def flipSense : DriveSense → DriveSense | .forward => .backward | .backward => .forward

/-- The heading a request's UP or DOWN means for a train with heading `h` (R89). -/
def requestedHeading (h : Heading) (d : Dir) : Heading :=
  match h, d with
  | .up, d | .down, d => headingOf d
  | _, .up => .faceA
  | _, .down => .faceB

/-- The heading PLACE-TRAIN gives, by whether the section is the deck section (R85). -/
def placedHeading (onDeck : Bool) (d : Dir) : Heading :=
  if onDeck then (match d with | .up => .faceA | .down => .faceB) else headingOf d

/-- The groups of a sweep mode (R154). -/
def groupsOf : SweepMode → Nat | .full => 1 | .split2 => 2 | .split4 => 4

/-- The interval of the sweep timer in ms (R154). -/
def sweepInterval (v : SweepSetting) : Nat := v.period / groupsOf v.mode

end Sys2Proof.Machine
end

