-- ==== Sys2Proof/Machine/Ops.lean ====
section
/-! DEFINITION. The operations every block shares: reading and writing the blocks of the state, raising a notice
(R175, R176), counting an event (R179), giving a response (R172, R185), and offering a command to the ring (R159 to
R161). -/

namespace Sys2Proof.Machine

/-! ### The blocks of the state -/

/-- The state with another Layout Store. -/
def State.withStore (s : State) (v : Store) : State := { s with store := v }
/-- The state with another Mode Control. -/
def State.withCtl (s : State) (v : Control) : State := { s with ctl := v }
/-- The state with another Interlocking Unit. -/
def State.withIl (s : State) (v : Interlock) : State := { s with il := v }
/-- The state with another Route Engine. -/
def State.withEngine (s : State) (v : Engine) : State := { s with engine := v }
/-- The state with other train records. -/
def State.withTrains (s : State) (v : Table TrainRec) : State := { s with trains := v }
/-- The state with another Deck Controller. -/
def State.withDeck (s : State) (v : Option DeckState) : State := { s with deck := v }
/-- The state with another Demonstration Unit. -/
def State.withDemo (s : State) (v : Demo) : State := { s with demo := v }
/-- The state with another Ring Master. -/
def State.withRing (s : State) (v : Ring) : State := { s with ring := v }
/-- The state with other desk ports. -/
def State.withPorts (s : State) (v : Ports) : State := { s with ports := v }
/-- The state with another Counter Unit. -/
def State.withCounters (s : State) (v : Counters) : State := { s with counters := v }
/-- The state with another counter of free values. -/
def State.withSeed (s : State) (v : Nat) : State := { s with freeSeed := v }

/-- The committed description, which every block reads (R1). -/
def desc (s : State) : Desc := s.store.committed

/-- The dynamic state of a described section. -/
def secAt (s : State) (n : Nat) : Option SecState := findItem s.il.sections n
/-- The dynamic state of a described point. -/
def ptAt (s : State) (n : Nat) : Option PtState := findItem s.il.points n
/-- The instance in a slot. -/
def instAt (s : State) (i : Nat) : Option Inst := findItem s.il.instances i
/-- A train record. -/
def trainAt (s : State) (t : Nat) : Option TrainRec := findItem s.trains t
/-- A committed route entry. -/
def routeAt (s : State) (n : Nat) : Option RouteEntry := findItem (desc s).routes n

/-- A section's dynamic state changed. -/
def updateSec (s : State) (n : Nat) (f : SecState → SecState) : State :=
  s.withIl { s.il with sections := updateItem s.il.sections n f }
/-- A point's dynamic state changed. -/
def updatePt (s : State) (n : Nat) (f : PtState → PtState) : State :=
  s.withIl { s.il with points := updateItem s.il.points n f }
/-- An instance changed. -/
def updateInst (s : State) (i : Nat) (f : Inst → Inst) : State :=
  s.withIl { s.il with instances := updateItem s.il.instances i f }
/-- A train record changed. -/
def updateTrain (s : State) (t : Nat) (f : TrainRec → TrainRec) : State := s.withTrains (updateItem s.trains t f)
/-- A supervised train's supervision state changed. -/
def updateSup (s : State) (t : Nat) (f : Sup → Sup) : State := updateTrain s t (fun r => { r with sup := r.sup.map f })

/-- A district's state. -/
def districtAt (s : State) (k : Nat) : District := entryAt s.il.districts k { holder := none, demoOk := false }
/-- A district changed. -/
def setDistrict (s : State) (k : Nat) (v : District) : State :=
  s.withIl { s.il with districts := s.il.districts.set k v }

/-- The four ports in letter order. -/
def allPorts : List PortId := [.a, .b, .c, .d]

/-- A desk port. -/
def portAt (s : State) : PortId → Port
  | .a => s.ports.a | .b => s.ports.b | .c => s.ports.c | .d => s.ports.d

/-- A desk port replaced. -/
def setPort (s : State) (p : PortId) (v : Port) : State :=
  s.withPorts (match p with
    | .a => { s.ports with a := v } | .b => { s.ports with b := v }
    | .c => { s.ports with c := v } | .d => { s.ports with d := v })

/-- A desk port changed. -/
def updatePort (s : State) (p : PortId) (f : Port → Port) : State := setPort s p (f (portAt s p))

/-- The module table entry of an address; an address no described entry names is ABSENT (R2). -/
def moduleAt (s : State) (a : Nat) : Module :=
  (findItem s.ring.modules a).getD
    { kind := .absent, state := .absent, misses := 0, data := none, clearCounts := [], neitherCounts := [] }

/-- A module table entry changed. -/
def updateModule (s : State) (a : Nat) (f : Module → Module) : State :=
  s.withRing { s.ring with modules := updateItem s.ring.modules a f }

/-- A module is ACTIVE. -/
def moduleActive (s : State) (a : Nat) : Bool := (moduleAt s a).state == .active

/-- The traction module is ACTIVE (R113). -/
def tractionActive (s : State) : Bool :=
  match (desc s).traction with
  | some a => moduleActive s a
  | none => false

/-! ### Notices and counting events -/

/-- A port subscribes to a class (R175). -/
def subscribes (q : Port) (n : Notice) : Bool := q.subs.getLsbD (codeNoticeClass (noticeClass n) - 1)

/-- One record lost: the lost count increases by 1, saturating at 255 (R175, R176). -/
def recordLoss (q : Port) : Port := { q with lost := min 255 (q.lost + 1) }

/-- A MODE LOST-NOTICES record appended when the queue has a free place and the lost count is above 0 (R176). -/
def appendLost (now : Nat) (q : Port) : Port :=
  if 0 < q.lost ∧ q.notices.length < Config.noticeCapacity then
    { q with notices := q.notices ++ [{ entered := now, notice := .mode (.lostNotices q.lost) }], lost := 0 }
  else q

/-- The queue with an undelivered record of the same class and item replaced in place, when there is one (R176). -/
def coalesceInto (n : Notice) : List QueuedNotice → Option (List QueuedNotice)
  | [] => none
  | e :: l =>
    if (coalesceKey n).isSome && coalesceKey e.notice == coalesceKey n then some ({ e with notice := n } :: l)
    else (coalesceInto n l).map (e :: ·)

/-- A record placed in a port's notice queue by the first case of R176 that applies, and whether it was lost. -/
def placeNotice (now : Nat) (n : Notice) (q : Port) : Port × Bool :=
  match coalesceInto n q.notices with
  | some l => ({ q with notices := l }, false)
  | none =>
    if (appendLost now q).notices.length < Config.noticeCapacity then
      ({ appendLost now q with
          notices := (appendLost now q).notices ++ [{ entered := now, notice := n }] }, false)
    else (recordLoss (appendLost now q), true)

/-- A record offered to one port, and whether that port lost it (R175). -/
def offerNotice (now : Nat) (n : Notice) (q : Port) : Port × Bool :=
  if subscribes q n then
    match q.state with
    | .online => placeNotice now n q
    | .lost => (recordLoss q, true)
    | _ => (q, false)
  else (q, false)

/-- A record offered to every port, each of which places it by itself (R175). -/
def offerAll (n : Notice) (s : State) : State :=
  s.withPorts { a := (offerNotice s.now n s.ports.a).1, b := (offerNotice s.now n s.ports.b).1,
                c := (offerNotice s.now n s.ports.c).1, d := (offerNotice s.now n s.ports.d).1 }

/-- The ports that lose the record, in letter order. -/
def losers (n : Notice) (s : State) : List PortId := allPorts.filter (fun p => (offerNotice s.now n (portAt s p)).2)

/-- A notice raised: the record is offered to every port, and then each loss counts NOTICES-LOST (R175, R176), where a
counter that crosses 2^31 raises COUNTER HALF-FULL in turn, so that every port sees the records in the order they were
raised (R184).  Each level of that recursion needs another programmable counter to cross, so its depth is at most five;
`k` bounds it.  The losses are counted in letter order (log entry 13). -/
def raiseAt : Nat → Notice → State → State
  | 0, _, s => s
  | k + 1, n, s =>
    (losers n s).foldl (fun s p =>
      let b := bump s.counters .noticesLost (some (.port p)) none
      b.2.foldl (fun s ev => raiseAt k (.counter ev) s) (s.withCounters b.1)) (offerAll n s)

/-- A notice raised (R175). -/
def raise (n : Notice) (s : State) : State := raiseAt 8 n s

/-- A counting event reported to the Counter Unit with its attributes (R179). -/
def count (ev : EventKind) (party : Option Party) (district : Option Nat) (s : State) : State :=
  let b := bump s.counters ev party district
  b.2.foldl (fun s e => raise (.counter e) s) (s.withCounters b.1)

/-! ### Responses -/

/-- One response produced: it joins the response list, or is discarded and counted when the list is full (R172). -/
def pushResponse (p : PortId) (r : Response) (s : State) : State :=
  updatePort s p (fun q =>
    if q.responses.length < Config.responseCapacity then { q with responses := q.responses ++ [r] }
    else { q with overruns := min 255 (q.overruns + 1) })

/-- The bodies of a READ answer of more than 58 bytes: each begins with its part number, 0x80 added on the last
(R185).  Every part but the last carries 57 bytes of the answer. -/
def splitParts : Nat → Nat → List Byte → List (List Byte)
  | 0, _, _ => []
  | fuel + 1, k, l =>
    if l.length ≤ Config.bodyCapacity - 1 then [byte (k + 128) :: l]
    else (byte k :: l.take (Config.bodyCapacity - 1)) :: splitParts fuel (k + 1) (l.drop (Config.bodyCapacity - 1))

/-- The responses of an answer: one, or consecutive DONE responses with the same TAG (R185). -/
def responsesOf (tag : Byte) : Answer → List Response
  | .done l =>
    if l.length ≤ Config.bodyCapacity then [{ tag := tag, answer := .done l }]
    else (splitParts l.length 0 l).map (fun b => { tag := tag, answer := .done b })
  | a => [{ tag := tag, answer := a }]

/-- The response to a request (R172). -/
def respond (p : PortId) (tag : Byte) (a : Answer) (s : State) : State :=
  (responsesOf tag a).foldl (fun s r => pushResponse p r s) s

/-- A refusal with no detail. -/
def refuse (r : Reason) : Answer := .refused r .none

/-- A refusal of a request whose field holds a code that names no value, where no rule names the reason: FREE VALUE,
applied to the request's KIND code (R165; log entry 3). -/
def refuseCode (kind : Nat) : Answer := refuse (entryAt allReasons (Config.unstatedReason kind).val .unknownItem)

/-! ### Ring commands -/

/-- A command for the same target waits in a list. -/
def waitsFor (t : RingTarget) (l : List RingCmd) : Bool := l.any (fun c => cmdTarget c == t)

/-- The command replaces the one for its target in place (R159). -/
def replaceCmd (c : RingCmd) (l : List RingCmd) : List RingCmd :=
  l.map (fun x => if cmdTarget x == cmdTarget c then c else x)

/-- A command of kind LAMP. -/
def isLamp : RingCmd → Bool | .lamp _ _ => true | _ => false

/-- The oldest LAMP command removed (R161). -/
def evictLamp : List RingCmd → List RingCmd
  | [] => []
  | c :: l => if isLamp c then l else c :: evictLamp l

/-- A place of the queue is free: the command in the overflow slot is appended and the slot becomes empty (R161). -/
def refillSlot (r : Ring) : Ring :=
  match r.slot with
  | some c => if r.queue.length < Config.ringCapacity then { r with queue := r.queue ++ [c], slot := none } else r
  | none => r

/-- A command goes to the overflow slot, with the command it displaces (R161). -/
def toSlot (r : Ring) (c : RingCmd) : Ring × Option RingCmd := ({ r with slot := some c }, r.slot)

/-- A LAMP command evicted for another command: the place it frees takes the command of the overflow slot first, when
there is one (R161). -/
def evictOne (r : Ring) : Ring := refillSlot { r with queue := evictLamp r.queue }

/-- An ASPECT or SPEED command that finds the queue full: LAMP commands are evicted, oldest first, until a place is left
for it; the slot's command takes at most one of them, so two evictions are the most.  With no LAMP queued it goes to the
overflow slot (R161; log entry 17). -/
def placeOver : Nat → Ring → RingCmd → Ring × Option RingCmd
  | 0, r, c => toSlot r c
  | fuel + 1, r, c =>
    if r.queue.length < Config.ringCapacity then ({ r with queue := r.queue ++ [c] }, none)
    else if r.queue.any isLamp then placeOver fuel (evictOne r) c
    else toSlot r c

/-- A command that finds the queue full with no command waiting for its target (R161). -/
def placeFull (r : Ring) (c : RingCmd) : Ring × Option RingCmd :=
  match c with
  | .lamp _ _ => (r, none)
  | .aspect _ _ | .speed _ _ _ => placeOver 3 r c
  | _ => toSlot r c

/-- A command for an ACTIVE module placed by the cases 2 to 4 of R159, with a command displaced from the slot. -/
def placeCmd (r : Ring) (c : RingCmd) : Ring × Option RingCmd :=
  if waitsFor (cmdTarget c) r.stopRun then ({ r with stopRun := replaceCmd c r.stopRun }, none)
  else if waitsFor (cmdTarget c) r.queue then ({ r with queue := replaceCmd c r.queue }, none)
  else if r.slot.any (fun x => cmdTarget x == cmdTarget c) then ({ r with slot := some c }, none)
  else if r.queue.length < Config.ringCapacity then ({ r with queue := r.queue ++ [c] }, none)
  else placeFull r c

/-- The module a command is sent to is ACTIVE (R159 case 1). -/
def cmdReaches (s : State) (c : RingCmd) : Bool :=
  match cmdModule (desc s) c with
  | some a => moduleActive s a
  | none => false

/-- A command offered to the Ring Master (R159, R161). -/
def offer (c : RingCmd) (s : State) : State :=
  if cmdReaches s c then
    let r := placeCmd s.ring c
    match r.2 with
    | some lost => raise (.module (.commandLost lost)) (s.withRing r.1)
    | none => s.withRing r.1
  else s

/-- A POWER command offered: the commanded power takes the state it carries, even when the command is discarded
(R153). -/
def offerPower (on : Bool) (s : State) : State :=
  offer (.power on) (s.withRing { s.ring with power := some on })

end Sys2Proof.Machine
end

