-- ==== Sys2Proof/Machine/Signals.lean ====
section
/-! DEFINITION. Signal aspects (R35 to R37), point commands (R31), locks of sections and points (R27, R34), and the
eligibility events of the retry list (R58). -/

namespace Sys2Proof.Machine

/-! ### Aspects -/

/-- The section is CLEAR with occupant none (R35). -/
def secEmpty (s : State) (n : Nat) : Bool :=
  match secAt s n with
  | some st => st.occ == .clear && st.occupant == .none
  | none => false

/-- The section is locked to the instance in the slot, in the role. -/
def lockedTo (s : State) (slot : Nat) (role : LockRole) (n : Nat) : Bool :=
  match secAt s n with
  | some st => st.lock == some { slot := slot, role := role }
  | none => false

/-- The point is proven in the position (section 2.2). -/
def ptProven (s : State) (n : Nat) (pos : Position) : Bool :=
  match ptAt s n with
  | some st => st.reported == provenIn pos
  | none => false

/-- The target alignment of a deck requirement: road k for end A, road (k + N/2) mod N for end B (R53). -/
def targetRoad (n : Nat) (req : Nat × DeckEnd) : Nat :=
  match req.2 with
  | .a => req.1
  | .b => (req.1 + n / 2) % n

/-- The target alignment of a route's deck requirement on the committed deck. -/
def routeTarget (s : State) (r : RouteEntry) : Option Nat :=
  match r.deckReq, (desc s).deck with
  | some req, some d => some (targetRoad d.n req)
  | _, _ => none

/-- The alignment of the deck, when it is ALIGNED. -/
def deckAligned (s : State) : Option Nat :=
  match s.deck with
  | some d => match d.pos with
    | .aligned j => some j
    | _ => none
  | none => none

/-- The deck is ALIGNED as the route requires; a route with no deck requirement asks nothing (R35). -/
def deckMeets (s : State) (r : RouteEntry) : Bool :=
  match r.deckReq with
  | none => true
  | some _ => (routeTarget s r).isSome && deckAligned s == routeTarget s r

/-- The instance in the slot makes its entry signal proceed-able (R35). -/
def instProceeds (s : State) (slot : Nat) (i : Inst) : Bool :=
  match routeAt s i.route with
  | none => false
  | some r =>
    i.state == .set &&
    r.sections.all (fun x => !lockedTo s slot .route x.1 || secEmpty s x.1) &&
    i.overlap.all (fun n => !lockedTo s slot .overlap n || secEmpty s n) &&
    i.held.all (fun h => ptProven s h.point h.pos) &&
    deckMeets s r &&
    (match findItem (desc s).signals r.entry with
     | some g => moduleActive s g.addr
     | none => false)

/-- The entry signal of an instance's route. -/
def entrySignal (s : State) (i : Inst) : Option Nat := (routeAt s i.route).map (·.entry)

/-- The exit signal of an instance's route. -/
def exitSignal (s : State) (i : Inst) : Option Nat := (routeAt s i.route).bind (·.exit)

/-- The lowest slot whose instance makes the signal proceed-able (R35). -/
def proceedSlot (s : State) (sig : Nat) : Option (Nat × Inst) :=
  s.il.instances.find? (fun e => entrySignal s e.2 == some sig && instProceeds s e.1 e.2)

/-- The signal is proceed-able (R35). -/
def proceedable (s : State) (sig : Nat) : Bool := (proceedSlot s sig).isSome

/-- The aspect a signal shows (R35). -/
def aspectOf (s : State) (sig : Nat) : Aspect :=
  match proceedSlot s sig, findItem (desc s).signals sig with
  | some (_, i), some g =>
    match g.kind with
    | .main => if (exitSignal s i).any (proceedable s) then .clear else .caution
    | .shunt | .deck => .shunt
  | _, _ => .stop

/-- A signal recomputed: a new aspect is stored, commanded and notified; the same aspect does nothing (R36). -/
def recomputeOne (sig : Nat) (s : State) : State :=
  match findItem s.il.signals sig with
  | none => s
  | some old =>
    let new := aspectOf s sig
    if new = old then s
    else
      raise (.signal sig new)
        (offer (.aspect sig new) (s.withIl { s.il with signals := putItem s.il.signals sig new }))

/-- The entry signals of SET instances whose exit is the signal (R36), in ascending slot number (log entry 9). -/
def upstream (s : State) (sig : Nat) : List Nat :=
  (s.il.instances.filter (fun e => e.2.state == .set && exitSignal s e.2 == some sig)).filterMap
    (fun e => entrySignal s e.2)

/-- The stored aspect of a signal is a proceed aspect. -/
def showsProceed (s : State) (sig : Nat) : Bool :=
  match findItem s.il.signals sig with
  | some a => a != .stop
  | none => false

/-- A signal recomputed, and, when its proceed-ability changed, every signal that reads it as an exit signal recomputed in
turn; the chain ends where a proceed-ability does not change (R36).  Each signal's chain is finished before the next signal
of the same exit is taken (log entry 9). -/
def recomputeChain : Nat → Nat → State → State
  | 0, sig, s => recomputeOne sig s
  | k + 1, sig, s =>
    let s1 := recomputeOne sig s
    if showsProceed s sig = showsProceed s1 sig then s1
    else (upstream s1 sig).foldl (fun s u => recomputeChain k u s) s1

/-- A signal recomputed with the chain behind it (R36).  What an aspect is computed from does not change on the way, so a
signal changes at most once, and the number of signals bounds the chain. -/
def recompute (sig : Nat) (s : State) : State := recomputeChain s.il.signals.length sig s

/-- Signals recomputed in the order given. -/
def recomputeAll (sigs : List Nat) (s : State) : State := sigs.foldl (fun s g => recompute g s) s

/-- The signals whose aspect reads a section: the entry signal of the instance that holds it (R36). -/
def sectionSignals (s : State) (n : Nat) : List Nat :=
  match secAt s n with
  | some st => match st.lock with
    | some l => ((instAt s l.slot).bind (entrySignal s)).toList
    | none => []
  | none => []

/-- The signals whose aspect reads a point: the entry signals of the instances that hold it (R36), in ascending slot
number (log entry 9). -/
def pointSignals (s : State) (n : Nat) : List Nat :=
  (s.il.instances.filter (fun e => e.2.held.any (fun h => h.point == n))).filterMap (fun e => entrySignal s e.2)

/-- The signals whose aspect reads the deck: those of instances whose route has a deck requirement (R36), in
ascending slot number (log entry 9). -/
def deckSignals (s : State) : List Nat :=
  (s.il.instances.filter (fun e => ((routeAt s e.2.route).bind (·.deckReq)).isSome)).filterMap
    (fun e => entrySignal s e.2)

/-- The described signals of a module, ascending. -/
def moduleSignals (s : State) (a : Nat) : List Nat := itemsWhere (desc s).signals (fun _ g => g.addr == a)

/-! ### Occupancy and lock records -/

/-- An OCCUPANCY record of a section as it stands (Table 12-5). -/
def noteSection (n : Nat) (ev : OccEvent) (s : State) : State :=
  match secAt s n with
  | some st => raise (.occupancy n ev st.occ st.occupant st.lock) s
  | none => s

/-- A POINT record of a point as it stands (Table 12-5). -/
def notePoint (n : Nat) (ev : PointEvent) (s : State) : State :=
  match ptAt s n with
  | some st => raise (.point n ev st.reported st.commanded st.locks st.lockedPos) s
  | none => s

/-- The occupant of a section written, with notice OCCUPANCY (R26). -/
def setOccupant (n : Nat) (o : Occupant) (s : State) : State :=
  noteSection n .state (updateSec s n (fun st => { st with occupant := o }))

/-! ### Eligibility events -/

/-- An eligibility event: every retry entry becomes eligible, and the Demonstration Unit's BLOCKED request is presented
again unless its run is paused (R58, R144, R145). -/
def eligible (s : State) : State :=
  let s1 := s.withEngine { s.engine with retry := s.engine.retry.map (fun e => { e with eligible := true }) }
  match s1.demo.run with
  | some r => match r.hand with
    | .blocked _ =>
      if r.paused then s1 else s1.withDemo { s1.demo with run := some { r with hand := .fresh } }
    | _ => s1
  | none => s1

/-! ### Locks -/

/-- A section's lock changed, with notice OCCUPANCY LOCK (R27). -/
def setLock (n : Nat) (l : Option Lock) (s : State) : State :=
  noteSection n .lock (updateSec s n (fun st => { st with lock := l }))

/-- A section's lock changes to none: notice OCCUPANCY LOCK, and an eligibility event (R27, R58). -/
def freeSection (n : Nat) (s : State) : State := eligible (setLock n none s)

/-- A point's lock count decreased by 1, with notice POINT; the commanded position is kept (R34), and so is the locked
position when the count comes to 0 (log entry 8). -/
def unlockPoint (n : Nat) (s : State) : State :=
  notePoint n .lock (updatePt s n (fun st => { st with locks := st.locks - 1 }))

/-- A point's lock count increased by 1, with notice POINT; the first lock sets the locked position (R34, R55). -/
def lockPoint (n : Nat) (pos : Position) (s : State) : State :=
  notePoint n .lock (updatePt s n (fun st =>
    { st with locks := st.locks + 1, lockedPos := if st.locks = 0 then pos else st.lockedPos }))

/-! ### Point commands -/

/-- The neither count of a point set, in the module table (R28). -/
def setNeither (n v : Nat) (s : State) : State :=
  match findItem (desc s).points n with
  | some e => updateModule s e.addr (fun m => { m with neitherCounts := m.neitherCounts.set e.output v })
  | none => s

/-- The neither count of a point. -/
def neitherOf (s : State) (n : Nat) : Nat :=
  match findItem (desc s).points n with
  | some e => entryAt (moduleAt s e.addr).neitherCounts e.output 0
  | none => 0

/-- A point commanded to a position (R31): proven there, only the commanded position is set; already moving there, it
is left as it is; otherwise the move is commanded, the point is MOVING and its move timer starts.  Notice POINT is raised
whether the point starts to move or is redirected while it moves (log entry 11). -/
def commandPoint (n : Nat) (pos : Position) (s : State) : State :=
  match ptAt s n with
  | none => s
  | some st =>
    if st.reported = provenIn pos then updatePt s n (fun st => { st with commanded := some pos })
    else if st.reported = .moving ∧ st.commanded = some pos then s
    else
      let s1 := offer (.pointMove n pos) (updatePt s n (fun st => { st with commanded := some pos }))
      let s2 := setNeither n 0 (updatePt s1 n (fun st =>
        { st with reported := .moving, timer := some (desc s).params.pointTimeout }))
      recomputeAll (pointSignals s2 n) (notePoint n .position s2)

end Sys2Proof.Machine
end

