-- ==== Sys2Proof/Machine/Trains.lean ====
section
/-! DEFINITION. What every block asks about trains, routes and districts: the records' readings, the TRAIN notice (R100,
R118) and the letting go of a train (R88, R144, R147). -/

namespace Sys2Proof.Machine

/-- The committed entry of a train. -/
def trainEntry (s : State) (t : Nat) : Option TrainEntry := findItem (desc s).trains t

/-- The committed entry of a section. -/
def secEntry (s : State) (n : Nat) : Option SectionEntry := findItem (desc s).sections n

/-- The length of a section in mm. -/
def secLength (s : State) (n : Nat) : Nat := ((secEntry s n).map (·.length)).getD 0

/-- The district of a described section (R1). -/
def secDistrict (s : State) (n : Nat) : Option Nat := (secEntry s n).map (·.district)

/-- The district of a described route: that of its entry signal (R1). -/
def routeDistrict (s : State) (n : Nat) : Option Nat :=
  (routeAt s n).bind (fun r => (findItem (desc s).signals r.entry).map (·.district))

/-- The district of the deck: that of the deck section (R1). -/
def deckDistrict (s : State) : Option Nat := (desc s).deck.bind (fun d => secDistrict s d.sec)

/-- The holder of a district that may not exist. -/
def holderOf (s : State) (k : Option Nat) : Option PortId := k.bind (fun k => (districtAt s k).holder)

/-- The port holds the district. -/
def holds (s : State) (p : PortId) (k : Option Nat) : Bool := k.isSome && holderOf s k == some p

/-- The head section of a list: its last entry, since lists run from tail to head. -/
def headOf (l : List Nat) : Option Nat := l.getLast?

/-- The head section of a train. -/
def trainHead (s : State) (t : Nat) : Option Nat := (trainAt s t).bind (fun r => headOf r.list)

/-- The output in force of a train; an ABSENT train has none and counts as 0. -/
def outputOf (s : State) (t : Nat) : Nat := (((trainAt s t).bind (·.sup)).map (·.output)).getD 0

/-- The output of a train's most recent supervision expiry, which the all-stop latch leaves; 0 for an ABSENT train
(R86). -/
def settledOf (s : State) (t : Nat) : Nat := (((trainAt s t).bind (·.sup)).map (·.settled)).getD 0

/-- The section is the deck section. -/
def isDeckSection (s : State) (n : Nat) : Bool := (desc s).deck.any (fun d => d.sec == n)

/-- The final route section of a described route. -/
def finalSection (s : State) (route : Nat) : Option Nat :=
  (routeAt s route).bind (fun r => r.sections.getLast?.map (·.1))

/-- The fields of READ-TRAIN as they stand (R100). -/
def trainReport (r : TrainRec) (e : TrainEntry) : TrainReport :=
  { entry := e, state := r.state, cause := r.cause, list := r.list, heading := r.heading, driver := r.driver,
    throttle := r.throttle, pendRev := r.pendRev, sup := r.sup.map (fun u => (u.offset, u.output, u.permitted)) }

/-- Notice TRAIN for a train as it stands; it sets the last notified output to the output it carries (R100, R118). -/
def noteTrain (t : Nat) (ev : TrainEvent) (s : State) : State :=
  match trainAt s t, trainEntry s t with
  | some r, some e =>
    raise (.train t ev (trainReport r e)) (updateSup s t (fun u => { u with notified := u.output }))
  | _, _ => s

/-- The driver becomes none and the throttle 0, with notice TRAIN DRIVER (R144, R147). -/
def dropDriver (t : Nat) (s : State) : State :=
  noteTrain t .driver (updateTrain s t (fun r => { r with driver := none, throttle := 0 }))

/-- A train given back: driver none, throttle 0, pending-reverse clear, with notice TRAIN DRIVER (R88). -/
def releaseTrain (t : Nat) (s : State) : State :=
  noteTrain t .driver (updateTrain s t (fun r => { r with driver := none, throttle := 0, pendRev := false }))

/-- An occupant change outside R25: the section's occupant written, and the aspects that read the section recomputed
(R26, R36). -/
def giveOccupant (n : Nat) (o : Occupant) (s : State) : State :=
  let s1 := setOccupant n o s
  recomputeAll (sectionSignals s1 n) s1

end Sys2Proof.Machine
end

