-- ==== Sys2Proof/Machine/Demo.lean ====
section
/-! DEFINITION. The Demonstration Unit (chapter 8): service and lamps (R136, R137), presses (R139), the head of the queue
and admission (R142, R143), the run (R144, R145), abort (R147) and the cancel list. -/

namespace Sys2Proof.Machine

/-- A plan's committed entry. -/
def planEntry (s : State) (n : Nat) : Option PlanEntry := findItem (desc s).plans n

/-- The district of a plan's start section. -/
def planDistrict (s : State) (n : Nat) : Option Nat := (planEntry s n).bind (fun e => secDistrict s e.start)

/-- The conditions of the service as they stand (R136). -/
def failingNow (s : State) : Failing :=
  { mode := s.ctl.mode != .inService,
    screening := !((desc s).roles.screening.any (fun p => (portAt s p).state == .online)),
    allStop := s.ctl.allStop.isSome }

/-- The service is OPEN: no condition fails (R136). -/
def isOpen (f : Failing) : Bool := !f.mode && !f.screening && !f.allStop

/-! ### Lamps -/

/-- The lamp of a plan by the service, the queue and the run (R137). -/
def lampFor (d : Demo) (n : Nat) : Lamp :=
  if !isOpen d.failing then .closed
  else if d.run.any (fun r => r.plan == n) then .running
  else if d.queue.any (fun e => e.plan == n) then .queued
  else .ready

/-- A plan's lamp recomputed: a change is stored and commanded (R137). -/
def recomputeLamp (n : Nat) (s : State) : State :=
  match findItem s.demo.buttons n with
  | none => s
  | some b =>
    if b.lamp = lampFor s.demo n then s
    else
      offer (.lamp n (lampFor s.demo n))
        (s.withDemo { s.demo with buttons := updateItem s.demo.buttons n (fun b => { b with lamp := lampFor s.demo n }) })

/-- Every described plan's lamp recomputed, in ascending plan number (R137; log entry 14). -/
def recomputeLamps (s : State) : State := (itemNumbers s.demo.buttons).foldl (fun s n => recomputeLamp n s) s

/-- The stored lamps of the plans on a module sent again (R137), in ascending plan number (log entry 14). -/
def resendLamps (a : Nat) (s : State) : State :=
  (itemsWhere (desc s).plans (fun _ e => e.addr == a)).foldl
    (fun s n => match findItem s.demo.buttons n with
      | some b => offer (.lamp n b.lamp) s
      | none => s) s

/-! ### The head of the queue and admission -/

/-- The first admission condition that fails for an entry, in the order of R142. -/
def admissionFails (s : State) (e : DemoEntry) : Option AdmCond :=
  match planEntry s e.plan with
  | none => some .trainState
  | some pl =>
    if !isOpen s.demo.failing then some .closed
    else if s.demo.run.isSome then some .run
    else if !s.demo.cancel.isEmpty then some .cancels
    else match trainAt s pl.train with
      | none => some .trainState
      | some r =>
        if r.state != .placed then some .trainState
        else if r.driver.isSome then some .driver
        else if headOf r.list != some pl.start then some .sec
        else if outputOf s pl.train != 0 then some .moving
        else none

/-- The head's admission timer starts when it is ACCEPTED and has none running (R142). -/
def startHeadTimer (s : State) : State :=
  match s.demo.queue with
  | e :: l =>
    if e.accepted && e.admission.isNone then
      s.withDemo { s.demo with queue := { e with admission := some ((desc s).params.admission * 1000) } :: l }
    else s
  | [] => s

/-- Admission of the head entry: one piece of work (R143). -/
def admitHead (plan : Nat) (pl : PlanEntry) (s : State) : State :=
  let s1 := s.withDemo { s.demo with
    queue := s.demo.queue.drop 1,
    run := some { plan := plan, train := pl.train, next := 1, hand := .none, insts := [],
                  left := (desc s).params.runLimit * 1000, paused := false } }
  let s2 := noteTrain pl.train .driver (updateTrain s1 pl.train (fun r =>
    { r with driver := some .demo, throttle := pl.throttle, pendRev := false }))
  let s3 := recomputeLamp plan (raise (.demo (.admitted plan pl.train)) s2)
  startHeadTimer (s3.withDemo { s3.demo with run := s3.demo.run.map (fun r => { r with hand := .fresh }) })

/-- The admission test of the head entry (R142). -/
def admissionTest (s : State) : State :=
  match s.demo.queue with
  | e :: _ =>
    match planEntry s e.plan with
    | some pl => if e.accepted && (admissionFails s e).isNone then admitHead e.plan pl s else s
    | none => s
  | [] => s

/-- An ACCEPTED entry has become the head, or the head ACCEPTED: its timer starts and the test follows (R140 to R142). -/
def headReady (s : State) : State :=
  match s.demo.queue with
  | e :: _ => if e.accepted then admissionTest (startHeadTimer s) else s
  | [] => s

/-- An entry leaves the queue, its lamp is recomputed, and a new head that is ACCEPTED is made ready (R141, R142). -/
def leaveQueue (plan : Nat) (s : State) : State :=
  let wasHead := s.demo.queue.head?.any (fun e => e.plan == plan)
  let s1 := recomputeLamp plan (s.withDemo { s.demo with queue := s.demo.queue.filter (fun e => e.plan != plan) })
  if wasHead then headReady s1 else s1

/-- An entry becomes ACCEPTED with its screening timer stopped; when it is the head it is made ready (R140). -/
def acceptEntry (plan : Nat) (cause : AcceptCause) (s : State) : State :=
  let s1 := raise (.demo (.accepted plan cause)) (s.withDemo { s.demo with
    queue := s.demo.queue.map (fun e => if e.plan = plan then { e with accepted := true, screening := none } else e) })
  if s1.demo.queue.head?.any (fun e => e.plan == plan) then headReady s1 else s1

/-- A press of a plan's button (R139). -/
def press (plan : Nat) (s : State) : State :=
  let s1 := count .buttonPresses (some .demo) (planDistrict s plan) s
  if !isOpen s1.demo.failing then s1
  else if s1.demo.run.any (fun r => r.plan == plan) || s1.demo.queue.any (fun e => e.plan == plan) then s1
  else if Config.demoCapacity ≤ s1.demo.queue.length then
    raise (.demo (.refused plan)) (count .demoRefused (some .demo) (planDistrict s1 plan) s1)
  else if (desc s1).params.screening = 0 then
    let s2 := s1.withDemo { s1.demo with queue := s1.demo.queue ++
      [{ plan := plan, accepted := true, screening := none, admission := none }] }
    let s3 := recomputeLamp plan (raise (.demo (.accepted plan .window)) s2)
    if s1.demo.queue.isEmpty then headReady s3 else s3
  else
    let s2 := s1.withDemo { s1.demo with queue := s1.demo.queue ++
      [{ plan := plan, accepted := false, screening := some ((desc s1).params.screening * 1000), admission := none }] }
    recomputeLamp plan (raise (.demo (.pending plan (((planEntry s1 plan).map (·.train)).getD 0) s1.demo.queue.length)) s2)

/-- One button of a good BUTTON answer: a press is RELEASED seen before and PRESSED now (R138). -/
def buttonAnswer (plan : Nat) (pressed : Bool) (s : State) : State :=
  match findItem s.demo.buttons plan with
  | none => s
  | some b =>
    let s1 := s.withDemo { s.demo with buttons := updateItem s.demo.buttons plan (fun b =>
      { b with level := some (if pressed then .pressed else .released) }) }
    if pressed && b.level == some .released then press plan s1 else s1

/-! ### The end of a run -/

/-- The instance of a slot is in SETTING or SET. -/
def cancellable (s : State) (slot : Nat) : Bool :=
  (instAt s slot).any (fun i => i.state == .setting || i.state == .set)

/-- An abort of the run: one piece of work (R147); its instances in SETTING and SET join the cancel list in the order of the
running record (log entry 14).  A run that is not there is not aborted (R146). -/
def abort (why : AbortReason) (s : State) : State :=
  match s.demo.run with
  | none => s
  | some r =>
    let s1 := s.withDemo { s.demo with
      run := some { r with hand := .none },
      cancel := s.demo.cancel ++ ((r.insts.map (·.1)).filter (cancellable s)) }
    let s2 := dropDriver r.train s1
    let s3 := raise (.demo (.aborted r.plan r.train why))
      (count .demoAborted (some .demo) (planDistrict s2 r.plan) s2)
    admissionTest (recomputeLamp r.plan (s3.withDemo { s3.demo with run := none }))

/-- Every route of the plan has been ACCEPTED, the train stands with its head in the final section of the last one, and
the run is not paused (R144). -/
def completes (s : State) (r : Run) : Bool :=
  match planEntry s r.plan with
  | some pl =>
    r.next == pl.routes.length + 1 && !r.paused && outputOf s r.train == 0 &&
    (pl.routes.getLast?.bind (finalSection s)).isSome &&
    trainHead s r.train == pl.routes.getLast?.bind (finalSection s)
  | none => false

/-- Completion of the run: one piece of work (R144). -/
def complete (r : Run) (s : State) : State :=
  let s1 := dropDriver r.train s
  let s2 := raise (.demo (.completed r.plan r.train))
    (count .demosCompleted (some .demo) (planDistrict s1 r.plan) s1)
  admissionTest (recomputeLamp r.plan (s2.withDemo { s2.demo with run := none }))

/-- The Demonstration Unit's part of a train's supervision expiry: completion, then the admission test (R142, R144). -/
def demoExpiry (t : Nat) (s : State) : State :=
  let s1 := match s.demo.run with
    | some r => if r.train = t ∧ completes s r then complete r s else s
    | none => s
  match s1.demo.queue with
  | e :: _ => if (planEntry s1 e.plan).any (fun pl => pl.train == t) then admissionTest s1 else s1
  | [] => s1

/-- A step of the running train: the next SET-ROUTE is raised when the new head section is the final section of the
route before it and no request is in hand (R144).  R145 says that steps while the run is paused "still advance the next
route index by R144", and R144 advances it only at ACCEPTED: the model raises the request into the record, where it waits
for the end of the pause, and leaves the index as it is (log entry 14). -/
def demoStep (t head : Nat) (s : State) : State :=
  match s.demo.run with
  | some r =>
    match planEntry s r.plan with
    | some pl =>
      if r.train = t ∧ 2 ≤ r.next ∧ r.next ≤ pl.routes.length ∧ r.hand = .none ∧
          (pl.routes[r.next - 2]?).bind (finalSection s) = some head then
        s.withDemo { s.demo with run := some { r with hand := .fresh } }
      else s
    | none => s
  | none => s

/-! ### What the Interlocking Unit hands over (R82) -/

/-- An instance leaves the cancel list; when that empties it, the admission test is made (R142, R147). -/
def leaveCancel (slot : Nat) (s : State) : State :=
  if s.demo.cancel.contains slot then
    let s1 := s.withDemo { s.demo with cancel := s.demo.cancel.filter (· != slot) }
    if s1.demo.cancel.isEmpty then admissionTest s1 else s1
  else s

/-- A demonstration instance was freed: it leaves the record and the cancel list (R144, R147). -/
def demoFreed (slot : Nat) (s : State) : State :=
  leaveCancel slot (s.withDemo { s.demo with
    run := s.demo.run.map (fun r => { r with insts := r.insts.filter (fun e => e.1 != slot) }) })

/-- A demonstration instance failed: it leaves the cancel list, and a run that has it in its record is aborted (R144). -/
def demoFailed (slot : Nat) (s : State) : State :=
  let s1 := leaveCancel slot s
  if s1.demo.run.any (fun r => r.insts.any (fun e => e.1 == slot)) then abort .routeFailed s1 else s1

/-- What is handed over for an instance whose requester is DEMO, and for no other (R82). -/
def ifDemo (q : Party) (f : State → State) (s : State) : State := if q = .demo then f s else s

/-! ### The service -/

/-- Clearing: every entry is dropped in queue order, and a run is aborted with SERVICE-CLOSED (R136). -/
def clearService (s : State) : State :=
  let dropped := s.demo.queue
  let s1 := dropped.foldl (fun s e => raise (.demo (.dropped e.plan)) s) (s.withDemo { s.demo with queue := [] })
  abort .serviceClosed s1

/-- The run is paused (R145). -/
def pauseRun (s : State) : State :=
  match s.demo.run with
  | some r =>
    if r.paused then s
    else raise (.demo (.paused r.plan)) (s.withDemo { s.demo with run := some { r with paused := true } })
  | none => s

/-- A paused run continues: the request in hand is presented again as FRESH (R145). -/
def resumeRun (s : State) : State :=
  match s.demo.run with
  | some r =>
    if r.paused then
      raise (.demo (.resumed r.plan)) (s.withDemo { s.demo with run := some { r with
        paused := false, hand := if r.hand = .none then .none else .fresh } })
    else s
  | none => s

/-- A condition fails that did not fail before (R136). -/
def conditionAdded (old new : Failing) : Bool :=
  (new.mode && !old.mode) || (new.screening && !old.screening) || (new.allStop && !old.allStop)

/-- The service recomputed at an event that may change one of its conditions, with the consequences of a change
(R136). -/
def recomputeService (s : State) : State :=
  let old := s.demo.failing
  let new := failingNow s
  if new = old then s
  else
    let s1 := raise (.demo (if isOpen new then .opened else .closed new))
      (s.withDemo { s.demo with failing := new })
    if isOpen new then admissionTest (recomputeLamps (resumeRun s1))
    else if (new.mode || new.screening) && conditionAdded old new then recomputeLamps (clearService s1)
    else if new.mode || new.screening then recomputeLamps s1
    else recomputeLamps (pauseRun s1)

end Sys2Proof.Machine
end

