-- ==== Sys2Proof/Machine/Instances.lean ====
section
/-! DEFINITION. The life of a route instance: SET (R61), failure (R62 to R64), entry and sectional release (R67 to R70),
freeing (R71), the overlap (R72, R73), cancellation (R75 to R79) and the expiry of the approach release timer (R78, R80). -/

namespace Sys2Proof.Machine

/-! ### Readings -/

/-- The slots of the live instances that satisfy `p`, ascending. -/
def slotsWhere (s : State) (p : Inst → Bool) : List Nat := itemsWhere s.il.instances (fun _ i => p i)

/-- The section list of an instance's route. -/
def instSections (s : State) (i : Inst) : List (Nat × Dir) := ((routeAt s i.route).map (·.sections)).getD []

/-- The place of a section in an instance's route, when its mark there is not RELEASED (R66). -/
def sectionIndex (s : State) (i : Inst) (n : Nat) : Option Nat :=
  ((List.range (instSections s i).length).filter (fun k =>
    ((instSections s i)[k]?).map (·.1) == some n && entryAt i.marks k .released != .released)).head?

/-- The slot of the instance that holds a section as a route section (R27). -/
def routeHolder (s : State) (n : Nat) : Option Nat :=
  match (secAt s n).bind (·.lock) with
  | some l => if l.role = .route then some l.slot else none
  | none => none

/-- The instance in the slot holds the section, in either role (R27). -/
def holdsSection (s : State) (slot n : Nat) : Bool := lockedTo s slot .route n || lockedTo s slot .overlap n

/-- The route of an instance has a deck requirement, or its section list holds the deck section (R53, R61). -/
def needsDeck (s : State) (i : Inst) : Bool :=
  (routeAt s i.route).any (fun r => r.deckReq.isSome || r.sections.any (fun x => isDeckSection s x.1))

/-- The entry signal of an instance and the signals that read it as an exit signal recomputed (R36, R71). -/
def recomputeEntry (i : Inst) (s : State) : State :=
  match entrySignal s i with
  | some g => recompute g s
  | none => s

/-- The signals that read an instance's entry signal as their exit signal recomputed (R71). -/
def recomputeUpstream (i : Inst) (s : State) : State :=
  match entrySignal s i with
  | some g => recomputeAll (upstream s g) s
  | none => s

/-- A slot freed. -/
def freeSlot (slot : Nat) (s : State) : State := s.withIl { s.il with instances := dropItem s.il.instances slot }

/-- The points of a list given back, in order (R34). -/
def unlockAll (l : List HeldPoint) (s : State) : State := l.foldl (fun s h => unlockPoint h.point s) s

/-- The sections of a list that the instance holds in the role take lock none, in order (R27). -/
def freeHeld (slot : Nat) (role : LockRole) (l : List Nat) (s : State) : State :=
  l.foldl (fun s n => if lockedTo s slot role n then freeSection n s else s) s

/-- Everything an instance holds given back: the sections, then the points (R64 steps 1 and 2; R75).  Within them the route
sections go in list order before the overlap sections, and the route points before the flank points: R75 gives that order
for a cancellation, and R64 gives none for a failure, so there it is the model's choice (log entry 10). -/
def giveUpAll (slot : Nat) (i : Inst) (s : State) : State :=
  unlockAll i.held (freeHeld slot .overlap i.overlap (freeHeld slot .route ((instSections s i).map (·.1)) s))

/-! ### Failure and release at once -/

/-- An instance fails: one piece of work (R64).  It is handed to the Demonstration Unit (R82) after the recompute of the entry
signal, which is the model's choice here and at every such hand-over below (log entry 14). -/
def failInst (slot : Nat) (why : FailReason) (s : State) : State :=
  match instAt s slot with
  | none => s
  | some i =>
    let s1 := giveUpAll slot i s
    let s2 := count .routeFailed (some i.requester) (routeDistrict s1 i.route)
      (raise (.route (.failed slot i.route why)) s1)
    ifDemo i.requester (demoFailed slot) (recomputeEntry i (freeSlot slot s2))

/-- An instance is released at once: one piece of work (R75, R78).  The hand-over to the Demonstration Unit, "at the moment
each is raised" (R82), follows the recompute of the entry signal: its SIGNAL record and ASPECT command stand before TRAIN
DRIVER and DEMO ADMITTED, which is the model's choice (log entry 14). -/
def releaseAtOnce (slot : Nat) (cause : ReleaseCause) (s : State) : State :=
  match instAt s slot with
  | none => s
  | some i =>
    let s1 := freeSlot slot (giveUpAll slot i s)
    ifDemo i.requester (demoFreed slot) (recomputeEntry i (raise (.route (.released slot i.route cause)) s1))

/-! ### Sectional release and freeing -/

/-- The cause of a freeing: PASSAGE from OCCUPIED, TIMER from RELEASING (R71). -/
def freeCause : InstState → ReleaseCause | .releasing => .timer | _ => .passage

/-- The freeing test, and the freeing (R71); the hand-over of R82 follows the recomputes (log entry 14). -/
def freeTest (slot : Nat) (s : State) : State :=
  match instAt s slot with
  | none => s
  | some i =>
    if i.marks.all (· == .released) && i.overlap.isEmpty then
      let s1 := raise (.route (.released slot i.route (freeCause i.state))) (freeSlot slot (unlockAll i.held s))
      ifDemo i.requester (demoFreed slot) (recomputeUpstream i (recomputeEntry i s1))
    else s

/-- A route section of an instance passes the test of R69. -/
def releasable (s : State) (slot k : Nat) : Bool :=
  match instAt s slot with
  | none => false
  | some i =>
    (i.state == .occupied || (i.state == .releasing && i.approach != .expired)) &&
    i.marks[k]? == some .passed &&
    (((instSections s i)[k]?).bind (fun x => secAt s x.1)).any (fun st => st.occ == .clear) &&
    (i.marks.take k).all (· == .released)

/-- The release of one route section: steps 1 to 4 of R70. -/
def releaseOne (slot k : Nat) (s : State) : State :=
  match instAt s slot with
  | none => s
  | some i =>
    let s1 := updateInst s slot (fun i => { i with marks := i.marks.set k .released })
    let s2 := match (instSections s i)[k]? with
      | some x => freeSection x.1 s1
      | none => s1
    let gone := (i.marks.set k .released).all (· == .released)
    let here := i.held.filter (fun h => h.idx == some k)
    let flanks := if gone then i.held.filter (fun h => h.idx.isNone) else []
    let s3 := updateInst (unlockAll flanks (unlockAll here s2)) slot (fun i =>
      { i with held := i.held.filter (fun h => !(h.idx == some k) && !(gone && h.idx.isNone)) })
    recomputeEntry i s3

/-- The cascade of releases from section `k` on: each section that passes the test of R69 is released (R70 step 5). -/
def cascade (slot : Nat) : Nat → Nat → State → State
  | 0, _, s => s
  | fuel + 1, k, s => if releasable s slot k then cascade slot fuel (k + 1) (releaseOne slot k s) else s

/-- Sectional release tested from section `k` on, followed by the freeing test when a section was released (R69, R70). -/
def releaseFrom (slot k : Nat) (s : State) : State :=
  if releasable s slot k then freeTest slot (cascade slot 13 k s) else s

/-- The approach release timer of an instance cancelled in OCCUPIED has expired: release has no order left (R80). -/
def unordered (i : Inst) : Bool := i.state == .releasing && i.approach == .expired

/-- A section that has become CLEAR is offered to sectional release (R25 step 2, R69, R80). -/
def offerRelease (n : Nat) (s : State) : State :=
  match routeHolder s n with
  | none => s
  | some slot =>
    match instAt s slot with
    | none => s
    | some i =>
      match sectionIndex s i n with
      | none => s
      | some k => if unordered i then freeTest slot (releaseOne slot k s) else releaseFrom slot k s

/-! ### SET and OCCUPIED -/

/-- The entry into OCCUPIED, with the tests of the marks that waited (R68, R69).  A first-passing train that has become
ABSENT before it leaves the overlap release timer stopped (R72; log entry 10).  The hand-over of R82 follows the recompute
(log entry 14). -/
def enterOccupied (slot : Nat) (s : State) : State :=
  match instAt s slot with
  | none => s
  | some i =>
    match i.firstPassing with
    | none => s
    | some t =>
      let s1 := updateInst s slot (fun i => { i with state := .occupied, entering := some t })
      let s2 := recomputeEntry i (raise (.route (.occupied slot i.route t)) s1)
      releaseFrom slot 0 (ifDemo i.requester (leaveCancel slot) s2)

/-- All that R61 asks of an instance in SETTING holds. -/
def setReady (s : State) (i : Inst) : Bool :=
  i.state == .setting && i.held.all (fun h => ptProven s h.point h.pos) &&
  (i.claim == .locked || !needsDeck s i)

/-- The test of R61; an instance whose first section is already PASSED goes straight on to OCCUPIED (R68). -/
def setTest (slot : Nat) (s : State) : State :=
  match instAt s slot with
  | none => s
  | some i =>
    if setReady s i then
      let s1 := updateInst s slot (fun i => { i with state := .set })
      let s2 := count .routesSet (some i.requester) (routeDistrict s1 i.route)
        (raise (.route (.set slot i.route)) s1)
      if i.firstPassing.isSome then enterOccupied slot s2 else recomputeEntry i s2
    else s

/-- The first section of an instance has become PASSED (R68, R78). -/
def firstPassed (slot t : Nat) (s : State) : State :=
  match instAt s slot with
  | none => s
  | some i =>
    match i.state with
    | .set => enterOccupied slot s
    | .releasing =>
      if i.origin = some .set then
        enterOccupied slot (raise (.route (.cancelVoid slot i.route t))
          (updateInst s slot (fun i => { i with approach := .stopped, origin := none })))
      else s
    | _ => s

/-- The step of a train into a section, told to the instance that holds it as a route section (R67). -/
def instStep (n t : Nat) (s : State) : State :=
  match routeHolder s n with
  | none => s
  | some slot =>
    match instAt s slot with
    | none => s
    | some i =>
      match sectionIndex s i n with
      | none => s
      | some k =>
        if i.marks[k]? = some .locked then
          let s1 := updateInst s slot (fun i => { i with
            marks := i.marks.set k .passed, firstPassing := if k = 0 then some t else i.firstPassing })
          if k = 0 then firstPassed slot t s1 else s1
        else s

/-! ### Points -/

/-- A change of a point's reported position told to one instance that holds it: only SETTING responds (R62). -/
def pointTold (n : Nat) (why : FailReason) (slot : Nat) (s : State) : State :=
  match instAt s slot with
  | none => s
  | some i =>
    match i.state, i.held.find? (fun h => h.point == n) with
    | .setting, some h => if ptProven s n h.pos then setTest slot s else failInst slot why s
    | _, _ => s

/-- The hand-on of a change of reported position: the instances that hold the point by slot, then eligibility when it
has become proven, then the aspects (R29, R30, R32). -/
def pointHandOn (n : Nat) (why : FailReason) (s : State) : State :=
  let s1 := (slotsWhere s (fun i => i.held.any (fun h => h.point == n))).foldl (fun s i => pointTold n why i s) s
  let s2 := if (ptAt s n).any (fun st => (positionOf st.reported).isSome) then eligible s1 else s1
  recomputeAll (pointSignals s2 n) s2

/-! ### The deck -/

/-- A PENDING claim meets a deck that has become ALIGNED(j): at its target it becomes LOCKED, elsewhere the instance
fails (R54, R63).  While a claim is PENDING no other instance takes the deck section (R53, R121; `overlapHeld`), so the
lock it writes there stands at none. -/
def claimAligned (j slot : Nat) (s : State) : State :=
  match instAt s slot with
  | none => s
  | some i =>
    if i.claim = .pending then
      if (routeAt s i.route).bind (routeTarget s) = some j then
        let s1 := updateInst s slot (fun i => { i with claim := .locked })
        let s2 := match (desc s).deck with
          | some d => if (instSections s i).any (fun x => x.1 == d.sec)
              then setLock d.sec (some { slot := slot, role := .route }) s1 else s1
          | none => s1
        setTest slot s2
      else failInst slot .deckLost s
    else s

/-- The deck has become ALIGNED(j), handed to the Interlocking Unit (R127 step 4). -/
def deckAlignedTo (j : Nat) (s : State) : State :=
  let s1 := (slotsWhere s (fun i => i.claim == .pending)).foldl (fun s i => claimAligned j i s) s
  eligible (recomputeAll (deckSignals s1) s1)

/-- The deck section given up by an instance that stays in its state (R63, R81).  An overlap lost in this way leaves the
overlap release timer as it stands and raises no ROUTE OVERLAP-RELEASED (log entry 10). -/
def giveUpDeck (slot n : Nat) (s : State) : State :=
  if lockedTo s slot .route n then
    updateInst (freeSection n s) slot (fun i => match sectionIndex s i n with
      | some k => { i with marks := i.marks.set k .released }
      | none => i)
  else
    freeTest slot (updateInst (freeSection n s) slot (fun i => { i with overlap := i.overlap.filter (· != n) }))

/-- The deck has become UNPROVEN, told to one instance (R63, R132). -/
def deckLostTold (slot : Nat) (s : State) : State :=
  match instAt s slot, (desc s).deck with
  | some i, some d =>
    match i.state with
    | .setting => if i.claim != .none || holdsSection s slot d.sec then failInst slot .deckLost s else s
    | .set => if holdsSection s slot d.sec then failInst slot .deckLost s else s
    | _ => if holdsSection s slot d.sec then giveUpDeck slot d.sec s else s
  | _, _ => s

/-- The deck has become UNPROVEN, handed to the Interlocking Unit (R128 step 4), which tells the instances in ascending slot
number (R63, R132; log entry 10). -/
def deckLost (s : State) : State :=
  let s1 := (slotsWhere s (fun _ => true)).foldl (fun s i => deckLostTold i s) s
  recomputeAll (deckSignals s1) s1

/-! ### The overlap -/

/-- Overlap sections released: their locks go, the timer is done, and the instance is tested for freeing (R73, R80). -/
def releaseOverlap (slot : Nat) (s : State) : State :=
  match instAt s slot with
  | none => s
  | some i =>
    if i.overlap.isEmpty then updateInst s slot (fun i => { i with overlapTimer := .done })
    else
      let s1 := updateInst (freeHeld slot .overlap i.overlap s) slot (fun i =>
        { i with overlap := [], overlapTimer := .done })
      recomputeEntry i (raise (.route (.overlapReleased slot i.overlap none)) s1)

/-- The expiry of the overlap release timer (R73). -/
def overlapExpiry (slot : Nat) (s : State) : State := freeTest slot (releaseOverlap slot s)

/-- The overlap release timer starts; a time of 0 expires at once (R72). -/
def startOverlap (slot : Nat) (s : State) : State :=
  if (desc s).params.overlapTime = 0 then overlapExpiry slot s
  else updateInst s slot (fun i => { i with overlapTimer := .running ((desc s).params.overlapTime * 1000) })

/-- The entering train's head section and new output, handed to one instance (R72). -/
def overlapReport (head out slot : Nat) (s : State) : State :=
  match instAt s slot with
  | none => s
  | some i =>
    if finalSection s i.route = some head ∧ out = 0 then
      if i.overlapTimer = .stopped ∧ i.overlap ≠ [] then startOverlap slot s else s
    else match i.overlapTimer with
      | .running _ => updateInst s slot (fun i => { i with overlapTimer := .stopped })
      | _ => s

/-- Step 8 of a supervision expiry: every live instance whose entering train it is (R117), in ascending slot number; a train
that was removed and is placed again reports to the instances it had entered (log entry 10). -/
def reportToInstances (t head out : Nat) (s : State) : State :=
  (slotsWhere s (fun i => i.entering == some t)).foldl (fun s i => overlapReport head out i s) s

/-- The entering train has become ABSENT: a stopped overlap release timer starts (R72), in ascending slot number of the
instances.  No report of the ABSENT train stops it; one of the train placed again may (log entry 10). -/
def enteringGone (t : Nat) (s : State) : State :=
  (slotsWhere s (fun i => i.entering == some t && i.overlapTimer == .stopped && !i.overlap.isEmpty)).foldl
    (fun s i => startOverlap i s) s

/-- An instance is told that overlap sections have passed to another one (R73). -/
def absorbedTold (slot receiver : Nat) (taken : List Nat) (s : State) : State :=
  match instAt s slot with
  | none => s
  | some i =>
    let s1 := updateInst s slot (fun i => { i with overlap := i.overlap.filter (fun n => !taken.contains n) })
    if (i.overlap.filter (fun n => !taken.contains n)).isEmpty then
      let s2 := updateInst s1 slot (fun i => { i with overlapTimer := .done })
      freeTest slot (recomputeEntry i (raise (.route (.overlapReleased slot taken (some receiver))) s2))
    else recomputeEntry i s1

/-! ### Cancelling -/

/-- An instance in SET is approach-locked (R76). -/
def approachLocked (s : State) (i : Inst) : Bool :=
  match routeAt s i.route with
  | none => false
  | some r =>
    s.trains.any (fun e =>
      match e.2.sup, r.sections.head? with
      | some u, some f =>
        e.2.state != .absent && u.auth.any (fun x => x.sec == f.1) &&
        (u.output != 0 || (headOf e.2.list).any (fun h => r.approach.contains h))
      | _, _ => false)

/-- An instance enters RELEASING: the approach release timer starts and its locks are kept (R77, R79). -/
def enterReleasing (slot : Nat) (origin : Origin) (by_ : Party) (s : State) : State :=
  match instAt s slot with
  | none => s
  | some i =>
    let s1 := updateInst s slot (fun i => { i with
      state := .releasing, origin := some origin,
      approach := .running ((desc s).params.approachTime * 1000) })
    recomputeEntry i (raise (.route (.releasing slot i.route origin by_)) s1)

/-- The expiry of the approach release timer with origin OCCUPIED: release without regard to order (R80). -/
def expireOccupied (slot : Nat) (s : State) : State :=
  match instAt s slot with
  | none => s
  | some i =>
    let s1 := updateInst s slot (fun i => { i with approach := .expired })
    let s2 := (List.range i.marks.length).foldl (fun s k =>
      match instAt s slot with
      | some j =>
        if entryAt j.marks k .released != .released &&
            (((instSections s j)[k]?).bind (fun x => secAt s x.1)).any (fun st => st.occ == .clear)
        then releaseOne slot k s else s
      | none => s) s1
    freeTest slot (releaseOverlap slot s2)


end Sys2Proof.Machine
end

