-- ==== Sys2Proof/Machine/Deck.lean ====
section
/-! DEFINITION. The Deck Controller (chapter 7): the start of a move (R122 to R124), the answers of the DECK module (R126,
R129), the end of a move (R127, R128), the latch (R125, R131) and the module's failure (R130). -/

namespace Sys2Proof.Machine

/-- The steps of a move from `f` to `t` of `n` roads in a sense (R122). -/
def stepsOf (n f t : Nat) : Sense → Nat
  | .cw => (((t : Int) - (f : Int)) % (n : Int)).toNat
  | .ccw => (((f : Int) - (t : Int)) % (n : Int)).toNat

/-- A requested sense resolved at the start of a move: SHORT is CW when that count is no greater (R122). -/
def resolveSense (n f t : Nat) : ReqSense → Sense
  | .cw => .cw
  | .ccw => .ccw
  | .short => if stepsOf n f t .cw ≤ stepsOf n f t .ccw then .cw else .ccw

/-- The index from which a move starts: j for ALIGNED(j), the reported index for an UNPROVEN deck (R122); 0 where no
index has ever been reported. -/
def startIndex (d : DeckState) : Nat :=
  match d.pos with
  | .aligned j => j
  | .moving f _ _ => f
  | .unproven => d.reported.getD 0

/-- The time of a move of `steps` steps in ms (R122). -/
def moveTime (p : Params) (steps : Nat) : Nat := 2 * (steps * p.deckStep + p.deckSettle)

/-- No instance holds the deck section: none has it locked and none holds a deck claim (R123). -/
def deckHeld (s : State) (sec : Nat) : Bool :=
  (secAt s sec).any (fun st => st.lock.isSome) || s.il.instances.any (fun e => e.2.claim != .none)

/-- The deck section is CLEAR, or OCCUPIED by one train that has it as its whole list at output 0 (R123). -/
def deckFree (s : State) (sec : Nat) : Bool :=
  match secAt s sec with
  | none => false
  | some st =>
    st.occ == .clear ||
    (match st.occupant with
     | .train t => (trainAt s t).any (fun r => r.list == [sec]) && outputOf s t == 0
     | _ => false)

/-- The first start condition of R123 after the all-stop latch that fails. -/
def startFails (s : State) (d : DeckEntry) : Option Reason :=
  if deckHeld s d.sec then some .deckLocked
  else if !deckFree s d.sec then some .deckOccupied
  else if !moduleActive s d.addr then some .moduleFailed
  else none

/-- The Deck Controller's state changed, when a deck is described. -/
def updateDeck (s : State) (f : DeckState → DeckState) : State := s.withDeck (s.deck.map f)

/-- A DECK record of the deck as it stands (R134). -/
def noteDeck (ev : DeckEvent) (s : State) : State :=
  match s.deck with
  | some d => raise (.deck ev d.pos (d.latch.map (·.road))) s
  | none => s

/-- A latched move emptied, with notice DECK LATCH-DISCARDED (R121, R128 to R130). -/
def discardLatch (cause : DiscardCause) (s : State) : State :=
  match s.deck with
  | some d =>
    if d.latch.isSome then noteDeck (.latchDiscarded cause) (updateDeck s (fun d => { d with latch := none })) else s
  | none => s

/-- The start of a move to road `t`: one piece of work (R124). -/
def startMove (t : Nat) (sense : ReqSense) (req : MoveReq) (s : State) : State :=
  match s.deck, (desc s).deck with
  | some d, some e =>
    let f := startIndex d
    let sn := resolveSense e.n f t sense
    let steps := stepsOf e.n f t sn
    let s1 := offer (.deckTurn t sn) s
    let s2 := updateDeck s1 (fun d => { d with
      pos := .moving f t sn, req := some req, doubt := 0, timer := some (moveTime (desc s).params steps) })
    let s3 := noteDeck (.moving steps req) s2
    recomputeAll (deckSignals s3) s3
  | _, _ => s

/-- The steps a move of the latch would take, for its LATCH-STARTED record. -/
def latchSteps (s : State) (l : Latch) : Nat :=
  match s.deck, (desc s).deck with
  | some d, some e => stepsOf e.n (startIndex d) l.road (resolveSense e.n (startIndex d) l.road l.sense)
  | _, _ => 0

/-- The latch checked again when the deck has become ALIGNED, or when RESUME clears the all-stop latch (R127 step 5,
R131). -/
def recheckLatch (s : State) : State :=
  match s.deck, (desc s).deck with
  | some d, some e =>
    match d.latch, d.pos with
    | some l, .aligned j =>
      if s.ctl.allStop.isSome then s
      else
        let s1 := updateDeck s (fun d => { d with latch := none })
        if l.road = j then noteDeck (.latchStarted 0) s1
        else match startFails s e with
          | none => noteDeck (.latchStarted (latchSteps s l)) (startMove l.road l.sense (.port l.port) s1)
          | some why => noteDeck (.latchRefused why) s1
    | _, _ => s
  | _, _ => s

/-- The party a completed move counts for: the port, or the instance's requester recorded with it (R127). -/
def moveParty : MoveReq → Party
  | .port p => .port p
  | .inst _ q => q

/-- The deck becomes ALIGNED(j) with its move ended: record, hand-on (R126, R127, R129). -/
def becomeAligned (j : Nat) (ev : DeckEvent) (s : State) : State := deckAlignedTo j (noteDeck ev s)

/-- The deck set ALIGNED(j) with no move under way. -/
def setAligned (j : Nat) (s : State) : State :=
  updateDeck s (fun d => { d with pos := .aligned j, req := none, timer := none, doubt := 0 })

/-- Completion of a move to `t`: one piece of work (R127). -/
def completeMove (t : Nat) (req : Option MoveReq) (s : State) : State :=
  let s1 := setAligned t s
  let s2 := count .deckTurns (req.map moveParty) (deckDistrict s1) s1
  recheckLatch (becomeAligned t (.aligned .completed none) s2)

/-- The deck stopped at `i`, elsewhere than its target `t` (R126). -/
def stopElsewhere (i t : Nat) (s : State) : State :=
  recheckLatch (becomeAligned i (.aligned .stopped (some t)) (setAligned i s))

/-- The expiry of the move timer (R128). -/
def moveTimeout (s : State) : State :=
  match s.deck with
  | some d =>
    match d.pos with
    | .moving _ t _ =>
      let s1 := updateDeck s (fun d => { d with pos := .unproven, req := none, timer := none })
      deckLost (discardLatch .timeout (noteDeck (.timeout t) s1))
    | _ => s
  | none => s

/-- An ALIGNED deck that two answers in a row did not show at rest there (R129).  LATCH-DISCARDED is raised before UNPROVEN:
R130 puts its UNPROVEN first, R129 gives the two no order, and this one is the model's choice; of two DECK records the later
stands in a queue that coalesces them (log entry 10). -/
def loseDeck (s : State) : State :=
  let s1 := updateDeck s (fun d => { d with pos := .unproven, doubt := 0 })
  deckLost (noteDeck (.unproven .lost) (discardLatch .lost s1))

/-- A good answer of the DECK module: the index it shows, and whether it shows the deck at rest there (R126, R129). -/
def deckAnswer (index : Nat) (atRest : Bool) (s : State) : State :=
  let s1 := updateDeck s (fun d => { d with reported := some index })
  match s1.deck with
  | none => s1
  | some d =>
    match d.pos with
    | .moving f t _ =>
      if !atRest then s1
      else if index = t then completeMove t d.req s1
      else if index = f then s1
      else stopElsewhere index t s1
    | .aligned j =>
      if atRest && index == j then updateDeck s1 (fun d => { d with doubt := 0 })
      else if d.doubt = 0 then updateDeck s1 (fun d => { d with doubt := 1 })
      else loseDeck s1
    | .unproven => if atRest then becomeAligned index (.aligned .found none) (setAligned index s1) else s1

/-- The DECK module has become FAILED (R130). -/
def deckModuleFailed (s : State) : State :=
  let s1 := updateDeck s (fun d => { d with pos := .unproven, req := none, timer := none, doubt := 0 })
  deckLost (discardLatch .moduleFailed (noteDeck (.unproven .moduleFailed) s1))

end Sys2Proof.Machine
end

