-- ==== Sys2Proof/Machine/Tracker.lean ====
section
/-! DEFINITION. The Train Tracker (chapter 5): disruption (R98), a section becoming OCCUPIED (R91 to R96) or CLEAR (R97),
and the accepted change of a section's occupancy as a whole (R23 to R25). -/

namespace Sys2Proof.Machine

/-- The trains that satisfy `p`, ascending. -/
def trainsWhere (s : State) (p : Nat → TrainRec → Bool) : List Nat := itemsWhere s.trains p

/-- The driver of a train, as an attribute (R179). -/
def driverOf (s : State) (t : Nat) : Option Party := (trainAt s t).bind (·.driver)

/-- A disruption handed to the Demonstration Unit when the driver is DEMO (R98). -/
def handDisruption (t : Nat) (s : State) : State :=
  if driverOf s t = some .demo ∧ s.demo.run.any (fun r => r.train == t) then abort .disrupted s else s

/-- A PLACED train becomes DISRUPTED with the cause (R98); a DISRUPTED train keeps its first. -/
def markDisrupted (t : Nat) (cause : Cause) (s : State) : State :=
  updateTrain s t (fun r => if r.state = .placed then { r with state := .disrupted, cause := some cause } else r)

/-- The train is PLACED. -/
def isPlaced (s : State) (t : Nat) : Bool := (trainAt s t).any (fun r => r.state == .placed)

/-- The transition from PLACED to DISRUPTED: cause, count, notice, hand-over (R98). -/
def disrupt (t : Nat) (cause : Cause) (s : State) : State :=
  if isPlaced s t then
    let s1 := markDisrupted t cause s
    handDisruption t (noteTrain t .disrupted (count .trainDisrupted (driverOf s1 t) none s1))
  else s

/-! ### A section becomes OCCUPIED -/

/-- The section after the head in a train's authority list, with the route it was taken from (R91). -/
def nextSection (r : TrainRec) : Option AuthSec :=
  match r.sup, headOf r.list with
  | some u, some h => ((u.auth.dropWhile (fun x => x.sec != h)).drop 1).head?
  | _, _ => none

/-- The trains whose next section it is (R91). -/
def nextTrains (s : State) (n : Nat) : List Nat :=
  trainsWhere s (fun _ r => r.state != .absent && (nextSection r).any (fun x => x.sec == n))

/-- The signal standing at the end of a section in a direction (Table 1-2). -/
def endSignal (s : State) (n : Nat) (d : Dir) : Option Nat :=
  (secEntry s n).bind (fun e => match d with | .up => e.upSignal | .down => e.downSignal)

/-- The signal at the head end of a train whose direction is UP or DOWN (R93). -/
def headSignal (s : State) (r : TrainRec) : Option Nat :=
  match r.heading, headOf r.list with
  | .up, some h => endSignal s h .up
  | .down, some h => endSignal s h .down
  | _, _ => none

/-- The lowest-numbered route from a signal whose first section is `n` (R93). -/
def overrunRoute (s : State) (sig n : Nat) : Option Nat :=
  (itemsWhere (desc s).routes (fun _ e => e.entry == sig && (e.sections.head?).any (fun x => x.1 == n))).head?

/-- The trains that have passed a signal at STOP into the section (R93). -/
def overrunTrains (s : State) (n : Nat) : List Nat :=
  trainsWhere s (fun _ r => r.state == .placed &&
    (headSignal s r).any (fun g => (overrunRoute s g n).isSome))

/-- The overrun effects of R93. -/
def overrunEffects (t sig n : Nat) (s : State) : State :=
  let fresh := isPlaced s t
  let s1 := markDisrupted t .overrun s
  let s2 := count .signalOverruns (driverOf s1 t) ((findItem (desc s1).signals sig).map (·.district))
    (raise (.supervision (.signalOverrun t sig n)) s1)
  if fresh then handDisruption t (noteTrain t .disrupted (count .trainDisrupted (driverOf s2 t) none s2)) else s2

/-- A list of 9 sections drops its tail, and the train becomes DISRUPTED with cause OVERFLOW (R95). -/
def overflow (t : Nat) (s : State) : State :=
  match trainAt s t with
  | some r =>
    match r.list with
    | tail :: rest =>
      if Config.listLimit < r.list.length then
        let occ := (secAt s tail).any (fun st => st.occ == .occupied)
        let s1 := updateTrain s t (fun r => { r with list := rest })
        disrupt t .overflow (giveOccupant tail (if occ then .unknown else .none) s1)
      else s
    | [] => s
  | none => s

/-- The facing of a train that steps onto the deck, and whether it could be had (R96). -/
def deckFacing (s : State) (route prev : Option Nat) : Heading × Bool :=
  match (route.bind (routeAt s)).bind (·.deckReq) with
  | some (_, .a) => (.faceB, true)
  | some (_, .b) => (.faceA, true)
  | none =>
    match deckAligned s, (desc s).deck, prev with
    | some j, some d, some p =>
      if (findItem d.roads j).any (fun e => e.sec == some p) then (.faceB, true)
      else if (findItem d.roads ((j + d.n / 2) % d.n)).any (fun e => e.sec == some p) then (.faceA, true)
      else (.faceA, false)
    | _, _, _ => (.faceA, false)

/-- The travel direction the stepping route gives for a section. -/
def routeDir (s : State) (route : Option Nat) (n : Nat) : Option Dir :=
  (route.bind (routeAt s)).bind (fun r => (r.sections.find? (fun x => x.1 == n)).map (·.2))

/-- Step 3 of R92: the direction after a step onto the section; it stays where the route gives none, which no run
reaches whose expiries come at their time (log entry 15). -/
def turnStep (t n : Nat) (route prev : Option Nat) (s : State) : State :=
  if isDeckSection s n then
    let f := deckFacing s route prev
    let s1 := updateTrain s t (fun r => { r with heading := f.1 })
    if f.2 then s1 else disrupt t .deck s1
  else updateTrain s t (fun r => match routeDir s route n with
    | some d => { r with heading := headingOf d }
    | none => r)

/-- The entry signal of the instance in RELEASING with origin SET whose first route section it is (R92 step 6). -/
def cancelledEntry (s : State) (n : Nat) : Option Nat :=
  match (routeHolder s n).bind (instAt s) with
  | some i =>
    if i.state = .releasing ∧ i.origin = some .set ∧ (instSections s i).head?.map (·.1) = some n
    then entrySignal s i else none
  | none => none

/-- A step of a train into a section: one piece of work (R92).  `past` is the signal of a step under R93, whose overrun
effects R93 gives no place among the steps of R92: the model makes them after step 5, where step 6 puts those of an entry
behind a cancel, so a train that OVERFLOW (R95) or DECK (R96) has made DISRUPTED in the same step keeps that cause (log
entry 15). -/
def stepInto (t n : Nat) (route past : Option Nat) (s : State) : State :=
  let prev := trainHead s t
  let s1 := overflow t (setOccupant n (.train t) (updateTrain s t (fun r => { r with list := r.list ++ [n] })))
  let s2 := turnStep t n route prev (updateSup s1 t (fun u => { u with offset := 0 }))
  let s3 := count .sectionSteps (driverOf s2 t) (secDistrict s2 n) s2
  let sig := if past.isSome then past else cancelledEntry s3 n
  let s4 := instStep n t s3
  let s5 := match sig with
    | some g => overrunEffects t g n s4
    | none => s4
  demoStep t n (noteTrain t .step s5)

/-- A section becomes OCCUPIED (R91, R93, R94). -/
def becameOccupied (n : Nat) (s : State) : State :=
  match (((secAt s n).map (·.occupant)).getD .unknown : Occupant) with
  | .none =>
    match nextTrains s n with
    | [t] => stepInto t n (((trainAt s t).bind nextSection).bind (·.route)) none s
    | _ =>
      match overrunTrains s n with
      | [t] =>
        let sig := (trainAt s t).bind (headSignal s)
        stepInto t n (sig.bind (fun g => overrunRoute s g n)) sig s
      | _ => noteSection n .unknown (setOccupant n .unknown s)
  | _ => s

/-! ### A section becomes CLEAR -/

/-- A section leaves a train's list: its occupant becomes none, and a train that lost its head stands at the far end of
the section before it (R97). -/
def leaveList (t n : Nat) (s : State) : State :=
  let wasHead := trainHead s t == some n
  let s1 := setOccupant n .none (updateTrain s t (fun r => { r with list := r.list.filter (· != n) }))
  if wasHead then
    match trainHead s1 t with
    | some h => updateSup s1 t (fun u => { u with offset := secLength s1 h * 20 - 1 })
    | none => s1
  else s1

/-- A section becomes CLEAR (R97).  The change of a list alone raises TRAIN with event STEP, and one TRAIN record with event
DISRUPTED tells both changes of a train that is PARTED (log entry 20). -/
def becameClear (n : Nat) (s : State) : State :=
  match (((secAt s n).map (·.occupant)).getD .none : Occupant) with
  | .train t =>
    match (((trainAt s t).map (·.list)).getD [] : List Nat) with
    | [_] => disrupt t .vanished s
    | tail :: _ =>
      let parted := tail != n && isPlaced s t
      let s1 := leaveList t n s
      if parted then disrupt t .parted s1 else noteTrain t .step s1
    | [] => s
  | .unknown => setOccupant n .none s
  | .none => s

/-! ### An accepted change of occupancy -/

/-- Occupancy changes are held as disturbed: in REST, and in a WAKING entered by WAKE (R15). -/
def holdsChanges (s : State) : Bool := s.ctl.mode == .rest || (s.ctl.mode == .waking && s.ctl.wakeBy == .wake)

/-- The clear count of a section set, in the module table (R23). -/
def setClearCount (n v : Nat) (s : State) : State :=
  match secEntry s n with
  | some e => updateModule s e.addr (fun m => { m with clearCounts := m.clearCounts.set e.input v })
  | none => s

/-- The clear count of a section. -/
def clearCountOf (s : State) (n : Nat) : Nat :=
  match secEntry s n with
  | some e => entryAt (moduleAt s e.addr).clearCounts e.input 0
  | none => 0

/-- A section's accepted occupancy changes (R25). -/
def occupancyChanged (n : Nat) (occ : Occupancy) (s : State) : State :=
  let s1 := noteSection n .state (updateSec s n (fun st => { st with occ := occ }))
  let s2 :=
    if holdsChanges s1 then updateSec s1 n (fun st => { st with disturbed := true })
    else match occ with
      | .occupied => becameOccupied n s1
      | .clear => becameClear n s1
  let s3 := match occ with
    | .clear => eligible (offerRelease n s2)
    | .occupied => s2
  recomputeAll (sectionSignals s3 n) s3

/-- The filter of R23 on one section, by what a good answer shows its input to be. -/
def filterSection (n : Nat) (shown : Occupancy) (s : State) : State :=
  match secAt s n with
  | none => s
  | some st =>
    match st.occ, shown with
    | .clear, .occupied => occupancyChanged n .occupied (setClearCount n 0 s)
    | .clear, .clear => setClearCount n 0 s
    | .occupied, .occupied => setClearCount n 0 s
    | .occupied, .clear =>
      if clearCountOf s n = 0 then setClearCount n 1 s else occupancyChanged n .clear (setClearCount n 0 s)

/-- A section whose DETECT module has become FAILED (R24). -/
def failSection (n : Nat) (s : State) : State :=
  let s1 := setClearCount n 0 s
  if (secAt s1 n).any (fun st => st.occ == .clear) then occupancyChanged n .occupied s1 else s1

/-! ### Point answers -/

/-- One point of a good POINT answer, by the position the answer shows, if it shows one (R28, R29). -/
def pointAnswer (n : Nat) (shown : Option Position) (s : State) : State :=
  match ptAt s n with
  | none => s
  | some st =>
    let changed := fun (r : Reported) (s : State) =>
      pointHandOn n (.pointLost n) (notePoint n .position (setNeither n 0
        (updatePt s n (fun st => { st with reported := r, timer := if st.reported = .moving then none else st.timer }))))
    match st.reported, shown with
    | .moving, some pos => if st.commanded = some pos then changed (provenIn pos) s else setNeither n 0 s
    | .moving, none => setNeither n 0 s
    | .unproven, some pos => changed (provenIn pos) s
    | .unproven, none => s
    | r, some pos => if r = provenIn pos then setNeither n 0 s else changed (provenIn pos) s
    | _, none => if neitherOf s n = 0 then setNeither n 1 s else changed .unproven s

/-- The expiry of a point's move timer (R32). -/
def pointTimeout (n : Nat) (s : State) : State :=
  pointHandOn n (.pointTimeout n) (notePoint n .timeout
    (updatePt s n (fun st => { st with reported := .unproven, timer := none })))

/-- The points of a POINT module that has become FAILED (R30): all of them take their safe values first.  DESIGN CHOICE: the
changed points are then taken in ascending number, and the notice of each is followed by its own hand-on before the notice of
the next, where R30 leaves open whether all the notices go before the first hand-on (log entry 11). -/
def failPoints (pts : List Nat) (s : State) : State :=
  let changed := pts.filter (fun n => (ptAt s n).any (fun st => st.reported != .unproven))
  let s1 := pts.foldl (fun s n => setNeither n 0 (updatePt s n (fun st =>
    { st with reported := .unproven, timer := if st.reported = .moving then none else st.timer }))) s
  changed.foldl (fun s n => pointHandOn n (.pointLost n) (notePoint n .position s)) s1

end Sys2Proof.Machine
end

