-- ==== Sys2Proof/Machine/Modes.lean ====
section
/-! DEFINITION. Mode Control at work: the all-stop latch (R20, R21, R116), the entry to WAKING (R11), settlement (R17),
the end of a pending REST and the entry to REST (R13, R14), and the retry list's expiries (R60). -/

namespace Sys2Proof.Machine

/-! ### The all-stop latch -/

/-- A SPEED command for a supervised train. -/
def isSpeedOf (ts : List Nat) : RingCmd → Bool | .speed t _ _ => ts.contains t | _ => false

/-- The supervised trains, ascending (R101). -/
def supervised (s : State) : List Nat := trainsWhere s (fun _ r => r.sup.isSome)

/-- The SPEED 0 command of a train. -/
def speedZero (s : State) (t : Nat) : Option RingCmd :=
  ((trainAt s t).bind (·.sup)).map (fun u => .speed t 0 u.sense)

/-- The waiting SPEED commands of the trains removed; a place freed in the queue takes the slot's command (R116,
R161). -/
def removeSpeeds (ts : List Nat) (r : Ring) : Ring :=
  refillSlot { r with
    stopRun := r.stopRun.filter (fun c => !isSpeedOf ts c), queue := r.queue.filter (fun c => !isSpeedOf ts c),
    slot := r.slot.filter (fun c => !isSpeedOf ts c) }

/-- The Speed Supervisor's work when the latch becomes set: every output 0 and the SPEED 0 commands at the head of the
queue, in ascending train number (R116, R160). -/
def stopTrains (s : State) : State :=
  let ts := supervised s
  let s1 := ts.foldl (fun s t => updateSup s t (fun u => { u with output := 0, refresh := 0 })) s
  let r := removeSpeeds ts s1.ring
  s1.withRing (if tractionActive s1 then { r with stopRun := ts.filterMap (speedZero s1) ++ r.stopRun } else r)

/-- An event that sets the all-stop latch; one that finds it set keeps the cause and raises nothing (R20).  The record MODE
ALL-STOP stands before DEMO CLOSED, which no rule orders (DESIGN CHOICE, log entry 16). -/
def setAllStop (cause : StopCause) (s : State) : State :=
  if s.ctl.allStop.isSome then s
  else
    let s1 := raise (.mode (.allStop cause)) (s.withCtl { s.ctl with allStop := some cause })
    recomputeService (stopTrains s1)

/-- The most recent accepted answer of the traction module reports OVERLOAD (R21). -/
def tractionOverload (s : State) : Bool :=
  match (desc s).traction with
  | some a => ((moduleAt s a).data.bind (·.head?)).any (fun b => b.getLsbD 1)
  | none => false

/-- RESUME may clear the latch (R21). -/
def mayResume (s : State) : Bool :=
  !s.ctl.estop && (s.ctl.mode == .config || (tractionActive s && !tractionOverload s))

/-- RESUME with the latch set and its conditions met: the latch is cleared, then the Deck Controller and the
Demonstration Unit act (R21, R131, R136). -/
def clearAllStop (p : PortId) (s : State) : State :=
  let s1 := raise (.mode (.resumed p)) (s.withCtl { s.ctl with allStop := none })
  recomputeService (recheckLatch s1)

/-! ### Retry list -/

/-- The retry entries that satisfy `p` leave the list without evaluation, in list order (R60). -/
def expireEntries (p : RetryEntry → Bool) (cause : ExpireCause) (s : State) : State :=
  (s.engine.retry.filter p).foldl (fun s e => raise (.route (.expired e.route e.port cause)) s)
    (s.withEngine { s.engine with retry := s.engine.retry.filter (fun e => !p e) })

/-! ### Modes -/

/-- The entry to WAKING: POWER ON and notice MODE WAKING (R11). -/
def enterWaking (cause : WakeCause) (s : State) : State :=
  raise (.mode (.waking cause)) (offerPower true (s.withCtl { s.ctl with mode := .waking, wakeBy := cause }))

/-- One disturbed section settled by its current occupancy (R17). -/
def settleSection (n : Nat) (s : State) : State :=
  match secAt s n with
  | none => s
  | some st =>
    if st.disturbed then
      let s1 := updateSec s n (fun st => { st with disturbed := false })
      match st.occ, st.occupant with
      | .clear, _ => let s2 := becameClear n s1; recomputeAll (sectionSignals s2 n) s2
      | .occupied, .train _ => s1
      | .occupied, _ =>
        let s2 := noteSection n .unknown (updateSec s1 n (fun st => { st with occupant := .unknown }))
        recomputeAll (sectionSignals s2 n) s2
    else s

/-- Every disturbed section settled: those in train lists by train, tail to head, then the others (R17). -/
def settleAll (s : State) : State :=
  let listed := (s.trains.map (fun e => e.2.list)).flatten
  let others := (itemNumbers s.il.sections).filter (fun n => !listed.contains n)
  (listed ++ others).foldl (fun s n => settleSection n s) s

/-- The whole-sweep boundary that completes the wake sweep (R11).  The record MODE IN-SERVICE stands before that of the
service, DEMO OPEN or DEMO CLOSED, which no rule orders (DESIGN CHOICE, log entry 16). -/
def endWaking (s : State) : State :=
  let s1 := if s.ctl.wakeBy = .wake then settleAll s else s
  recomputeService (raise (.mode .inService) (s1.withCtl { s1.ctl with mode := .inService }))

/-- A pending REST abandoned (R13, R14). -/
def abandonRest (cause : AbandonCause) (s : State) : State :=
  raise (.mode (.restAbandoned cause)) (s.withCtl { s.ctl with pendingRest := none })

/-- The deck is MOVING. -/
def deckMoving (s : State) : Bool :=
  match s.deck with
  | some d => match d.pos with | .moving .. => true | _ => false
  | none => false

/-- Every train's output speed is 0 (R12). -/
def allStill (s : State) : Bool := s.trains.all (fun e => e.2.sup.all (fun u => u.output == 0))

/-- The entry to REST (R14): the order of the rule, then the deck's latch and the service (R121, R136). -/
def enterRest (s : State) : State :=
  let s1 := offerPower false (s.withCtl { s.ctl with pendingRest := none, mode := .rest })
  let s2 := s1.withRing { s1.ring with
    service := s1.ring.pendingSetting.getD s1.ring.running, pendingSetting := none,
    running := { mode := .full, period := Config.restPeriod }, postCount := 0, overloaded := false }
  let s3 := s2.withIl { s2.il with sections := s2.il.sections.map (fun e => (e.1, { e.2 with disturbed := false })) }
  let s4 := raise (.mode .rest) (expireEntries (fun _ => true) .rest s3)
  recomputeService (discardLatch .rest s4)

/-- A whole-sweep boundary with a REST pending: the last three quiet conditions again, then REST (R14). -/
def restBoundary (s : State) : State :=
  if !allStill s then abandonRest .output s
  else if deckMoving s then abandonRest .deck s
  else if s.demo.run.isSome then abandonRest .demo s
  else enterRest s

/-- Mode Control's work at a whole-sweep boundary (R155 step 1). -/
def modeBoundary (s : State) : State :=
  let s1 := if s.ctl.mode = .waking then endWaking s else s
  if s1.ctl.mode = .inService ∧ s1.ctl.pendingRest.isSome then restBoundary s1 else s1

end Sys2Proof.Machine
end

