-- ==== Sys2Proof/Machine/Supervision.lean ====
section
/-! DEFINITION. The Speed Supervisor (chapter 6): the ten steps of a supervision expiry (R102 to R118). -/

namespace Sys2Proof.Machine

/-! ### The authority list -/

/-- The end a train runs to at the last section of an authority list (R104). -/
abbrev Reach := List AuthSec × Dir

/-- The instance that holds a section as a route section, with its route (R106, R109). -/
def routeInst (s : State) (n : Nat) : Option (Nat × Inst × RouteEntry) :=
  match routeHolder s n with
  | none => none
  | some slot =>
    match instAt s slot with
    | none => none
    | some i => (routeAt s i.route).map (fun r => (slot, i, r))

/-- The sections of an instance after the head section, up to the first that is no longer locked to it (R104). -/
def insideReach (s : State) (head : Nat) (heading : Heading) : Reach :=
  let start : Reach := ([{ sec := head, route := none }], headingEnd heading)
  match routeInst s head with
  | some (slot, i, r) =>
    if i.state = .setting then start
    else
      let ahead := ((r.sections.dropWhile (fun x => x.1 != head)).drop 1).takeWhile (fun x => lockedTo s slot .route x.1)
      match ahead.getLast? with
      | some l => (start.1 ++ ahead.map (fun x => { sec := x.1, route := some i.route }), l.2)
      | none => start
  | none => start

/-- The list extended through the signals ahead that show proceed (R105). -/
def extendReach (s : State) : Nat → Reach → List AuthSec
  | 0, a => a.1
  | fuel + 1, a =>
    if Config.authorityLimit ≤ a.1.length then a.1.take Config.authorityLimit
    else match (a.1.getLast?).bind (fun x => endSignal s x.sec a.2) with
      | none => a.1
      | some g =>
        if showsProceed s g then
          match proceedSlot s g with
          | some (_, i) =>
            match (instSections s i).getLast? with
            | some l => extendReach s fuel
                (a.1 ++ (instSections s i).map (fun x => { sec := x.1, route := some i.route }), l.2)
            | none => a.1
          | none => a.1
        else a.1

/-- The authority list of a train (R104, R105). -/
def authorityOf (s : State) (head : Nat) (heading : Heading) : List AuthSec :=
  (extendReach s (Config.authorityLimit + 1) (insideReach s head heading)).take Config.authorityLimit

/-! ### The permitted speed -/

/-- The speed limit of a section: its line limit, lowered to the shunt limit in a SHUNT route (R106). -/
def limitOf (s : State) (n : Nat) : Nat :=
  let line := ((secEntry s n).map (·.limit)).getD 0
  match routeInst s n with
  | some (_, _, r) => if r.cls = .shunt then min line (desc s).params.shuntLimit else line
  | none => line

/-- The whole millimetres from the head to the far end of its section (R107). -/
def headRemainder (s : State) (head offset : Nat) : Nat := secLength s head - offset / 20

/-- The distance from the head to the end of authority (R107). -/
def distanceEoA (s : State) (head offset : Nat) (auth : List AuthSec) : Nat :=
  headRemainder s head offset + ((auth.drop 1).map (fun x => secLength s x.sec)).sum

/-- A braking cap, not above 1023 (R108). -/
def brakingCap (limit brake margin dist : Nat) : Nat :=
  min Config.maxSpeed (isqrt (limit * limit + 2 * brake * (dist - margin)))

/-- The caps of the sections after the head, in list order, with their numbers (R107, R108); `dist` is the distance to
the near end of the first. -/
def sectionCaps (s : State) (brake : Nat) : Nat → List AuthSec → List (Nat × Term)
  | _, [] => []
  | dist, x :: l =>
    (brakingCap (limitOf s x.sec) brake (desc s).params.stopMargin dist, .sec x.sec) ::
      sectionCaps s brake (dist + secLength s x.sec) l

/-- The conditions of the release speed other than its height (R109). -/
def releaseFloor (s : State) (head : Nat) (auth : List AuthSec) : Bool :=
  (auth.getLast?).any (fun x => x.sec == head) &&
  (match routeInst s head with
   | some (slot, _, r) =>
     r.cls == .main && (r.sections.getLast?).any (fun x => x.1 == head) && !r.overlap.isEmpty &&
     r.overlap.all (fun n => lockedTo s slot .overlap n)
   | none => false)

/-- The cap of the end of authority with its term, raised by R109 where that applies (R108, R109). -/
def eoaCap (s : State) (brake head offset : Nat) (auth : List AuthSec) : Nat × Term :=
  let cap := brakingCap 0 brake (desc s).params.stopMargin (distanceEoA s head offset auth)
  if cap < (desc s).params.releaseSpeed ∧ releaseFloor s head auth then ((desc s).params.releaseSpeed, .release)
  else (cap, .eoa)

/-- The least of the terms; the first in order among equals (R110). -/
def leastTerm : Nat × Term → List (Nat × Term) → Nat × Term
  | best, [] => best
  | best, x :: l => leastTerm (if x.1 < best.1 then x else best) l

/-- The permitted speed and its limiting term (R106 to R110). -/
def permittedOf (s : State) (e : TrainEntry) (state : TrainState) (head offset : Nat) (auth : List AuthSec) : Nat × Term :=
  if state = .disrupted then (0, .disrupted)
  else
    leastTerm (min Config.maxSpeed e.vmax, .vmax)
      ((limitOf s head, .line) ::
        sectionCaps s e.brake (headRemainder s head offset) (auth.drop 1) ++ [eoaCap s e.brake head offset auth])

/-! ### Demand and output -/

/-- The demanded speed (R111). -/
def demandedOf (e : TrainEntry) (r : TrainRec) : Nat :=
  if r.driver.isNone || r.pendRev then 0 else r.throttle * e.vmax / 255

/-- The acceleration step (R112). -/
def accelStep (e : TrainEntry) : Nat := max 1 (e.accel / 20)

/-- The new output before forcing (R112). -/
def rampTo (e : TrainEntry) (v target : Nat) : Nat := if v < target then min target (v + accelStep e) else target

/-- A condition of R113 forces the output to 0. -/
def forcedZero (s : State) (r : TrainRec) (head : Nat) : Bool :=
  s.ctl.allStop.isSome || r.state == .disrupted || s.ctl.mode != .inService || !tractionActive s ||
  (isDeckSection s head && (deckAligned s).isNone)

/-- The new output speed (R112, R113). -/
def newOutput (s : State) (e : TrainEntry) (r : TrainRec) (head v demanded permitted : Nat) : Nat :=
  if forcedZero s r head then 0 else rampTo e v (min demanded permitted)

/-! ### The steps -/

/-- Steps 1 to 5: the supervision state computed afresh (R103 to R113). -/
def computeSup (s : State) (e : TrainEntry) (r : TrainRec) (u : Sup) (head : Nat) : Sup :=
  let offset := min (u.offset + u.output) (secLength s head * 20 - 1)
  let auth := authorityOf s head r.heading
  let perm := permittedOf s e r.state head offset auth
  let dem := demandedOf e r
  let out := newOutput s e r head u.output dem perm.1
  { u with offset := offset, auth := auth, permitted := perm.1, term := perm.2, demanded := dem,
           output := out, settled := out, timer := Config.supervisionMs }

/-- Step 6: the intervention flag (R114). -/
def interventionStep (t head : Nat) (v : Sup) (s : State) : State :=
  let now := decide (v.permitted < v.demanded)
  let s1 := updateSup s t (fun u => { u with intervening := now })
  if now && !v.intervening then
    count .interventions (driverOf s1 t) (secDistrict s1 head)
      (raise (.supervision (.interventionStart t v.demanded v.permitted v.term)) s1)
  else if !now && v.intervening then raise (.supervision (.interventionEnd t v.permitted)) s1
  else s1

/-- Step 7: a SPEED command when the output changed or the refresh falls due (R115). -/
def speedStep (t old : Nat) (v : Sup) (s : State) : State :=
  if v.output ≠ old ∨ (Config.refreshDue ≤ v.refresh ∧ s.ctl.mode ≠ .config) then
    offer (.speed t v.output v.sense) (updateSup s t (fun u => { u with refresh := 0 }))
  else updateSup s t (fun u => { u with refresh := min Config.refreshDue (u.refresh + 1) })

/-- The reversal of a train at rest (R90, R117). -/
def reverseTrain (t : Nat) (s : State) : State :=
  match trainAt s t with
  | none => s
  | some r =>
    match headOf r.list.reverse with
    | none => s
    | some h =>
      noteTrain t .reversed (updateTrain s t (fun r => { r with
        list := r.list.reverse, heading := flipHeading r.heading, pendRev := false,
        sup := r.sup.map (fun u => { u with
          offset := secLength s h * 10, auth := [{ sec := h, route := none }], sense := flipSense u.sense }) }))

/-- Step 10: notice TRAIN SPEED when the output has moved far enough (R118). -/
def speedNotice (t : Nat) (s : State) : State :=
  match (trainAt s t).bind (·.sup) with
  | none => s
  | some u =>
    if 20 ≤ u.output - u.notified ∨ 20 ≤ u.notified - u.output ∨ (u.output = 0 ∧ u.notified ≠ 0) ∨
        (u.output ≠ 0 ∧ u.notified = 0)
    then noteTrain t .speed s else s

/-- The expiry of a train's supervision timer: one piece of work (R102), then what waits for it (R142, R144). -/
def superviseTrain (t : Nat) (s : State) : State :=
  match trainAt s t, trainEntry s t with
  | some r, some e =>
    match r.sup, headOf r.list with
    | some u, some head =>
      let v := computeSup s e r u head
      let s1 := updateSup s t (fun _ => v)
      let s2 := speedStep t u.output v (interventionStep t head v s1)
      let s3 := reportToInstances t head v.output s2
      let s4 := if r.pendRev && v.output == 0 then reverseTrain t s3 else s3
      demoExpiry t (speedNotice t s4)
    | _, _ => s
  | _, _ => s

end Sys2Proof.Machine
end

