-- ==== Sys2Proof/Machine/RingOps.lean ====
section
/-! DEFINITION. The Ring Master at work (chapter 9): partial and whole sweeps (R154 to R158), good answers (R151, R153),
misses and module failure (R152), and the sending of commands (R162). -/

namespace Sys2Proof.Machine

/-! ### Sweeps -/

/-- The described addresses of a group, ascending (R154). -/
def groupAddresses (r : Ring) (g : Nat) : List Nat :=
  (itemNumbers r.modules).filter (fun a => a % groupsOf r.running.mode == g)

/-- The stop run and the queue hold no command. -/
def noCommands (r : Ring) : Bool := r.stopRun.isEmpty && r.queue.isEmpty

/-- The work of a whole-sweep boundary: Mode Control's, then the pending setting; a changed setting restarts the timer
(R155). -/
def sweepBoundary (s : State) : State :=
  let s1 := modeBoundary s
  let s2 := match s1.ring.pendingSetting with
    | some v => raise (.module (.sweepSet v)) (s1.withRing { s1.ring with running := v, pendingSetting := none })
    | none => s1
  if s2.ring.running ≠ s.ring.running ∨ (s2.ctl.mode = .rest ∧ s.ctl.mode ≠ .rest) then
    s2.withRing { s2.ring with timer := some (sweepInterval s2.ring.running), nextGroup := 0, postponed := false }
  else s2

/-- The partial sweep under way is done: its last outcome is taken and the commands due after it are sent (R154). -/
def partialDone (r : Ring) : Bool :=
  r.underWay && r.todo.isEmpty && r.window.isNone && (r.due == 0 || noCommands r)

/-- A partial sweep that is done ends; that of the last group is a whole-sweep boundary (R154, R155). -/
def settleSweep (s : State) : State :=
  if partialDone s.ring && !s.ring.restTail then
    let s1 := s.withRing { s.ring with underWay := false, due := 0 }
    if s.ring.group + 1 = groupsOf s.ring.running.mode then sweepBoundary s1 else s1
  else s

/-- The next partial sweep begins; a group with no described address is done as it begins, so no command is due in it
(R154). -/
def beginPartial (s : State) : State :=
  settleSweep (s.withRing { s.ring with
    group := s.ring.nextGroup, nextGroup := (s.ring.nextGroup + 1) % groupsOf s.ring.running.mode,
    underWay := true, postponed := false, todo := groupAddresses s.ring s.ring.nextGroup, window := none,
    due := if (groupAddresses s.ring s.ring.nextGroup).isEmpty then 0 else s.ring.due })

/-- A whole sweep begins at once with group 0, and the timer starts from it (R158). -/
def beginWhole (s : State) : State :=
  beginPartial (s.withRing { s.ring with
    timer := some (sweepInterval s.ring.running), nextGroup := 0, restTail := false })

/-- The expiry of the sweep timer: the next partial sweep begins on time, or is postponed (R154, R157). -/
def sweepExpiry (s : State) : State :=
  let s1 := s.withRing { s.ring with timer := some (sweepInterval s.ring.running) }
  if s1.ring.underWay || s1.ring.postponed then
    let s2 := count .sweepOverrun none none s1
    let k := min 255 (s2.ring.postCount + 1)
    let s3 := s2.withRing { s2.ring with postponed := true, postCount := k }
    if Config.overloadLimit ≤ k ∧ s3.ring.overloaded = false then
      raise (.module (.ringOverloaded k)) (s3.withRing { s3.ring with overloaded := true })
    else s3
  else beginPartial (s1.withRing { s1.ring with postCount := 0, overloaded := false })

/-- The ring's part of WAKE: the service setting comes back, and the wake sweep begins as soon as the polls of the rest
sweep have outcomes (R157, R158). -/
def ringWake (s : State) : State :=
  let s1 := s.withRing { s.ring with running := s.ring.service, postCount := 0, overloaded := false }
  if s1.ring.underWay && (!s1.ring.todo.isEmpty || s1.ring.window.isSome) then
    s1.withRing { s1.ring with restTail := true }
  else beginWhole s1

/-- The ring's part of RECONFIGURE: polling stops, an open window is closed unread, the timer stops (R158). -/
def ringStop (s : State) : State :=
  s.withRing { s.ring with
    timer := none, underWay := false, todo := [], window := none, due := 0, postponed := false, restTail := false }

/-- The commands due after an outcome (R162). -/
def dueAfter (s : State) : Nat :=
  let n := s.ring.stopRun.length + s.ring.queue.length
  min n (if (desc s).params.threshold ≤ n then 2 else 1)

/-- The outcome of a poll has been taken: the commands due are fixed, and a rest sweep that had only its polls to end
gives way to the wake sweep (R158, R162). -/
def afterOutcome (s : State) : State :=
  let s1 := s.withRing { s.ring with due := dueAfter s }
  if s1.ring.restTail && s1.ring.todo.isEmpty then beginWhole s1 else settleSweep s1

/-- The next address of the partial sweep under way may be polled. -/
def pollDue (r : Ring) : Bool :=
  r.underWay && r.window.isNone && (r.due == 0 || noCommands r) && !r.todo.isEmpty

/-- A poll frame is sent and its answer window opens (R150). -/
def sendPoll (s : State) : State :=
  match s.ring.todo with
  | a :: l =>
    if pollDue s.ring then s.withRing { s.ring with todo := l, window := some a, due := 0, line := pollFrame a } else s
  | [] => s

/-! ### Commands -/

/-- A command may be sent now (R162). -/
def sendDue (r : Ring) : Bool :=
  !noCommands r && r.window.isNone && (if r.underWay then r.due != 0 else !r.postponed)

/-- The head command leaves for the line; a place freed in the queue takes the slot's command (R161, R162). -/
def sendCommand (s : State) : State :=
  if sendDue s.ring then
    match s.ring.stopRun, s.ring.queue with
    | c :: l, _ => settleSweep (s.withRing { s.ring with
        stopRun := l, due := s.ring.due - 1, line := cmdFrame (desc s) c })
    | [], c :: l => settleSweep (s.withRing (refillSlot { s.ring with
        queue := l, due := s.ring.due - 1, line := cmdFrame (desc s) c }))
    | [], [] => s
  else s

/-- Every command for a module removed from the queue, the stop run and the slot (R152 step 2). -/
def removeCommands (d : Desc) (a : Nat) (r : Ring) : Ring :=
  refillSlot { r with
    stopRun := r.stopRun.filter (fun c => cmdModule d c != some a),
    queue := r.queue.filter (fun c => cmdModule d c != some a),
    slot := r.slot.filter (fun c => cmdModule d c != some a) }

/-! ### A module becomes ACTIVE or FAILED -/

/-- The aspect commands of a module's signals, each with the aspect it now holds, in ascending signal number (R37; log entry
11). -/
def resendAspects (a : Nat) (s : State) : State :=
  (moduleSignals s a).foldl (fun s g => match findItem s.il.signals g with
    | some x => offer (.aspect g x) s
    | none => s) s

/-- Every supervised train's refresh count set to 20 (R115). -/
def refreshAll (s : State) : State :=
  (supervised s).foldl (fun s t => updateSup s t (fun u => { u with refresh := Config.refreshDue })) s

/-- The owner's work for a module that has become ACTIVE (R151 step 2); its signals are recomputed in ascending number (R37;
log entry 11). -/
def ownerActive (a : Nat) (k : ModKind) (s : State) : State :=
  match k with
  | .signal => resendAspects a (recomputeAll (moduleSignals s a) s)
  | .button => resendLamps a s
  | .traction =>
    let s1 := refreshAll s
    match s1.ring.power with
    | some on => offerPower on s1
    | none => s1
  | _ => s

/-- The safe values a module's owner takes when it becomes FAILED (R152 step 4); its sections and its signals are taken in
ascending number (R24, R37; log entry 11). -/
def ownerFailed (a : Nat) (k : ModKind) (s : State) : State :=
  match k with
  | .detect => (itemsWhere (desc s).sections (fun _ e => e.addr == a)).foldl (fun s n => failSection n s) s
  | .point => failPoints (itemsWhere (desc s).points (fun _ e => e.addr == a)) s
  | .signal => recomputeAll (moduleSignals s a) s
  | .button => s.withDemo { s.demo with buttons := s.demo.buttons.map (fun e =>
      if (planEntry s e.1).any (fun pl => pl.addr == a) then (e.1, { e.2 with level := none }) else e) }
  | .deck => deckModuleFailed s
  | .traction => setAllStop .tractionFailed s
  | .absent => s

/-! ### Answers -/

/-- A POWER command waits in the queue or the overflow slot (R153). -/
def powerWaits (r : Ring) : Bool := waitsFor .traction r.queue || r.slot.any (fun c => cmdTarget c == .traction)

/-- A good answer of the traction module (R153). -/
def tractionAnswer (flags : Byte) (s : State) : State :=
  if flags.getLsbD 1 then setAllStop .overload s
  else match s.ring.power with
    | none => s
    | some on =>
      if flags.getLsbD 0 = on then s.withRing { s.ring with mismatch := false }
      else
        let s1 := if s.ring.mismatch then s
          else raise (.module (.powerMismatch on (flags.getLsbD 0))) (s.withRing { s.ring with mismatch := true })
        if powerWaits s1.ring then s1 else offerPower on s1

/-- The position that a POINT answer shows for an output: exactly one of its two bits (section 2.2). -/
def shownPosition (flags : Byte) (output : Nat) : Option Position :=
  match flags.getLsbD (2 * output), flags.getLsbD (2 * output + 1) with
  | true, false => some .normal
  | false, true => some .reverse
  | _, _ => none

/-- A deck answer shows the deck at rest at its index: bolt locked, drive still, index below N (section 7.2). -/
def atRest (s : State) (index : Nat) (flags : Byte) : Bool :=
  flags.getLsbD 0 && !flags.getLsbD 1 && (desc s).deck.any (fun d => index < d.n)

/-- The data of a good answer handed to the block that owns the module (R151, Table 9-1). -/
def handData (a : Nat) (k : ModKind) (payload : List Byte) (s : State) : State :=
  match k, payload with
  | .detect, b :: _ =>
    (itemsWhere (desc s).sections (fun _ e => e.addr == a)).foldl (fun s n =>
      match secEntry s n with
      | some e => filterSection n (if b.getLsbD e.input then .occupied else .clear) s
      | none => s) s
  | .point, b :: _ =>
    (itemsWhere (desc s).points (fun _ e => e.addr == a)).foldl (fun s n =>
      match findItem (desc s).points n with
      | some e => pointAnswer n (shownPosition b e.output) s
      | none => s) s
  | .button, b :: _ =>
    (itemsWhere (desc s).plans (fun _ e => e.addr == a)).foldl (fun s n =>
      match planEntry s n with
      | some e => buttonAnswer n (b.getLsbD e.input) s
      | none => s) s
  | .deck, i :: f :: _ => deckAnswer i.toNat (atRest s i.toNat f) s
  | .traction, b :: _ => tractionAnswer b s
  | _, _ => s

/-- A good answer taken in the open window of address `a` (R151). -/
def takeAnswer (a : Nat) (frame : List Byte) (s : State) : State :=
  let old := moduleAt s a
  let s1 := (updateModule s a (fun m => { m with misses := 0 }))
  let s2 := s1.withRing { s1.ring with window := none }
  let s3 :=
    if old.state = .active then s2
    else ownerActive a old.kind (raise (.module (.active a old.kind old.state))
      (updateModule s2 a (fun m => { m with state := .active })))
  let s4 := updateModule s3 a (fun m => { m with data := some (payloadOf frame) })
  afterOutcome (handData a old.kind (payloadOf frame) s4)

/-- The failure of a module: one piece of work (R152). -/
def failModule (a : Nat) (s : State) : State :=
  let k := (moduleAt s a).kind
  let s1 := updateModule s a (fun m => { m with state := .failed, misses := Config.missLimit })
  let s2 := s1.withRing (removeCommands (desc s1) a s1.ring)
  let s3 := count .moduleFailures none none (raise (.module (.failed a k)) s2)
  ownerFailed a k s3

/-- A miss taken for the poll of address `a` (R150, R152). -/
def takeMiss (a : Nat) (s : State) : State :=
  let s1 := count .ringErrors none none (s.withRing { s.ring with window := none })
  let m := moduleAt s1 a
  let s2 :=
    if m.state = .active then
      if m.misses + 1 < Config.missLimit then updateModule s1 a (fun m => { m with misses := m.misses + 1 })
      else failModule a s1
    else s1
  afterOutcome s2

end Sys2Proof.Machine
end

