-- ==== Sys2Proof/Machine/RouteEval.lean ====
section
/-! DEFINITION. The Route Engine: the arbiter (R45 to R48), the checks of SET-ROUTE (R50 to R53), acceptance (R55), and the
checks and outcomes of CANCEL-ROUTE (R74 to R79). -/

namespace Sys2Proof.Machine

/-! ### The arbiter -/

/-- The members in rotation order (R46). -/
def rotation : List Member := [.port .a, .port .b, .port .c, .port .d, .g]

/-- The member after another, wrapping from G to A (R46). -/
def nextMember : Member → Member
  | .port .a => .port .b | .port .b => .port .c | .port .c => .port .d | .port .d => .g | .g => .port .a

/-- The five members from one on, wrapping. -/
def membersFrom (m : Member) : List Member :=
  [m, nextMember m, nextMember (nextMember m), nextMember (nextMember (nextMember m)),
   nextMember (nextMember (nextMember (nextMember m)))]

/-- A SET-ROUTE may be granted: IN-SERVICE with no REST pending (R45). -/
def setGrantable (s : State) : Bool := s.ctl.mode == .inService && s.ctl.pendingRest.isNone

/-- A CANCEL-ROUTE may be granted: IN-SERVICE (R45). -/
def cancelGrantable (s : State) : Bool := s.ctl.mode == .inService

/-- The head of a port's request queue. -/
def headRequest (s : State) (p : PortId) : Option QueuedRequest := (portAt s p).queue.head?

/-- A port's response list has a free place (R171). -/
def hasPlace (s : State) (p : PortId) : Bool := (portAt s p).responses.length < Config.responseCapacity

/-- The oldest eligible retry entry that may be granted (R48, R59). -/
def oldestEligible (s : State) : Option RetryEntry :=
  if setGrantable s then s.engine.retry.find? (fun e => e.eligible) else none

/-- The Demonstration Unit presents a SET-ROUTE that may be granted (R45, R144, R145). -/
def demoSetWaits (s : State) : Bool :=
  setGrantable s && s.demo.run.any (fun r => r.hand == .fresh && !r.paused)

/-- The Demonstration Unit presents the CANCEL-ROUTE of the head of its cancel list, and it may be granted (R147). -/
def demoCancelWaits (s : State) : Bool := cancelGrantable s && !s.demo.cancel.isEmpty

/-- A member has something waiting (R45). -/
def memberWaits (s : State) : Member → Bool
  | .port p =>
    hasPlace s p &&
    (match headRequest s p with
     | some q => (match q.req with
       | .setRoute _ _ => setGrantable s
       | .cancelRoute _ => cancelGrantable s
       | _ => false)
     | none => false)
  | .g => (oldestEligible s).isSome || demoSetWaits s || demoCancelWaits s

/-- The member the next grant goes to, when any has something waiting (R46). -/
def grantOf (s : State) : Option Member := (membersFrom s.engine.pointer).find? (fun m => memberWaits s m)

/-- The batch flag of a port in the committed description (R47). -/
def batchFlag (s : State) : PortId → Bool
  | .a => (desc s).roles.batchA | .b => (desc s).roles.batchB
  | .c => (desc s).roles.batchC | .d => (desc s).roles.batchD

/-- The pointer and the batch count after a grant (R46). -/
def afterGrant (m : Member) (s : State) : State :=
  let batch := match m with | .port p => batchFlag s p | .g => false
  let k := (if s.engine.last = some m then s.engine.batch else 0) + 1
  if batch && k < Config.batchRun then s.withEngine { s.engine with pointer := m, batch := k, last := some m }
  else s.withEngine { s.engine with pointer := nextMember m, batch := 0, last := some m }

/-! ### The checks of SET-ROUTE -/

/-- A failed check: final (checks 0 to 2) or blocking (checks 3 to 6), with its reason (section 3.3). -/
inductive Failure
  | final (r : Reason)
  | blocking (r : Reason)
deriving DecidableEq, Repr

/-- The requester may act in the route's district (R50). -/
def mayRequest (s : State) (party : Party) (route : Nat) : Bool :=
  match party with
  | .port p => holds s p (routeDistrict s route)
  | .demo => (holderOf s (routeDistrict s route)).isNone ||
      (routeDistrict s route).any (fun k => (districtAt s k).demoOk)

/-- A live instance of the route (R50, R74). -/
def liveSlot (s : State) (route : Nat) : Option Nat := (slotsWhere s (fun i => i.route == route)).head?

/-- The lowest-numbered free slot (R44). -/
def freeSlotOf (s : State) : Option Nat := (List.range Config.slots).find? (fun k => (instAt s k).isNone)

/-- A route section is free or absorbable (R51). -/
def routeSectionFree (s : State) (entry n : Nat) : Bool :=
  match (secAt s n).bind (·.lock) with
  | none => true
  | some l => l.role == .overlap && ((instAt s l.slot).bind (exitSignal s)) == some entry

/-- An overlap section is free (R51). -/
def overlapSectionFree (s : State) (n : Nat) : Bool := ((secAt s n).bind (·.lock)).isNone

/-- Check 4 (R51). -/
def sectionsPass (s : State) (r : RouteEntry) : Bool :=
  r.sections.all (fun x => routeSectionFree s r.entry x.1) && r.overlap.all (fun n => overlapSectionFree s n)

/-- The points of a route as it would hold them: route points, then flank points.  R52 takes them in this order at check 5;
that acceptance takes them so too is the model's choice (log entry 10). -/
def pointsOf (r : RouteEntry) : List HeldPoint :=
  r.points.map (fun x => { point := x.point, pos := x.pos, idx := some x.idx }) ++
  r.flanks.map (fun x => { point := x.1, pos := x.2, idx := none })

/-- Check 5 on one point: the first row of R52 that matches. -/
def pointFails (s : State) (n : Nat) (pos : Position) : Option Reason :=
  match ptAt s n, findItem (desc s).points n with
  | some st, some e =>
    if 0 < st.locks ∧ st.lockedPos ≠ pos then some .conflict
    else if Config.pointLockLimit ≤ st.locks then some .conflict
    else if 0 < st.locks then (if st.reported = .unproven then some .pointBlocked else none)
    else if st.reported = provenIn pos ∨ (st.reported = .moving ∧ st.commanded = some pos) then none
    else if (secAt s e.sec).all (fun x => x.occ != .clear) then some .pointBlocked
    else if !moduleActive s e.addr then some .pointBlocked
    else none
  | _, _ => some .pointBlocked

/-- An instance holds a PENDING deck claim (R53). -/
def claimPending (s : State) : Bool := s.il.instances.any (fun e => e.2.claim == .pending)

/-- What check 6 finds: the deck cannot serve, it serves as it stands, it serves after a move to a road, or the route
does not need it (R53). -/
inductive DeckCheck
  | busy
  | stands
  | move (target : Nat)
  | unneeded
deriving DecidableEq, Repr

/-- Check 6 (R53). -/
def deckCheck (s : State) (r : RouteEntry) : DeckCheck :=
  match r.deckReq, (desc s).deck with
  | none, some d =>
    if r.sections.any (fun x => x.1 == d.sec) then
      (if (deckAligned s).isSome && !claimPending s then .stands else .busy)
    else .unneeded
  | none, none => .unneeded
  | some _, none => .busy
  | some req, some d =>
    match deckAligned s with
    | none => .busy
    | some j =>
      if claimPending s then .busy
      else if j = targetRoad d.n req then .stands
      else if (s.deck.bind (·.latch)).isNone && s.ctl.allStop.isNone && (startFails s d).isNone then
        .move (targetRoad d.n req)
      else .busy

/-- The checks of SET-ROUTE in order; none when every check passes (Table 3-2). -/
def checkRoute (s : State) (party : Party) (route : Nat) : Option Failure :=
  match routeAt s route with
  | none => some (.final .unknownItem)
  | some r =>
    if !mayRequest s party route then some (.final .notHolder)
    else if (liveSlot s route).isSome then some (.final .alreadySet)
    else if (freeSlotOf s).isNone then some (.blocking .noSlot)
    else if !sectionsPass s r then some (.blocking .conflict)
    else match ((pointsOf r).filterMap (fun h => pointFails s h.point h.pos)).head? with
      | some why => some (.blocking why)
      | none => if deckCheck s r = .busy then some (.blocking .deckBusy) else none

/-! ### Acceptance -/

/-- The absorbable sections of a route with the slots that hold them, in route order (R51). -/
def absorbable (s : State) (r : RouteEntry) : List (Nat × Nat) :=
  r.sections.filterMap (fun x => ((secAt s x.1).bind (·.lock)).bind (fun l =>
    if l.role = .overlap then some (x.1, l.slot) else none))

/-- The slots of a list, each once. -/
def distinctSlots : List Nat → List Nat
  | [] => []
  | a :: l => a :: (distinctSlots l).filter (· != a)

/-- Step 1 of R55: the absorbable sections pass to the new instance, all of them first and in list order, and then their
old instances are told in the order of their first absorbed section (both orders: log entry 10). -/
def absorb (slot : Nat) (taken : List (Nat × Nat)) (s : State) : State :=
  let s1 := taken.foldl (fun s e => setLock e.1 (some { slot := slot, role := .route }) s) s
  (distinctSlots (taken.map (·.2))).foldl (fun s old =>
    absorbedTold old slot ((taken.filter (fun e => e.2 == old)).map (·.1)) s) s1

/-- The overlap sections a new instance holds: those of its route, without the deck section where the deck is not ALIGNED
or has to move for the route, because no instance holds the deck section then (R54, R121; log entry 10). -/
def overlapHeld (s : State) (r : RouteEntry) : List Nat :=
  r.overlap.filter (fun n => !(isDeckSection s n && ((deckAligned s).isNone ||
    (match deckCheck s r with | .move _ => true | _ => false))))

/-- Step 2 of R55: the other route sections locked as ROUTE, the overlap sections `ovl` as OVERLAP; the deck section waits
for a deck that must still move (R54).  The order, route sections before overlap sections and each list as described, is
the model's choice (log entry 10). -/
def lockSections (slot : Nat) (r : RouteEntry) (taken : List (Nat × Nat)) (ovl : List Nat) (moves : Bool) (s : State) :
    State :=
  let own := (r.sections.map (·.1)).filter (fun n => !(taken.any (fun e => e.1 == n)) && !(moves && isDeckSection s n))
  let s1 := own.foldl (fun s n => setLock n (some { slot := slot, role := .route }) s) s
  ovl.foldl (fun s n => setLock n (some { slot := slot, role := .overlap }) s) s1

/-- Steps 3 and 4 of R55: every point locked, and every point locked for the first time commanded (R31, R34).  The order
within each step, route points before flank points and each list as described, is the model's choice (log entry 10). -/
def lockPoints (l : List HeldPoint) (s : State) : State :=
  let first := l.filter (fun h => (ptAt s h.point).any (fun st => st.locks == 0))
  first.foldl (fun s h => commandPoint h.point h.pos s) (l.foldl (fun s h => lockPoint h.point h.pos s) s)

/-- The record of a new instance with its overlap sections (R44, Table 4-1). -/
def newInst (route : Nat) (r : RouteEntry) (party : Party) (claim : Claim) (ovl : List Nat) : Inst :=
  { route := route, requester := party, state := .setting, marks := r.sections.map (fun _ => Mark.locked),
    overlap := ovl, held := pointsOf r, claim := claim, entering := none, firstPassing := none, origin := none,
    approach := .stopped, overlapTimer := if ovl.isEmpty then .done else .stopped }

/-- The deck claim taken at acceptance (R54). -/
def claimOf : DeckCheck → Claim
  | .move _ => .pending
  | .stands => .locked
  | _ => .none

/-- Acceptance of a route: the eight steps of R55.  `outcome` is step 6. -/
def acceptRoute (party : Party) (route slot : Nat) (r : RouteEntry) (outcome : State → State) (s : State) : State :=
  let deck := deckCheck s r
  let taken := absorbable s r
  let ovl := overlapHeld s r
  let s0 := s.withIl { s.il with
    instances := putItem s.il.instances slot (newInst route r party (claimOf deck) ovl) }
  let s1 := absorb slot taken s0
  let s2 := lockSections slot r taken ovl (claimOf deck == .pending) s1
  let s3 := lockPoints (pointsOf r) s2
  let s4 := match deck with
    | .move t => startMove t .short (.inst slot party) s3
    | _ => s3
  let s5 := outcome s4
  let s6 := raise (.route (.setting slot route party taken)) s5
  setTest slot (recomputeAll (r.sections.flatMap (fun x => sectionSignals s6 x.1)) s6)

/-- A SET-ROUTE evaluated: `onFail` with the failure of the first failing check, or acceptance with `outcome` of the slot
(R50 to R55). -/
def evaluate (party : Party) (route : Nat) (onFail : Failure → State → State) (outcome : Nat → State → State)
    (s : State) : State :=
  match checkRoute s party route with
  | some f => onFail f s
  | none =>
    match routeAt s route, freeSlotOf s with
    | some r, some slot => acceptRoute party route slot r (outcome slot) s
    | _, _ => s

/-- A refusal of a SET-ROUTE counts ROUTES-REFUSED (R43, R56). -/
def countRefused (party : Party) (route : Nat) (s : State) : State :=
  count .routesRefused (some party) (routeDistrict s route) s

/-- The reason of a failure. -/
def reasonOf : Failure → Reason | .final r => r | .blocking r => r

/-- The retry list of a queueable request that met a blocking failure: it joins, or is refused (R56, R57). -/
def queueBlocked (p : PortId) (route : Nat) (why : Reason) (s : State) : Option Reason × State :=
  if s.engine.retry.any (fun e => e.route == route) then (some .alreadyQueued, s)
  else if Config.retryCapacity ≤ s.engine.retry.length then (some .retryFull, s)
  else
    (none, raise (.route (.queued route p why)) (s.withEngine { s.engine with retry := s.engine.retry ++
      [{ route := route, port := p, left := (desc s).params.retryLife * 1000, reason := why, eligible := false }] }))

/-- A port's SET-ROUTE refused: response and count (R43, R56). -/
def refuseSet (p : PortId) (tag : Byte) (route : Nat) (why : Reason) (s : State) : State :=
  countRefused (.port p) route (respond p tag (refuse why) s)

/-- The outcome of a port's failed SET-ROUTE by its option (R56). -/
def portSetFails (p : PortId) (tag : Byte) (route : Nat) (queueable : Bool) (f : Failure) (s : State) : State :=
  match f, queueable with
  | .blocking why, true =>
    let q := queueBlocked p route why s
    match q.1 with
    | some r => refuseSet p tag route r q.2
    | none => respond p tag .queued q.2
  | f, _ => refuseSet p tag route (reasonOf f) s

/-- A granted SET-ROUTE of a port evaluated (R43, R55, R56).  With an option code that names nothing it is refused: with the
reason of the first check that fails when that failure is final, and otherwise with a free reason, because the rest of
section 3.3 turns on the option (log entry 3). -/
def portSet (p : PortId) (tag : Byte) (route option : Nat) (s : State) : State :=
  match option with
  | 0 => evaluate (.port p) route (portSetFails p tag route false) (fun i => respond p tag (.accepted i)) s
  | 1 => evaluate (.port p) route (portSetFails p tag route true) (fun i => respond p tag (.accepted i)) s
  | _ =>
    match checkRoute s (.port p) route with
    | some (.final why) => refuseSet p tag route why s
    | _ => countRefused (.port p) route (respond p tag (refuseCode 0x24) s)

/-- The retry entry of a route removed. -/
def dropRetry (route : Nat) (s : State) : State :=
  s.withEngine { s.engine with retry := s.engine.retry.filter (fun e => e.route != route) }

/-- The outcome of a failed retry entry (R59). -/
def retryFails (e : RetryEntry) (f : Failure) (s : State) : State :=
  match f with
  | .blocking why =>
    s.withEngine { s.engine with retry := s.engine.retry.map (fun x =>
      if x.route = e.route then { x with eligible := false, reason := why } else x) }
  | .final why =>
    countRefused (.port e.port) e.route
      (raise (.route (.retryRefused e.route e.port why)) (dropRetry e.route s))

/-- An eligible retry entry evaluated (R59). -/
def evalRetry (e : RetryEntry) (s : State) : State :=
  evaluate (.port e.port) e.route (retryFails e)
    (fun i s => raise (.route (.queuedSet e.route e.port i)) (dropRetry e.route s)) s

/-- The running record changed, when there is one. -/
def updateRun (f : Run → Run) (s : State) : State := s.withDemo { s.demo with run := s.demo.run.map f }

/-- The outcome of the Demonstration Unit's failed SET-ROUTE (R56, R144). -/
def demoSetFails (route : Nat) (f : Failure) (s : State) : State :=
  match f with
  | .blocking why => updateRun (fun r => { r with hand := .blocked why }) s
  | .final why =>
    abort (if why = .notHolder then .notHolder else .refused why) (countRefused .demo route s)

/-- The Demonstration Unit's SET-ROUTE evaluated (R144). -/
def evalDemo (s : State) : State :=
  match s.demo.run with
  | some r =>
    match (planEntry s r.plan).bind (fun pl => pl.routes[r.next - 1]?) with
    | some route =>
      evaluate .demo route (demoSetFails route)
        (fun i => updateRun (fun r => { r with insts := r.insts ++ [(i, r.next)], hand := .none, next := r.next + 1 })) s
    | none => s
  | none => s

/-! ### CANCEL-ROUTE -/

/-- The checks of CANCEL-ROUTE in order (R74). -/
def checkCancel (s : State) (party : Party) (route : Nat) : Except Reason Nat :=
  if (routeAt s route).isNone then .error .unknownItem
  else match liveSlot s route with
    | none => .error .unknownItem
    | some slot =>
      match instAt s slot with
      | none => .error .unknownItem
      | some i =>
        if !(match party with
             | .port p => holds s p (routeDistrict s route)
             | .demo => i.requester == .demo) then .error .notHolder
        else if i.state = .releasing then .error .alreadyReleasing
        else .ok slot

/-- The instance of a slot cancelled, and whether it was RELEASED at once (Table 4-2). -/
def cancelInst (slot : Nat) (by_ : Party) (s : State) : Bool × State :=
  match instAt s slot with
  | none => (true, s)
  | some i =>
    match i.state with
    | .occupied => (false, enterReleasing slot .occupied by_ s)
    | .set => if approachLocked s i then (false, enterReleasing slot .set by_ s)
        else (true, releaseAtOnce slot .cancel s)
    | _ => (true, releaseAtOnce slot .cancel s)

/-- A granted CANCEL-ROUTE of a port evaluated: DONE with the instance and RELEASED 0 or RELEASING 1, or the refusal
(R74, Table 12-3). -/
def portCancel (p : PortId) (tag : Byte) (route : Nat) (s : State) : State :=
  match checkCancel s (.port p) route with
  | .error why => respond p tag (refuse why) s
  | .ok slot =>
    let r := cancelInst slot (.port p) s
    respond p tag (.done (b1 slot ++ b1 (if r.1 then 0 else 1))) r.2

/-- The CANCEL-ROUTE of the head of the cancel list evaluated; its result, DONE or a refusal, removes the instance from
the list (R147). -/
def evalDemoCancel (s : State) : State :=
  match s.demo.cancel.head? with
  | some slot =>
    match instAt s slot with
    | some i =>
      match checkCancel s .demo i.route with
      | .ok k => leaveCancel slot (cancelInst k .demo s).2
      | .error _ => leaveCancel slot s
    | none => leaveCancel slot s
  | none => s

end Sys2Proof.Machine
end

