-- ==== Sys2Proof/Machine/PortOps.lean ====
section
/-! DEFINITION. The Desk Port Units at work (chapter 10): port states (R165 to R169), the receive assembler (R164), the
request queue with its hold state (R170, R171, R173), and the transmitter (R172, R177). -/

namespace Sys2Proof.Machine

/-! ### Port states -/

/-- The silence timer started or restarted from the interval (R167). -/
def restartSilence (q : Port) : Port :=
  { q with silenceTimer := if q.silence = 0 then none else some q.silence }

/-- A port becomes ONLINE (R166), and the service is recomputed (R136); the PORT record is raised before (log entry 7). -/
def becomeOnline (p : PortId) (s : State) : State :=
  let old := (portAt s p).state
  let s1 := updatePort s p (fun q => appendLost s.now (restartSilence { q with state := .online }))
  recomputeService (raise (.port p .online old) s1)

/-- The emptying that ISOLATED requires (R168 step 6). -/
def emptyForIsolated (q : Port) : Port := { q with responses := [], notices := [], lost := 0, pendingHold := none }

/-- The configuration session of a lost port is abandoned (R8). -/
def loseSession (p : PortId) (s : State) : State :=
  match s.store.session with
  | some x =>
    if x.port = p then raise (.mode (.sessionClosed .portLost)) (s.withStore { s.store with session := none }) else s
  | none => s

/-- The districts a lost port holds are freed, ascending (R41). -/
def freeDistricts (p : PortId) (new : PortState) (s : State) : State :=
  (List.range 8).foldl (fun s k =>
    if (districtAt s k).holder = some p then
      raise (.district k (.freed p new)) (setDistrict s k { holder := none, demoOk := false })
    else s) s

/-- The trains a lost port drives are released, ascending (R88). -/
def releaseTrains (p : PortId) (s : State) : State :=
  (trainsWhere s (fun _ r => r.driver == some (.port p))).foldl (fun s t => releaseTrain t s) s

/-- A port leaves ONLINE: one piece of work (R168). -/
def leaveOnline (p : PortId) (new : PortState) (s : State) : State :=
  let s1 := raise (.port p new .online) (updatePort s p (fun q =>
    { q with state := new, silenceTimer := none, holdTimer := none, holding := false }))
  let s2 := updatePort s1 p (fun q => { q with queue := [] })
  let s3 := releaseTrains p (freeDistricts p new (loseSession p s2))
  let s4 := recomputeService (expireEntries (fun e => e.port == p) .portLost s3)
  if new = .isolated then updatePort s4 p emptyForIsolated else s4

/-- A port becomes ISOLATED from any other state (R166, R168). -/
def isolate (p : PortId) (s : State) : State :=
  let old := (portAt s p).state
  if old = .online then leaveOnline p .isolated s
  else updatePort (raise (.port p .isolated old) (updatePort s p (fun q => { q with state := .isolated }))) p
    emptyForIsolated

/-- A break: the work of R168 when the port was ONLINE, the notice of a change of state, and the reset of R169.  The
frame already begun on the transmit line is finished. -/
def breakPort (p : PortId) (s : State) : State :=
  let old := (portAt s p).state
  let s1 :=
    if old = .online then leaveOnline p .offline s
    else if old = .offline then s
    else raise (.port p .offline old) (updatePort s p (fun q => { q with state := .offline }))
  updatePort s1 p (fun q => { Port.reset with tx := q.tx })

/-! ### Receiving -/

/-- A malformed frame: the run increases by 1, and at 8 the port becomes ISOLATED (R165). -/
def malformedSeen (p : PortId) (s : State) : State :=
  if (portAt s p).state = .isolated then s
  else
    let s1 := updatePort s p (fun q => { q with malformed := q.malformed + 1 })
    if Config.malformedLimit ≤ (portAt s1 p).malformed then isolate p s1 else s1

/-- The assembler of a port set. -/
def setAssembler (p : PortId) (a : Assembler) (s : State) : State := updatePort s p (fun q => { q with assembler := a })

/-- The bytes collected form a complete frame: as many as LENGTH announced (R164). -/
def complete? (bytes : List Byte) : Bool :=
  match bytes with
  | _ :: len :: rest => rest.length == len.toNat
  | _ => false

/-- The LENGTH byte just collected lies outside 2 to 60 (R164). -/
def badLength (bytes : List Byte) : Bool :=
  match bytes with
  | [_, len] => len.toNat < 2 || 60 < len.toNat
  | _ => false

/-- One character at the receive assembler (R164).  The frame of a malformed or gap-ended command is judged malformed;
a valid frame is a command of its own and has no effect here (log entry 18). -/
def receive (p : PortId) (s : State) (c : RxChar) : State :=
  if (portAt s p).state = .isolated then s
  else match (portAt s p).assembler with
    | .idle => if c.byte = syncByte ∧ c.bad = false then setAssembler p (.collecting [c.byte]) s else s
    | .collecting bytes =>
      let all := bytes ++ [c.byte]
      if c.bad || badLength all then malformedSeen p (setAssembler p .idle s)
      else if complete? all then
        (if (decodeFrame p all).isSome then setAssembler p .idle s else malformedSeen p (setAssembler p .idle s))
      else setAssembler p (.collecting all) s

/-- More than 4 character times pass while a frame is collected: it ends, and is malformed (R164). -/
def gapEnds (p : PortId) (s : State) : State :=
  match (portAt s p).assembler with
  | .idle => s
  | .collecting _ => malformedSeen p (setAssembler p .idle s)

/-- A valid frame at a port: none when the port ignores it; otherwise the port is ONLINE, its silence timer restarted
and its malformed run 0 (R165). -/
def takeFrame (p : PortId) (s : State) : Option State :=
  let s1 := setAssembler p .idle s
  match (portAt s p).state with
  | .isolated => none
  | .online => some (updatePort s1 p (fun q => restartSilence { q with malformed := 0 }))
  | _ => some (updatePort (becomeOnline p s1) p (fun q => { q with malformed := 0 }))

/-- An immediate request: its frame is taken, it is served at once, and its response enters the list (R170). -/
def immediate (p : PortId) (tag : Byte) (work : State → State × Option Answer) (s : State) : State :=
  match takeFrame p s with
  | none => s
  | some s1 =>
    match (work s1).2 with
    | some a => respond p tag a (work s1).1
    | none => (work s1).1

/-! ### The request queue -/

/-- A HOLD frame made pending; it replaces one that is still pending (R173). -/
def makeHold (quanta : Nat) (q : Port) : Port := { q with pendingHold := some quanta }

/-- The full hold time in ms (R173). -/
def holdMs : Nat := Config.holdQuanta * Config.quantumMs

/-- A request joins the queue; a depth that reaches 6 while not holding asks the board to hold (R170, R173). -/
def joinQueue (tag : Byte) (r : Request) (q : Port) : Port :=
  let q1 := { q with queue := q.queue ++ [{ tag := tag, req := r }] }
  if q1.queue.length = 6 ∧ q1.holding = false then
    { makeHold Config.holdQuanta q1 with holding := true, holdTimer := some holdMs }
  else q1

/-- The head leaves the queue; a depth that falls to 2 while holding ends the hold (R173). -/
def leaveHead (q : Port) : Port :=
  let q1 := { q with queue := q.queue.drop 1 }
  if q1.queue.length = 2 ∧ q1.holding = true then
    { makeHold 0 q1 with holding := false, holdTimer := none }
  else q1

/-- The head of a port's queue leaves it. -/
def popHead (p : PortId) (s : State) : State := updatePort s p leaveHead

/-- What a QUEUE-FULL refusal of a request counts: a SET-ROUTE's counts ROUTES-REFUSED (R43, R170). -/
def countQueueFull (p : PortId) (r : Request) (s : State) : State :=
  match r with
  | .setRoute route _ => countRefused (.port p) route s
  | _ => s

/-- An ordered request is taken: it joins the queue, or is refused QUEUE-FULL (R170). -/
def takeOrdered (p : PortId) (tag : Byte) (r : Request) (s : State) : State :=
  match takeFrame p s with
  | none => s
  | some s1 =>
    if (portAt s1 p).queue.length < Config.queueCapacity then updatePort s1 p (joinQueue tag r)
    else countQueueFull p r (respond p tag (refuse .queueFull) s1)

/-- The service of an ordered request as the head of its queue: the work, the head's leaving, the response (R171).
`work` answers none for a head of another kind. -/
def serveHead (p : PortId) (work : Request → State → Option (State × Answer)) (s : State) : State :=
  match headRequest s p with
  | none => s
  | some q =>
    if hasPlace s p then
      match work q.req s with
      | some r => respond p q.tag r.2 (popHead p r.1)
      | none => s
    else s

/-- The first check that fails gives the refusal; otherwise the request takes effect. -/
def checked : List (Bool × Answer) → State → (State → State × Answer) → State × Answer
  | [], s, ok => ok s
  | (good, a) :: l, s, ok => if good then checked l s ok else (s, a)

/-- A request whose code was read: it takes effect with the value the code names, and is refused with a free reason when it
names none.  It stands behind the checks of the request's rule, of which the first that fails gives the refusal (R165; log
entry 3). -/
def withCode {α : Type} (kind : Nat) (code : Option α) (s : State) (ok : α → State → State × Answer) : State × Answer :=
  match code with
  | some v => ok v s
  | none => (s, refuseCode kind)

/-- The answer DONE with no fields. -/
def done : Answer := .done []

/-- A refusal for a mode that does not serve the request (R10). -/
def inMode (ok : Bool) : Bool × Answer := (ok, refuse .wrongMode)

/-- "Every other request" of Table 1-10. -/
def whileRunning (s : State) : Bool × Answer := inMode (runsIn s.ctl.mode)

/-! ### Transmitting -/

/-- The port's transmitter may send: ONLINE or LOST (R172, Table 10-1). -/
def sends (q : Port) : Bool := q.state == .online || q.state == .lost

/-- A pending HOLD frame begins (R172). -/
def sendHold (q : Port) : Port :=
  match q.pendingHold with
  | some n => if sends q then { q with pendingHold := none, tx := holdFrame n } else q
  | none => q

/-- The oldest response begins when no HOLD frame waits (R172). -/
def sendResponse (q : Port) : Port :=
  match q.responses with
  | r :: l => if sends q && q.pendingHold.isNone then { q with responses := l, tx := responseFrame r } else q
  | [] => q

/-- A NOTICE frame may begin (R177). -/
def noticeDue (now : Nat) (q : Port) : Bool :=
  sends q && q.pendingHold.isNone && q.responses.isEmpty && q.holdOff.isNone &&
  (match q.notices with
   | e :: _ => decide (q.trigger ≤ q.notices.length) || decide (e.entered + Config.noticeWaitMs ≤ now)
   | [] => false)

/-- The oldest records that fit a frame: at most `k`, in `room` bytes (R177). -/
def fitting (seed : Nat) : Nat → Nat → List QueuedNotice → List Notice
  | 0, _, _ => []
  | _, _, [] => []
  | k + 1, room, e :: l =>
    if (bNotice seed e.notice).length ≤ room then
      e.notice :: fitting (seed + 1) k (room - (bNotice seed e.notice).length) l
    else []

/-- A NOTICE frame begins: its records leave the queue, and at an ONLINE port a lost count above 0 is told in a freed
place (R176, R177); no record enters the queue of a LOST port (R168; log entry 19). -/
def sendNotices (now seed : Nat) (q : Port) : Port :=
  if noticeDue now q then
    let l := fitting seed Config.noticesPerFrame Config.bodyCapacity q.notices
    let q1 := { q with notices := q.notices.drop l.length, tx := noticeFrame seed l }
    if q1.state = .online then appendLost now q1 else q1
  else q

/-- The KIND code of a queued request (Table 12-2). -/
def kindOfRequest (r : Request) : Nat :=
  match r with
  | .loadMisfit .route _ => 0x05
  | .loadMisfit .routePoints _ => 0x06
  | .loadMisfit .plan _ => 0x0B
  | r => ((encodeRequest r).map (·.1)).getD 0

end Sys2Proof.Machine
end

