-- ==== Sys2Proof/Machine/Validate.lean ====
section
/-! DEFINITION. The validation walk of COMMIT-CONFIG (R6, Table 1-8). -/

namespace Sys2Proof.Machine

/-- A fault: kind, table and item number. -/
abbrev FaultAt := FaultKind × TableId × Nat

/-- The item number of an entry that has none (Table 12-3). -/
def noItem : Nat := 65535

/-- The first check that holds gives the fault. -/
def firstFault (t : TableId) (item : Nat) : List (Bool × FaultKind) → Option FaultAt
  | [] => none
  | (bad, f) :: l => if bad then some (f, t, item) else firstFault t item l

/-- A section is described. -/
def hasSec (d : Desc) (n : Nat) : Bool := (findItem d.sections n).isSome
/-- A point is described. -/
def hasPoint (d : Desc) (n : Nat) : Bool := (findItem d.points n).isSome
/-- A signal is described. -/
def hasSignal (d : Desc) (n : Nat) : Bool := (findItem d.signals n).isSome

/-- An address is used by a described section, point, signal, the deck or a described plan. -/
def usedBySec (d : Desc) (a : Nat) : Bool := d.sections.any (fun e => e.2.addr == a)
def usedByPoint (d : Desc) (a : Nat) : Bool := d.points.any (fun e => e.2.addr == a)
def usedBySignal (d : Desc) (a : Nat) : Bool := d.signals.any (fun e => e.2.addr == a)
def usedByDeck (d : Desc) (a : Nat) : Bool := d.deck.any (fun e => e.addr == a)
def usedByPlan (d : Desc) (a : Nat) : Bool := d.plans.any (fun e => e.2.addr == a)

/-- A signal stands at an end of a section. -/
def standsAt (d : Desc) (sig n : Nat) (e : Dir) : Bool :=
  (findItem d.signals sig).any (fun g => g.sec == n && g.stands == e)

/-- No entry of a list appears twice. -/
def noRepeats : List Nat → Bool
  | [] => true
  | a :: l => !l.contains a && noRepeats l

/-- The checks of a section. -/
def faultSection (d : Desc) (n : Nat) (e : SectionEntry) : Option FaultAt :=
  firstFault .sec n
    [(e.upSignal.any (fun g => !standsAt d g n .up) || e.downSignal.any (fun g => !standsAt d g n .down), .refMissing),
     (d.sections.any (fun x => x.1 < n && x.2.addr == e.addr && x.2.input == e.input), .dupModuleInput),
     (e.deckFlag && !(d.deck.any (fun k => k.sec == n)), .deckShape)]

/-- The checks of a point. -/
def faultPoint (d : Desc) (n : Nat) (e : PointEntry) : Option FaultAt :=
  firstFault .point n
    [(!hasSec d e.sec, .refMissing),
     ((findItem d.sections e.sec).any (·.deckFlag), .deckShape),
     (d.points.any (fun x => x.1 < n && x.2.addr == e.addr && x.2.output == e.output) || usedBySec d e.addr,
      .dupModuleInput)]

/-- The checks of a signal. -/
def faultSignal (d : Desc) (n : Nat) (e : SignalEntry) : Option FaultAt :=
  firstFault .signal n
    [(!(findItem d.sections e.sec).any (fun x =>
        (match e.stands with | .up => x.upSignal | .down => x.downSignal) == some n), .refMissing),
     (d.signals.any (fun x => x.1 < n && x.2.addr == e.addr && x.2.output == e.output) || usedBySec d e.addr ||
      usedByPoint d e.addr, .dupModuleInput)]

/-- A reference of a route is missing. -/
def routeRefMissing (d : Desc) (e : RouteEntry) : Bool :=
  !hasSignal d e.entry || e.exit.any (fun g => !hasSignal d g) || e.sections.any (fun x => !hasSec d x.1) ||
  e.points.any (fun x => !hasPoint d x.point) || e.flanks.any (fun x => !hasPoint d x.1) ||
  e.overlap.any (fun n => !hasSec d n) || e.approach.any (fun n => !hasSec d n) ||
  e.deckReq.any (fun q => !(d.deck.any (fun k => q.1 < k.n)))

/-- The shape of a route is unsound. -/
def routeMisshapen (d : Desc) (e : RouteEntry) : Bool :=
  e.sections.isEmpty || (e.cls == .shunt && !e.overlap.isEmpty) ||
  e.points.any (fun x => match e.sections[x.idx]?, findItem d.points x.point with
    | some y, some k => y.1 != k.sec
    | _, _ => true) ||
  !noRepeats (e.sections.map (·.1) ++ e.overlap) || !noRepeats (e.points.map (·.point) ++ e.flanks.map (·.1))

/-- The checks of a route. -/
def faultRoute (d : Desc) (n : Nat) (e : RouteEntry) : Option FaultAt :=
  firstFault .route n [(routeRefMissing d e, .refMissing), (routeMisshapen d e, .routeShape)]

/-- The first road below N that names an undescribed road section. -/
def badRoad (d : Desc) (k : DeckEntry) : Option Nat :=
  (itemsWhere k.roads (fun j e => j < k.n && e.sec.any (fun n => !hasSec d n))).head?

/-- The checks of the deck. -/
def faultDeck (d : Desc) : Option FaultAt :=
  match d.deck with
  | none => none
  | some k =>
    if k.n % 2 = 1 ∨ k.n < 4 ∨ 24 < k.n ∨ !(findItem d.sections k.sec).any (·.deckFlag) then
      some (.deckShape, .deck, noItem)
    else match badRoad d k with
      | some j => some (.refMissing, .deck, j)
      | none => firstFault .deck noItem
          [(usedBySec d k.addr || usedByPoint d k.addr || usedBySignal d k.addr, .dupModuleInput)]

/-- The checks of a train. -/
def faultTrain (d : Desc) (n : Nat) (e : TrainEntry) : Option FaultAt :=
  firstFault .train n [(d.trains.any (fun x => x.1 < n && x.2.addr == e.addr), .dupModuleInput)]

/-- The entry signal of a plan's first route stands at an end of its start section. -/
def planStarts (d : Desc) (e : PlanEntry) : Bool :=
  match (e.routes.head?).bind (findItem d.routes) with
  | some r => standsAt d r.entry e.start .up || standsAt d r.entry e.start .down
  | none => false

/-- The checks of a plan. -/
def faultPlan (d : Desc) (n : Nat) (e : PlanEntry) : Option FaultAt :=
  firstFault .plan n
    [((findItem d.trains e.train).isNone || !hasSec d e.start || e.routes.any (fun r => (findItem d.routes r).isNone),
      .refMissing),
     (e.routes.isEmpty || !planStarts d e, .planShape),
     (d.plans.any (fun x => x.1 < n && x.2.addr == e.addr && x.2.input == e.input) || usedBySec d e.addr ||
      usedByPoint d e.addr || usedBySignal d e.addr || usedByDeck d e.addr, .dupModuleInput)]

/-- The checks of the traction station. -/
def faultTraction (d : Desc) : Option FaultAt :=
  match d.traction with
  | none => some (.noTraction, .traction, noItem)
  | some a => firstFault .traction noItem
      [(usedBySec d a || usedByPoint d a || usedBySignal d a || usedByDeck d a || usedByPlan d a, .dupModuleInput)]

/-- The first fault of a table's items, ascending. -/
def firstItemFault {α : Type} (t : Table α) (f : Nat → α → Option FaultAt) : Option FaultAt :=
  t.findSome? (fun e => f e.1 e.2)

/-- The validation walk: the first fault in the order of Table 1-8; none for a sound description (R6). -/
def validate (d : Desc) : Option FaultAt :=
  [firstItemFault d.sections (faultSection d), firstItemFault d.points (faultPoint d),
   firstItemFault d.signals (faultSignal d), firstItemFault d.routes (faultRoute d), faultDeck d,
   firstItemFault d.trains (faultTrain d), firstItemFault d.plans (faultPlan d), faultTraction d].findSome? id

end Sys2Proof.Machine
end

