-- ==== Sys2Proof/Machine/Store.lean ====
section
/-! DEFINITION. The Layout Store (sections 1.1 and 1.2): BEGIN-CONFIG, the LOAD requests, COMMIT-CONFIG and ABANDON-CONFIG
as they are served, and READ-DESCRIPTION. -/

namespace Sys2Proof.Machine

/-! ### Checks and edits -/

/-- The mode, session and sender checks of R4. -/
def configuring (s : State) (p : PortId) : List (Bool × Answer) :=
  [inMode (s.ctl.mode == .config), (s.store.session.any (fun x => x.port == p), refuse .notConfigurer)]

/-- The item number lies in its table (R4). -/
def itemIn (n bound : Nat) : Bool × Answer := (decide (n < bound), refuse .unknownItem)

/-- A VALIDATION refusal. -/
def faulty (f : FaultAt) : Answer := .refused .validation (.validation f.1 f.2.1 f.2.2)

/-- The fields lie in their ranges (R4). -/
def inRange (ok : Bool) (t : TableId) (item : Nat) : Bool × Answer := (ok, faulty (.fieldRange, t, item))

/-- An erase flag is a flag, and the fields are in range unless it is set (R4). -/
def eraseOr (erase : Nat) (ok : Bool) : Bool := erase == 1 || (erase == 0 && ok)

/-- The working description edited (R1). -/
def editWorking (f : Desc → Desc) (s : State) : State :=
  s.withStore { s.store with session := s.store.session.map (fun x => { x with working := f x.working }) }

/-- The working description of the session that is open. -/
def workingOf (s : State) : Desc := (s.store.session.map (·.working)).getD s.store.committed

/-- A LOAD that passes its checks edits the working description and is answered DONE (R4). -/
def load (p : PortId) (checks : List (Bool × Answer)) (f : Desc → Desc) (s : State) : State × Answer :=
  checked (configuring s p ++ checks) s (fun s => (editWorking f s, done))

/-- An optional one-byte item sent in two bytes: in its table, or 0xFFFF (R185). -/
def optIn (n bound : Nat) : Bool := n < bound || n == 65535
/-- The optional item (R185). -/
def optOf (n : Nat) : Option Nat := if n = 65535 then none else some n

/-- A table entry put, or erased. -/
def putOrDrop {α : Type} (t : Table α) (item erase : Nat) (v : Option α) : Table α :=
  if erase = 1 then dropItem t item else match v with | some v => putItem t item v | none => t

/-! ### The LOAD requests -/

/-- LOAD-SECTION (R4, Table 1-2). -/
def serveLoadSection (p : PortId) (item erase length limit district addr input up down flag : Nat) (s : State) :
    State × Answer :=
  load p
    [itemIn item 256,
     inRange (eraseOr erase (50 ≤ length && length ≤ 20000 && limit ≤ 1023 && district ≤ 7 && addr ≤ 63 && input ≤ 7 &&
       optIn up 128 && optIn down 128 && flag ≤ 1)) .sec item]
    (fun d => { d with sections := putOrDrop d.sections item erase (some
      { length := length, limit := limit, district := district, addr := addr, input := input, upSignal := optOf up,
        downSignal := optOf down, deckFlag := flag == 1 }) }) s

/-- LOAD-POINT (R4, Table 1-3). -/
def serveLoadPoint (p : PortId) (item erase addr output sec_ district : Nat) (s : State) : State × Answer :=
  load p
    [itemIn item 128,
     inRange (eraseOr erase (addr ≤ 63 && output ≤ 3 && sec_ ≤ 255 && district ≤ 7)) .point item]
    (fun d => { d with points := putOrDrop d.points item erase (some
      { addr := addr, output := output, sec := sec_, district := district }) }) s

/-- LOAD-SIGNAL (R4, Table 1-3). -/
def serveLoadSignal (p : PortId) (item erase sec_ end_ kind addr output district : Nat) (s : State) : State × Answer :=
  load p
    [itemIn item 128,
     inRange (eraseOr erase (sec_ ≤ 255 && (dirOfCode end_).isSome && (kindOfCode kind).isSome && addr ≤ 63 &&
       output ≤ 7 && district ≤ 7)) .signal item]
    (fun d =>
      let entry : Option SignalEntry := (dirOfCode end_).bind (fun e => (kindOfCode kind).map (fun k =>
        { sec := sec_, stands := e, kind := k, addr := addr, output := output, district := district }))
      { d with signals := putOrDrop d.signals item erase entry }) s

/-- The fields of LOAD-ROUTE lie in their ranges (Table 1-4). -/
def routeInRange (entry exit cls : Nat) (secs : List (Nat × Nat)) (ovl app : List Nat) (road end_ : Nat) : Bool :=
  entry ≤ 127 && optIn exit 128 && (classOfCode cls).isSome && secs.length ≤ 12 &&
  secs.all (fun x => x.1 ≤ 255 && (dirOfCode x.2).isSome) && ovl.length ≤ 2 && ovl.all (· ≤ 255) && app.length ≤ 3 &&
  app.all (· ≤ 255) && ((road == 65535 && end_ == 255) || (road ≤ 23 && (endOfCode end_).isSome))

/-- The entry of LOAD-ROUTE; its point lists are those the route had (R4). -/
def routeOf (old : Option RouteEntry) (entry exit cls : Nat) (secs : List (Nat × Nat)) (ovl app : List Nat)
    (road end_ : Nat) : Option RouteEntry :=
  (classOfCode cls).map (fun c =>
    { entry := entry, exit := optOf exit, cls := c,
      sections := secs.filterMap (fun x => (dirOfCode x.2).map (fun d => (x.1, d))),
      points := (old.map (·.points)).getD [], flanks := (old.map (·.flanks)).getD [],
      overlap := ovl, approach := app, deckReq := (endOfCode end_).map (fun e => (road, e)) })

/-- LOAD-ROUTE (R4, Table 1-4). -/
def serveLoadRoute (p : PortId) (item erase entry exit cls : Nat) (secs : List (Nat × Nat)) (ovl app : List Nat)
    (road end_ : Nat) (s : State) : State × Answer :=
  load p [itemIn item 192, inRange (eraseOr erase (routeInRange entry exit cls secs ovl app road end_)) .route item]
    (fun d =>
      let e := routeOf (findItem d.routes item) entry exit cls secs ovl app road end_
      { d with routes := putOrDrop d.routes item erase e }) s

/-- LOAD-ROUTE-POINTS (R4, Table 1-4). -/
def serveLoadRoutePoints (p : PortId) (item : Nat) (pts : List (Nat × Nat × Nat)) (fls : List (Nat × Nat)) (s : State) :
    State × Answer :=
  load p
    [itemIn item 192,
     inRange (pts.length ≤ 8 && pts.all (fun x => x.1 ≤ 127 && (posOfCode x.2.1).isSome && x.2.2 ≤ 11) &&
       fls.length ≤ 4 && fls.all (fun x => x.1 ≤ 127 && (posOfCode x.2).isSome)) .route item,
     ((findItem (workingOf s).routes item).isSome, faulty (.refMissing, .route, item))]
    (fun d => { d with routes := updateItem d.routes item (fun r => { r with
      points := pts.filterMap (fun x => (posOfCode x.2.1).map (fun q => { point := x.1, pos := q, idx := x.2.2 })),
      flanks := fls.filterMap (fun x => (posOfCode x.2).map (fun q => (x.1, q))) }) }) s

/-- A list-carrying LOAD whose counts do not fit its LENGTH: no list of it is within its table (R4, R165). -/
def serveMisfit (p : PortId) (t : TableId) (bound item : Nat) (s : State) : State × Answer :=
  load p [itemIn item bound, inRange false t item] id s

/-- LOAD-DISTRICT (R4, Table 1-5). -/
def serveLoadDistrict (p : PortId) (item name : Nat) (s : State) : State × Answer :=
  load p [itemIn item 8, inRange (name ≤ 255) .district item] (fun d => { d with names := d.names.set item name }) s

/-- LOAD-DECK (R4, Table 1-5): the road entries are kept, and an erase removes them. -/
def serveLoadDeck (p : PortId) (erase n sec_ addr : Nat) (s : State) : State × Answer :=
  load p [inRange (eraseOr erase (sec_ ≤ 255 && addr ≤ 63)) .deck noItem]
    (fun d =>
      let e : DeckEntry := { n := n, sec := sec_, addr := addr, roads := (d.deck.map (·.roads)).getD [] }
      { d with deck := if erase = 1 then none else some e }) s

/-- LOAD-DECK-ROAD (R4, Table 1-5). -/
def serveLoadDeckRoad (p : PortId) (road erase sec_ end_ : Nat) (s : State) : State × Answer :=
  load p
    [itemIn road 24, inRange (eraseOr erase (optIn sec_ 256 && (dirOfCode end_).isSome)) .deck road,
     ((workingOf s).deck.isSome, faulty (.refMissing, .deck, road))]
    (fun d =>
      let e : Option RoadEntry := (dirOfCode end_).map (fun e => { sec := optOf sec_, meeting := e })
      { d with deck := d.deck.map (fun k => { k with roads := putOrDrop k.roads road erase e }) }) s

/-- LOAD-TRAIN (R4, Table 1-6). -/
def serveLoadTrain (p : PortId) (item erase addr vmax accel brake : Nat) (s : State) : State × Answer :=
  load p
    [itemIn item 48,
     inRange (eraseOr erase (1 ≤ addr && addr ≤ 9999 && 50 ≤ vmax && vmax ≤ 1023 && 10 ≤ accel && accel ≤ 2000 &&
       10 ≤ brake && brake ≤ 2000)) .train item]
    (fun d => { d with trains := putOrDrop d.trains item erase (some
      { addr := addr, vmax := vmax, accel := accel, brake := brake }) }) s

/-- LOAD-PLAN (R4, Table 1-6). -/
def serveLoadPlan (p : PortId) (item erase train start : Nat) (routes : List Nat) (throttle addr input : Nat)
    (s : State) : State × Answer :=
  load p
    [itemIn item 16,
     inRange (eraseOr erase (train ≤ 47 && start ≤ 255 && routes.length ≤ 6 && routes.all (· ≤ 191) && 1 ≤ throttle &&
       throttle ≤ 255 && addr ≤ 63 && input ≤ 7)) .plan item]
    (fun d => { d with plans := putOrDrop d.plans item erase (some
      { train := train, start := start, routes := routes, throttle := throttle, addr := addr, input := input }) }) s

/-- LOAD-TRACTION (R4, Table 1-5). -/
def serveLoadTraction (p : PortId) (erase addr : Nat) (s : State) : State × Answer :=
  load p [inRange (eraseOr erase (addr ≤ 63)) .traction noItem]
    (fun d => { d with traction := if erase = 1 then none else some addr }) s

/-- LOAD-PORT-ROLES (R4, Table 1-6). -/
def serveLoadPortRoles (p : PortId) (screening a b c d_ : Nat) (s : State) : State × Answer :=
  load p
    [inRange ((screening ≤ 3 || screening == 255) && a ≤ 1 && b ≤ 1 && c ≤ 1 && d_ ≤ 1) .roles noItem]
    (fun d => { d with roles := { screening := portOfCode screening, batchA := a == 1, batchB := b == 1,
                                  batchC := c == 1, batchD := d_ == 1 } }) s

/-- The range of a parameter (Table 1-7). -/
def paramRange : Nat → Nat × Nat
  | 0 => (40, 1000) | 1 => (0, 2) | 2 => (2, 30) | 3 => (0, 255) | 4 => (0, 100) | 5 => (20, 400) | 6 => (500, 10000)
  | 7 => (2, 120) | 8 => (0, 60) | 9 => (5, 300) | 10 => (200, 5000) | 11 => (0, 5000) | 12 => (0, 30)
  | 13 => (30, 900) | _ => (10, 600)

/-- The value stored for a parameter: the nearest limit of its range (R5). -/
def paramStored (k v : Nat) : Nat := clampTo (paramRange k).1 (paramRange k).2 v

/-- The parameter set with one parameter stored, in the order of Table 1-7. -/
def setParam (k v : Nat) (q : Params) : Params :=
  match k with
  | 0 => { q with sweepPeriod := v } | 1 => { q with sweepMode := sweepOfCode v } | 2 => { q with threshold := v }
  | 3 => { q with stopMargin := v } | 4 => { q with releaseSpeed := v } | 5 => { q with shuntLimit := v }
  | 6 => { q with pointTimeout := v } | 7 => { q with approachTime := v } | 8 => { q with overlapTime := v }
  | 9 => { q with retryLife := v } | 10 => { q with deckStep := v } | 11 => { q with deckSettle := v }
  | 12 => { q with screening := v } | 13 => { q with runLimit := v } | _ => { q with admission := v }

/-- A parameter's value, in the order of Table 1-7. -/
def getParam (k : Nat) (q : Params) : Nat :=
  match k with
  | 0 => q.sweepPeriod | 1 => codeSweep q.sweepMode | 2 => q.threshold | 3 => q.stopMargin | 4 => q.releaseSpeed
  | 5 => q.shuntLimit | 6 => q.pointTimeout | 7 => q.approachTime | 8 => q.overlapTime | 9 => q.retryLife
  | 10 => q.deckStep | 11 => q.deckSettle | 12 => q.screening | 13 => q.runLimit | _ => q.admission

/-- LOAD-PARAMETER: DONE carries the value stored (R5). -/
def serveLoadParameter (p : PortId) (k v : Nat) (s : State) : State × Answer :=
  checked (configuring s p ++ [itemIn k 15]) s (fun s =>
    (editWorking (fun d => { d with params := setParam k (paramStored k v) d.params }) s,
     .done (b2 (paramStored k v))))

/-! ### The session -/

/-- BEGIN-CONFIG (R3). -/
def serveBegin (p : PortId) (s : State) : State × Answer :=
  checked [inMode (s.ctl.mode == .config), (s.store.session.isNone, refuse .sessionOpen)] s (fun s =>
    (raise (.mode (.sessionOpen p))
      (s.withStore { s.store with session := some { port := p, working := s.store.committed } }), done))

/-- ABANDON-CONFIG (R8). -/
def serveAbandon (p : PortId) (s : State) : State × Answer :=
  checked (configuring s p) s (fun s =>
    (raise (.mode (.sessionClosed .abandon)) (s.withStore { s.store with session := none }), done))

/-- The kind of a ring address, derived from a description (R2). -/
def kindOf (d : Desc) (a : Nat) : ModKind :=
  if usedBySec d a then .detect
  else if usedByPoint d a then .point
  else if usedBySignal d a then .signal
  else if usedByPlan d a then .button
  else if usedByDeck d a then .deck
  else if d.traction == some a then .traction
  else .absent

/-- A module table entry after a commit (R149). -/
def freshModule (k : ModKind) : Module :=
  { kind := k, state := .absent, misses := 0, data := none,
    clearCounts := if k = .detect then List.replicate 8 0 else [],
    neitherCounts := if k = .point then List.replicate 4 0 else [] }

/-- The module table derived from a description: its described addresses (R2, R149). -/
def modulesOf (d : Desc) : Table Module :=
  ((List.range 64).filter (fun a => kindOf d a != .absent)).map (fun a => (a, freshModule (kindOf d a)))

/-- A train record keeps its place through a commit: PLACED or DISRUPTED, its entry identical in both descriptions and
every section of its list described (R7). -/
def keepsRecord (old new : Desc) (t : Nat) (r : TrainRec) : Bool :=
  r.state != .absent && findItem old.trains t == findItem new.trains t && r.list.all (fun n => hasSec new n)

/-- A kept head offset limited to the head section's committed length (R7). -/
def clampOffset (new : Desc) (list : List Nat) (u : Sup) : Sup :=
  match (headOf list).bind (findItem new.sections) with
  | some e => { u with offset := min u.offset (e.length * 20 - 1) }
  | none => u

/-- The record of a train that stands nowhere, driven by nobody (R84). -/
def absentTrain : TrainRec :=
  { state := .absent, list := [], heading := .up, driver := none, throttle := 0, pendRev := false, cause := none,
    sup := none }

/-- A train record after a commit (R7, R84). -/
def commitTrain (old new : Desc) (s : State) (t : Nat) : TrainRec :=
  match trainAt s t with
  | some r =>
    if keepsRecord old new t r then
      { r with driver := none, throttle := 0, pendRev := false, sup := r.sup.map (clampOffset new r.list) }
    else absentTrain
  | none => absentTrain

/-- The train in whose list a section is. -/
def listedTrain (ts : Table TrainRec) (n : Nat) : Option Nat := (itemsWhere ts (fun _ r => r.list.contains n)).head?

/-- A section after a commit (R7). -/
def commitSection (ts : Table TrainRec) (n : Nat) : SecState :=
  { occ := .occupied, lock := none, disturbed := false,
    occupant := match listedTrain ts n with | some t => .train t | none => .unknown }

/-- The state of every block after a commit of `new` (R7, R49, R84, R101, R121, R135, R149, R153, R157, R159). -/
def commitState (new : Desc) (s : State) : State :=
  let ts := new.trains.map (fun e => (e.1, commitTrain s.store.committed new s e.1))
  { s with
    store := { committed := new, session := none },
    il := { s.il with
      sections := new.sections.map (fun e => (e.1, commitSection ts e.1)),
      points := new.points.map (fun e => (e.1,
        { reported := .unproven, commanded := none, locks := 0, lockedPos := .normal, timer := none })),
      signals := new.signals.map (fun e => (e.1, Aspect.stop)), instances := [] },
    engine := { pointer := .port .a, batch := 0, last := none, retry := [] },
    trains := ts,
    deck := new.deck.map (fun _ =>
      { pos := .unproven, req := none, timer := none, latch := none, reported := none, doubt := 0 }),
    demo := { s.demo with buttons := new.plans.map (fun e => (e.1, { level := none, lamp := .closed })), queue := [],
                          run := none, cancel := [] },
    ring := { s.ring with
      modules := modulesOf new, running := { mode := new.params.sweepMode, period := new.params.sweepPeriod },
      pendingSetting := none, window := none, todo := [], due := 0, underWay := false, postponed := false,
      restTail := false, postCount := 0, overloaded := false, stopRun := [], queue := [], slot := none,
      mismatch := false } }

/-- COMMIT-CONFIG: the walk, and what follows when it finds no fault (R6, R7, R11, R158).  DESIGN CHOICE: where the commit
changes the failing conditions of the demonstration service, the service is recomputed after WAKING is entered, so DEMO CLOSED
stands after MODE WAKING; R7, R135 and R136 do not order the two records (log entry 16). -/
def serveCommit (p : PortId) (s : State) : State × Answer :=
  checked (configuring s p) s (fun s =>
    match validate (workingOf s) with
    | some f => (s, faulty f)
    | none =>
      let s1 := raise (.mode (.sessionClosed .commit)) (commitState (workingOf s) s)
      (beginWhole (recomputeService (enterWaking .commit s1)), done))

/-! ### READ-DESCRIPTION -/

def bSection (e : SectionEntry) : List Byte :=
  b2 e.length ++ b2 e.limit ++ b1 e.district ++ b1 e.addr ++ b1 e.input ++ bItem e.upSignal ++ bItem e.downSignal ++
  bFlag e.deckFlag
def bPoint (e : PointEntry) : List Byte := b1 e.addr ++ b1 e.output ++ b1 e.sec ++ b1 e.district
def bSignal (e : SignalEntry) : List Byte :=
  b1 e.sec ++ b1 (codeDir e.stands) ++ b1 (codeKind e.kind) ++ b1 e.addr ++ b1 e.output ++ b1 e.district
/-- A route entry in the order of Table 1-4. -/
def bRouteEntry (e : RouteEntry) : List Byte :=
  b1 e.entry ++ bItem e.exit ++ b1 (codeClass e.cls) ++ bList (fun x => b1 x.1 ++ b1 (codeDir x.2)) e.sections ++
  bList (fun x => b1 x.point ++ b1 (codePos x.pos) ++ b1 x.idx) e.points ++
  bList (fun x => b1 x.1 ++ b1 (codePos x.2)) e.flanks ++ bList b1 e.overlap ++ bList b1 e.approach ++
  bItem (e.deckReq.map (·.1)) ++ bOpt (e.deckReq.map (fun q => codeEnd q.2))
def bRoad (e : RoadEntry) : List Byte := bItem e.sec ++ b1 (codeDir e.meeting)
def bTrainEntry (e : TrainEntry) : List Byte := b2 e.addr ++ b2 e.vmax ++ b2 e.accel ++ b2 e.brake
def bPlanEntry (e : PlanEntry) : List Byte :=
  b1 e.train ++ b1 e.start ++ bList b1 e.routes ++ b1 e.throttle ++ b1 e.addr ++ b1 e.input
def bRoles (r : Roles) : List Byte :=
  bPort r.screening ++ bFlag r.batchA ++ bFlag r.batchB ++ bFlag r.batchC ++ bFlag r.batchD

/-- The answer for an entry: the mark undescribed 0, or 1 and the fields (log entry 12). -/
def entryAnswer (o : Option (List Byte)) : Answer :=
  match o with
  | some l => .done (b1 1 ++ l)
  | none => .done (b1 0)

/-- The batch flag of a port in a description (Table 1-6). -/
def batchOf (r : Roles) : PortId → Bool
  | .a => r.batchA | .b => r.batchB | .c => r.batchC | .d => r.batchD

/-- The port roles as READ-DESCRIPTION answers them: for a port A to D the screening port and that port's batch flag, and
under the item 0xFFFF the whole set (R9, Table 1-1; log entry 12). -/
def readRoles (r : Roles) (item : Nat) : Answer :=
  if item = noItem then entryAnswer (some (bRoles r))
  else match portOfCode item with
    | some p => entryAnswer (some (bPort r.screening ++ bFlag (batchOf r p)))
    | none => refuse .unknownItem

/-- The answer of READ-DESCRIPTION from a description (R9). -/
def readTable (d : Desc) (t : TableId) (item : Nat) : Answer :=
  match t with
  | .sec => if item < 256 then entryAnswer ((findItem d.sections item).map bSection) else refuse .unknownItem
  | .point => if item < 128 then entryAnswer ((findItem d.points item).map bPoint) else refuse .unknownItem
  | .signal => if item < 128 then entryAnswer ((findItem d.signals item).map bSignal) else refuse .unknownItem
  | .route => if item < 192 then entryAnswer ((findItem d.routes item).map bRouteEntry) else refuse .unknownItem
  | .district => if item < 8 then entryAnswer (some (b1 (entryAt d.names item 0))) else refuse .unknownItem
  | .deck =>
    if item = noItem then entryAnswer (d.deck.map (fun k => b1 k.n ++ b1 k.sec ++ b1 k.addr))
    else if item < 24 then entryAnswer ((d.deck.bind (fun k => findItem k.roads item)).map bRoad)
    else refuse .unknownItem
  | .train => if item < 48 then entryAnswer ((findItem d.trains item).map bTrainEntry) else refuse .unknownItem
  | .plan => if item < 16 then entryAnswer ((findItem d.plans item).map bPlanEntry) else refuse .unknownItem
  | .traction => if item = noItem then entryAnswer (d.traction.map b1) else refuse .unknownItem
  | .roles => readRoles d.roles item
  | .params => if item < 15 then entryAnswer (some (b2 (getParam item d.params))) else refuse .unknownItem

/-- The description READ-DESCRIPTION reads: the configuring port reads the working one (R9). -/
def readFrom (s : State) (p : PortId) : Desc :=
  match s.store.session with
  | some x => if x.port = p then x.working else s.store.committed
  | none => s.store.committed

/-- The answer of READ-DESCRIPTION; a table code that names no table is refused with a free reason (log entry 3). -/
def readDescription (p : PortId) (table item : Nat) (s : State) : Answer :=
  match tableOfCode table with
  | some t => readTable (readFrom s p) t item
  | none => refuseCode 0x40

/-! ### The commands -/

/-- BEGIN_CONFIG (R3). -/
def execBeginConfig (p : PortId) (s : State) : Host.Outcome State Fault Refusal :=
  .next (serveHead p (fun r s => match r with | .beginConfig => some (serveBegin p s) | _ => none) s)

/-- LOAD_SECTION (R4). -/
def execLoadSection (p : PortId) (s : State) : Host.Outcome State Fault Refusal :=
  .next (serveHead p (fun r s => match r with
    | .loadSection i er len lim dis ad inp up dn fl => some (serveLoadSection p i er len lim dis ad inp up dn fl s)
    | _ => none) s)

/-- LOAD_POINT (R4). -/
def execLoadPoint (p : PortId) (s : State) : Host.Outcome State Fault Refusal :=
  .next (serveHead p (fun r s => match r with
    | .loadPoint i er ad out sec_ dis => some (serveLoadPoint p i er ad out sec_ dis s) | _ => none) s)

/-- LOAD_SIGNAL (R4). -/
def execLoadSignal (p : PortId) (s : State) : Host.Outcome State Fault Refusal :=
  .next (serveHead p (fun r s => match r with
    | .loadSignal i er sec_ en k ad out dis => some (serveLoadSignal p i er sec_ en k ad out dis s) | _ => none) s)

/-- LOAD_ROUTE (R4). -/
def execLoadRoute (p : PortId) (s : State) : Host.Outcome State Fault Refusal :=
  .next (serveHead p (fun r s => match r with
    | .loadRoute i er en ex c secs ovl app rd de => some (serveLoadRoute p i er en ex c secs ovl app rd de s)
    | .loadMisfit .route i => some (serveMisfit p .route 192 i s)
    | _ => none) s)

/-- LOAD_ROUTE_POINTS (R4). -/
def execLoadRoutePoints (p : PortId) (s : State) : Host.Outcome State Fault Refusal :=
  .next (serveHead p (fun r s => match r with
    | .loadRoutePoints i pts fls => some (serveLoadRoutePoints p i pts fls s)
    | .loadMisfit .routePoints i => some (serveMisfit p .route 192 i s)
    | _ => none) s)

/-- LOAD_DISTRICT (R4). -/
def execLoadDistrict (p : PortId) (s : State) : Host.Outcome State Fault Refusal :=
  .next (serveHead p (fun r s => match r with
    | .loadDistrict i n => some (serveLoadDistrict p i n s) | _ => none) s)

/-- LOAD_DECK (R4). -/
def execLoadDeck (p : PortId) (s : State) : Host.Outcome State Fault Refusal :=
  .next (serveHead p (fun r s => match r with
    | .loadDeck er n sec_ ad => some (serveLoadDeck p er n sec_ ad s) | _ => none) s)

/-- LOAD_DECK_ROAD (R4). -/
def execLoadDeckRoad (p : PortId) (s : State) : Host.Outcome State Fault Refusal :=
  .next (serveHead p (fun r s => match r with
    | .loadDeckRoad rd er sec_ en => some (serveLoadDeckRoad p rd er sec_ en s) | _ => none) s)

/-- LOAD_TRAIN (R4). -/
def execLoadTrain (p : PortId) (s : State) : Host.Outcome State Fault Refusal :=
  .next (serveHead p (fun r s => match r with
    | .loadTrain i er ad v a b => some (serveLoadTrain p i er ad v a b s) | _ => none) s)

/-- LOAD_PLAN (R4). -/
def execLoadPlan (p : PortId) (s : State) : Host.Outcome State Fault Refusal :=
  .next (serveHead p (fun r s => match r with
    | .loadPlan i er t st rs th ad inp => some (serveLoadPlan p i er t st rs th ad inp s)
    | .loadMisfit .plan i => some (serveMisfit p .plan 16 i s)
    | _ => none) s)

/-- LOAD_TRACTION (R4). -/
def execLoadTraction (p : PortId) (s : State) : Host.Outcome State Fault Refusal :=
  .next (serveHead p (fun r s => match r with
    | .loadTraction er ad => some (serveLoadTraction p er ad s) | _ => none) s)

/-- LOAD_PORT_ROLES (R4). -/
def execLoadPortRoles (p : PortId) (s : State) : Host.Outcome State Fault Refusal :=
  .next (serveHead p (fun r s => match r with
    | .loadPortRoles sc a b c d => some (serveLoadPortRoles p sc a b c d s) | _ => none) s)

/-- LOAD_PARAMETER (R5). -/
def execLoadParameter (p : PortId) (s : State) : Host.Outcome State Fault Refusal :=
  .next (serveHead p (fun r s => match r with
    | .loadParameter k v => some (serveLoadParameter p k v s) | _ => none) s)

/-- COMMIT_CONFIG (R6, R7). -/
def execCommitConfig (p : PortId) (s : State) : Host.Outcome State Fault Refusal :=
  .next (serveHead p (fun r s => match r with | .commitConfig => some (serveCommit p s) | _ => none) s)

/-- ABANDON_CONFIG (R8). -/
def execAbandonConfig (p : PortId) (s : State) : Host.Outcome State Fault Refusal :=
  .next (serveHead p (fun r s => match r with | .abandonConfig => some (serveAbandon p s) | _ => none) s)

/-- READ_DESCRIPTION (R9). -/
def execReadDescription (p : PortId) (tag : Byte) (table item : Nat) (s : State) : Host.Outcome State Fault Refusal :=
  .next (immediate p tag (fun s => (s, some (readDescription p table item s))) s)

end Sys2Proof.Machine
end

