-- ==== Sys2Proof/Machine/ModeCmds.lean ====
section
/-! DEFINITION. The commands of Mode Control and the two pins (sections 1.3 to 1.5). -/

namespace Sys2Proof.Machine

/-- The state right after power-on reset with the emergency-stop input at a level (R19, R22); the model's own clock,
counter of free values and queue go on. -/
def resetWith (asserted : Bool) (s : State) : State :=
  { State.reset with
    now := s.now, freeSeed := s.freeSeed, pending := s.pending,
    ctl := { State.reset.ctl with estop := asserted, allStop := if asserted then some .emergency else none },
    demo := { State.reset.demo with failing := { State.reset.demo.failing with allStop := asserted } } }

/-- The input becomes asserted: the latch is set with cause EMERGENCY (R20). -/
def estopAsserted (s : State) : State :=
  if s.ctl.estop then s else setAllStop .emergency (s.withCtl { s.ctl with estop := true })

/-- The quiet conditions of REST (R12). -/
def quietForRest (s : State) : Bool :=
  s.il.instances.isEmpty && allStill s && !deckMoving s && s.demo.run.isNone

/-- REST (R12). -/
def serveRest (p : PortId) (s : State) : State × Answer :=
  checked [inMode (s.ctl.mode == .inService)] s (fun s =>
    if s.ctl.pendingRest.isSome then (s, done)
    else checked [(quietForRest s, refuse .notQuiet)] s (fun s =>
      (raise (.mode (.restPending p)) (s.withCtl { s.ctl with pendingRest := some p }), done)))

/-- WAKE (R16). -/
def serveWake (s : State) : State × Answer :=
  checked [inMode (s.ctl.mode == .rest)] s (fun s => (ringWake (enterWaking .wake s), done))

/-- The conditions of RECONFIGURE (R18). -/
def quietForConfig (s : State) : Bool :=
  s.il.instances.isEmpty && s.trains.all (fun e => e.2.driver.isNone) && s.demo.queue.isEmpty && s.demo.run.isNone &&
  !deckMoving s

/-- The service at RECONFIGURE: no entry and no run stands, so a change of its conditions is told and stored, and the
button records stay as they are (R18, R135, R136). -/
def closeService (s : State) : State :=
  if failingNow s = s.demo.failing then s
  else raise (.demo (.closed (failingNow s))) (s.withDemo { s.demo with failing := failingNow s })

/-- RECONFIGURE accepted (R18, R60, R121, R135, R136, R158). -/
def reconfigured (p : PortId) (s : State) : State :=
  let s1 := raise (.mode (.config p)) (s.withCtl { s.ctl with mode := .config, pendingRest := none })
  closeService (ringStop (discardLatch .config (expireEntries (fun _ => true) .config s1)))

/-- RECONFIGURE (R18). -/
def serveReconfigure (p : PortId) (s : State) : State × Answer :=
  checked [inMode (s.ctl.mode == .inService || s.ctl.mode == .rest), (quietForConfig s, refuse .notQuiet)] s
    (fun s => (reconfigured p s, done))

/-- RESUME (R21). -/
def serveResume (p : PortId) (s : State) : State × Answer :=
  if s.ctl.allStop.isNone then (s, done)
  else checked [(mayResume s, refuse .estopActive)] s (fun s => (clearAllStop p s, done))

/-- The answer of READ-MODE (R19): a pending REST as its port alone, the latch as a flag, a cause and a port that always
stand, and the input coded asserted 0, released 1 (log entry 12). -/
def readMode (s : State) : Answer :=
  .done (b1 (codeMode s.ctl.mode) ++ bPort s.ctl.pendingRest ++ bPort (s.store.session.map (·.port)) ++
    bFlag s.ctl.allStop.isSome ++ bOpt (s.ctl.allStop.map codeStop) ++
    bPort (match s.ctl.allStop with | some (.port p) => some p | _ => none) ++ b1 (if s.ctl.estop then 0 else 1))

/-- POWER_ON_RESET (R22). -/
def execPowerOnReset (asserted : Bool) (s : State) : Host.Outcome State Fault Refusal := .next (resetWith asserted s)

/-- EMERGENCY_STOP_ASSERTED (R20). -/
def execEmergencyStopAsserted (s : State) : Host.Outcome State Fault Refusal := .next (estopAsserted s)

/-- EMERGENCY_STOP_RELEASED (R19, R20): the latch is not cleared. -/
def execEmergencyStopReleased (s : State) : Host.Outcome State Fault Refusal :=
  .next (s.withCtl { s.ctl with estop := false })

/-- REST (R12). -/
def execRest (p : PortId) (s : State) : Host.Outcome State Fault Refusal :=
  .next (serveHead p (fun r s => match r with | .rest => some (serveRest p s) | _ => none) s)

/-- WAKE (R16). -/
def execWake (p : PortId) (s : State) : Host.Outcome State Fault Refusal :=
  .next (serveHead p (fun r s => match r with | .wake => some (serveWake s) | _ => none) s)

/-- RECONFIGURE (R18). -/
def execReconfigure (p : PortId) (s : State) : Host.Outcome State Fault Refusal :=
  .next (serveHead p (fun r s => match r with | .reconfigure => some (serveReconfigure p s) | _ => none) s)

/-- ALL_STOP (R20). -/
def execAllStop (p : PortId) (tag : Byte) (s : State) : Host.Outcome State Fault Refusal :=
  .next (immediate p tag (fun s => (setAllStop (.port p) s, some done)) s)

/-- RESUME (R21). -/
def execResume (p : PortId) (tag : Byte) (s : State) : Host.Outcome State Fault Refusal :=
  .next (immediate p tag (fun s => ((serveResume p s).1, some (serveResume p s).2)) s)

/-- READ_MODE (R19). -/
def execReadMode (p : PortId) (tag : Byte) (s : State) : Host.Outcome State Fault Refusal :=
  .next (immediate p tag (fun s => (s, some (readMode s))) s)

end Sys2Proof.Machine
end

