-- ==== Sys2Proof/Machine/PortCmds.lean ====
section
/-! DEFINITION. The commands of the Desk Port Units (chapter 10). -/

namespace Sys2Proof.Machine

/-- The expiry of a running silence timer (R167). -/
def silenceExpiry (p : PortId) (s : State) : State :=
  if (portAt s p).state = .online ∧ (portAt s p).silenceTimer.isSome then leaveOnline p .lost s else s

/-- The expiry of the hold timer at depth 3 or more (R173). -/
def holdExpiry (q : Port) : Port :=
  if q.holding = true ∧ q.holdTimer.isSome ∧ 3 ≤ q.queue.length then
    { makeHold Config.holdQuanta q with holdTimer := some holdMs }
  else q

/-- SET-SILENCE: the interval stored, the timer restarted from it or stopped, DONE with the value stored (R167). -/
def serveSetSilence (p : PortId) (ms : Nat) (s : State) : State × Option Answer :=
  (updatePort s p (fun q => restartSilence { q with silence := silenceOf ms }), some (.done (b2 (silenceOf ms))))

/-- The quanta stored for a HOLD-OFF (R174). -/
def holdOffOf (q : Nat) : Nat := min 6000 q

/-- HOLD-OFF: the hold-off replaced; DONE with the stored value (R174). -/
def serveHoldOff (p : PortId) (q : Nat) (s : State) : State × Option Answer :=
  (updatePort s p (fun x => { x with
    holdOff := if holdOffOf q = 0 then none else some (holdOffOf q * Config.quantumMs) }), some (.done (b2 (holdOffOf q))))

/-- SET-SUBSCRIPTION: the 13 choices replaced (R175).  The three bits that name no class are ignored (log entry 12). -/
def serveSubscription (p : PortId) (mask : Nat) (s : State) : State × Option Answer :=
  (updatePort s p (fun q => { q with subs := BitVec.ofNat 13 mask }), some done)

/-- SET-TRIGGER: DONE with the level stored (R177). -/
def serveTrigger (p : PortId) (v : Nat) (s : State) : State × Option Answer :=
  (updatePort s p (fun q => { q with trigger := triggerOf v }), some (.done (b1 (triggerOf v))))

/-- The time left on a timer in quanta of 10 ms; 0 when stopped (section 10.4, R178). -/
def quantaLeft (t : Option Nat) : Nat := t.getD 0 / Config.quantumMs

/-- The answer of READ-PORT (R178); the hold state is 1 when holding and 0 when not (log entry 12). -/
def readPort (named : Nat) (s : State) : Answer :=
  match portOfCode named with
  | none => refuse .unknownItem
  | some x =>
    let q := portAt s x
    .done (b1 (codePortState q.state) ++ b1 q.malformed ++ b1 q.queue.length ++
      bOpt (q.queue.head?.map (fun r => kindOfRequest r.req)) ++ bFlag q.holding ++ b1 (quantaLeft q.holdTimer) ++
      b2 (quantaLeft q.holdOff) ++ b1 q.responses.length ++ b1 q.overruns ++ b1 q.notices.length ++ b1 q.lost ++
      b2 q.subs.toNat ++ b1 q.trigger ++ b2 q.silence)

/-- BREAK (R164, R169). -/
def execBreakLine (p : PortId) (s : State) : Host.Outcome State Fault Refusal := .next (breakPort p s)

/-- MALFORMED_FRAME (R164, R165). -/
def execMalformedFrame (p : PortId) (chars : List RxChar) (s : State) : Host.Outcome State Fault Refusal :=
  .next (chars.foldl (receive p) s)

/-- FRAME_GAP_TIMEOUT (R164): the frame collected so far ends malformed, and the byte that ends the gap goes to the idle
assembler. -/
def execFrameGapTimeout (p : PortId) (chars : List RxChar) (next : RxChar) (s : State) :
    Host.Outcome State Fault Refusal :=
  .next (receive p (gapEnds p (chars.foldl (receive p) s)) next)

/-- SILENCE_TIMEOUT (R167, R168). -/
def execSilenceTimeout (p : PortId) (s : State) : Host.Outcome State Fault Refusal := .next (silenceExpiry p s)

/-- ORDERED_REQUEST (R170). -/
def execOrderedRequest (p : PortId) (tag : Byte) (req : Request) (s : State) : Host.Outcome State Fault Refusal :=
  .next (takeOrdered p tag req s)

/-- HOLD_TIMER_EXPIRY (R173). -/
def execHoldTimerExpiry (p : PortId) (s : State) : Host.Outcome State Fault Refusal := .next (updatePort s p holdExpiry)

/-- HOLD_OFF_EXPIRY (R174). -/
def execHoldOffExpiry (p : PortId) (s : State) : Host.Outcome State Fault Refusal :=
  .next (updatePort s p (fun q => { q with holdOff := none }))

/-- TRANSMIT_HOLD (R172). -/
def execTransmitHold (p : PortId) (s : State) : Host.Outcome State Fault Refusal := .next (updatePort s p sendHold)

/-- TRANSMIT_RESPONSE (R172). -/
def execTransmitResponse (p : PortId) (s : State) : Host.Outcome State Fault Refusal :=
  .next (updatePort s p sendResponse)

/-- TRANSMIT_NOTICE (R176, R177). -/
def execTransmitNotice (p : PortId) (s : State) : Host.Outcome State Fault Refusal :=
  .next ((updatePort s p (sendNotices s.now s.freeSeed)).withSeed (s.freeSeed + Config.noticesPerFrame))

/-- PRESENT (R167): no answer; the port is ONLINE with its silence timer restarted. -/
def execPresent (p : PortId) (tag : Byte) (s : State) : Host.Outcome State Fault Refusal :=
  .next (immediate p tag (fun s => (s, none)) s)

/-- SET_SILENCE (R167). -/
def execSetSilence (p : PortId) (tag : Byte) (ms : Nat) (s : State) : Host.Outcome State Fault Refusal :=
  .next (immediate p tag (serveSetSilence p ms) s)

/-- HOLD_OFF (R174). -/
def execHoldOff (p : PortId) (tag : Byte) (quanta : Nat) (s : State) : Host.Outcome State Fault Refusal :=
  .next (immediate p tag (serveHoldOff p quanta) s)

/-- SET_SUBSCRIPTION (R175). -/
def execSetSubscription (p : PortId) (tag : Byte) (mask : Nat) (s : State) : Host.Outcome State Fault Refusal :=
  .next (immediate p tag (serveSubscription p mask) s)

/-- SET_TRIGGER (R177). -/
def execSetTrigger (p : PortId) (tag : Byte) (value : Nat) (s : State) : Host.Outcome State Fault Refusal :=
  .next (immediate p tag (serveTrigger p value) s)

/-- READ_PORT (R178). -/
def execReadPort (p : PortId) (tag : Byte) (named : Nat) (s : State) : Host.Outcome State Fault Refusal :=
  .next (immediate p tag (fun s => (s, some (readPort named s))) s)

end Sys2Proof.Machine
end

