-- ==== Sys2Proof/Machine/ItemCmds.lean ====
section
/-! DEFINITION. The commands of sections, points, signals and districts (chapter 2). -/

namespace Sys2Proof.Machine

/-- A district number names a district. -/
def districtIn (k : Nat) : Bool × Answer := (decide (k < 8), refuse .unknownItem)

/-- TAKE-DISTRICT (R38). -/
def serveTake (p : PortId) (k : Nat) (s : State) : State × Answer :=
  checked [districtIn k] s (fun s =>
    match (districtAt s k).holder with
    | none => (raise (.district k (.taken p)) (setDistrict s k { holder := some p, demoOk := false }), done)
    | some q => if q = p then (s, done) else (s, .refused .held (.held (some (.port q)))))

/-- GIVE-DISTRICT (R39). -/
def serveGive (p : PortId) (k : Nat) (s : State) : State × Answer :=
  checked [districtIn k, ((districtAt s k).holder == some p, refuse .notHolder)] s (fun s =>
    (raise (.district k (.given p)) (setDistrict s k { holder := none, demoOk := false }), done))

/-- SET-DISTRICT-FLAGS (R40); a value that is no flag is refused with a free reason when neither check of R40 fails (log
entry 3). -/
def serveFlags (p : PortId) (k value : Nat) (s : State) : State × Answer :=
  checked [districtIn k, ((districtAt s k).holder == some p, refuse .notHolder)] s (fun s =>
    withCode 0x22 (flagOfCode value) s (fun f s =>
      let d := districtAt s k
      if d.demoOk = f then (s, done)
      else (raise (.district k (.flags p f)) (setDistrict s k { d with demoOk := f }), done)))

/-- The checks of MOVE-POINT after the mode: R33's check of the point's section reads its accepted occupancy alone, although
R26 says that the occupant is read for it (log entry 11). -/
def movePointChecks (s : State) (p : PortId) (n : Nat) : List (Bool × Answer) :=
  match findItem (desc s).points n, ptAt s n with
  | some e, some st =>
    [(holds s p (some e.district), refuse .notHolder), (st.locks == 0, refuse .locked),
     ((secAt s e.sec).any (fun x => x.occ == .clear), refuse .occupied), (moduleActive s e.addr, refuse .moduleFailed)]
  | _, _ => [(false, refuse .unknownItem)]

/-- MOVE-POINT (R33); a position code that names no position is refused with a free reason when none of the checks of R33
fails (log entry 3). -/
def serveMovePoint (p : PortId) (n position : Nat) (s : State) : State × Answer :=
  checked (whileRunning s :: movePointChecks s p n) s (fun s =>
    withCode 0x23 (posOfCode position) s (fun pos s => (commandPoint n pos s, done)))

/-- The answer of READ-SECTION (R42). -/
def readSection (n : Nat) (s : State) : Answer :=
  match secAt s n with
  | some st => .done (b1 (codeOcc st.occ) ++ b1 (codeOccupant st.occupant) ++ bLockRead st.lock ++ bFlag st.disturbed)
  | none => refuse .unknownItem

/-- The answer of READ-POINT (R42): the time left on the move timer in ms, 0 when stopped. -/
def readPoint (n : Nat) (s : State) : Answer :=
  match ptAt s n with
  | some st => .done (b1 (codeReported st.reported) ++ bPos st.commanded ++ b1 st.locks ++ b1 (codePos st.lockedPos) ++
      b2 (st.timer.getD 0))
  | none => refuse .unknownItem

/-- The answer of READ-SIGNAL; of several live instances that enter at the signal it names that of the lowest slot (R42;
log entry 9). -/
def readSignal (n : Nat) (s : State) : Answer :=
  match findItem s.il.signals n with
  | some a => .done (b1 (codeAspect a) ++ bItem ((slotsWhere s (fun i => entrySignal s i == some n)).head?))
  | none => refuse .unknownItem

/-- The answer of READ-DISTRICTS (R42): the eight districts with no count before them (log entry 12). -/
def readDistricts (s : State) : Answer :=
  .done ((s.il.districts.map (fun d => bPort d.holder ++ bFlag d.demoOk)).flatten)

/-- The expiry of a running move timer (R32). -/
def pointExpiry (n : Nat) (s : State) : State :=
  if (ptAt s n).any (fun st => st.timer.isSome) then pointTimeout n s else s

/-- TAKE_DISTRICT (R38). -/
def execTakeDistrict (p : PortId) (s : State) : Host.Outcome State Fault Refusal :=
  .next (serveHead p (fun r s => match r with | .takeDistrict k => some (serveTake p k s) | _ => none) s)

/-- GIVE_DISTRICT (R39). -/
def execGiveDistrict (p : PortId) (s : State) : Host.Outcome State Fault Refusal :=
  .next (serveHead p (fun r s => match r with | .giveDistrict k => some (serveGive p k s) | _ => none) s)

/-- SET_DISTRICT_FLAGS (R40). -/
def execSetDistrictFlags (p : PortId) (s : State) : Host.Outcome State Fault Refusal :=
  .next (serveHead p (fun r s => match r with | .setDistrictFlags k v => some (serveFlags p k v s) | _ => none) s)

/-- MOVE_POINT (R33). -/
def execMovePoint (p : PortId) (s : State) : Host.Outcome State Fault Refusal :=
  .next (serveHead p (fun r s => match r with | .movePoint n pos => some (serveMovePoint p n pos s) | _ => none) s)

/-- READ_SECTION (R42). -/
def execReadSection (p : PortId) (tag : Byte) (n : Nat) (s : State) : Host.Outcome State Fault Refusal :=
  .next (immediate p tag (fun s => (s, some (readSection n s))) s)

/-- READ_POINT (R42). -/
def execReadPoint (p : PortId) (tag : Byte) (n : Nat) (s : State) : Host.Outcome State Fault Refusal :=
  .next (immediate p tag (fun s => (s, some (readPoint n s))) s)

/-- READ_SIGNAL (R42). -/
def execReadSignal (p : PortId) (tag : Byte) (n : Nat) (s : State) : Host.Outcome State Fault Refusal :=
  .next (immediate p tag (fun s => (s, some (readSignal n s))) s)

/-- READ_DISTRICTS (R42). -/
def execReadDistricts (p : PortId) (tag : Byte) (s : State) : Host.Outcome State Fault Refusal :=
  .next (immediate p tag (fun s => (s, some (readDistricts s))) s)

/-- POINT_MOVE_TIMEOUT (R32). -/
def execPointMoveTimeout (n : Nat) (s : State) : Host.Outcome State Fault Refusal := .next (pointExpiry n s)

end Sys2Proof.Machine
end

