-- ==== Sys2Proof/Machine/RouteCmds.lean ====
section
/-! DEFINITION. The commands of the Route Engine and of route instances (chapters 3 and 4). -/

namespace Sys2Proof.Machine

/-- The mode refuses a route request at the head of a queue at once (R43). -/
def refusesRoutes (s : State) : Bool := s.ctl.mode == .config || s.ctl.mode == .rest

/-- SET-ROUTE at the head of a port's queue: refused WRONG-MODE at once in CONFIG and REST; otherwise granted when the
arbiter's search comes to the port, and evaluated (R43, R46, R171). -/
def setRouteTurn (p : PortId) (s : State) : State :=
  match headRequest s p with
  | some q =>
    match q.req with
    | .setRoute route option =>
      if refusesRoutes s then
        (if hasPlace s p then refuseSet p q.tag route .wrongMode (popHead p s) else s)
      else if grantOf s = some (.port p) then
        afterGrant (.port p) (portSet p q.tag route option (popHead p s))
      else s
    | _ => s
  | none => s

/-- CANCEL-ROUTE at the head of a port's queue (R43, R46, R74). -/
def cancelRouteTurn (p : PortId) (s : State) : State :=
  match headRequest s p with
  | some q =>
    match q.req with
    | .cancelRoute route =>
      if refusesRoutes s then
        (if hasPlace s p then respond p q.tag (refuse .wrongMode) (popHead p s) else s)
      else if grantOf s = some (.port p) then
        afterGrant (.port p) (portCancel p q.tag route (popHead p s))
      else s
    | _ => s
  | none => s

/-- The level-2 group is granted and evaluates its oldest eligible retry entry (R48, R59). -/
def retryTurn (s : State) : State :=
  if grantOf s = some .g then
    match oldestEligible s with
    | some e => afterGrant .g (evalRetry e s)
    | none => s
  else s

/-- The level-2 group is granted with no eligible retry entry, and the Demonstration Unit's SET-ROUTE is evaluated
(R48, R144). -/
def demoSetTurn (s : State) : State :=
  if grantOf s = some .g ∧ (oldestEligible s).isNone ∧ demoSetWaits s then afterGrant .g (evalDemo s) else s

/-- The same for the CANCEL-ROUTE of the head of the cancel list (R48, R147). -/
def demoCancelTurn (s : State) : State :=
  if grantOf s = some .g ∧ (oldestEligible s).isNone ∧ demoSetWaits s = false ∧ demoCancelWaits s then
    afterGrant .g (evalDemoCancel s)
  else s

/-- The approach release timer of an instance runs in RELEASING with an origin. -/
def releasingFrom (s : State) (slot : Nat) (o : Origin) : Bool :=
  (instAt s slot).any (fun i => i.state == .releasing && i.origin == some o &&
    (match i.approach with | .running _ => true | _ => false))

/-- The overlap release timer of an instance runs. -/
def overlapRunning (s : State) (slot : Nat) : Bool :=
  (instAt s slot).any (fun i => match i.overlapTimer with | .running _ => true | _ => false)

/-- Whole seconds of a time in ms. -/
def seconds (ms : Nat) : Nat := ms / 1000

/-- The time left on an approach release timer that runs, in whole seconds (R66). -/
def approachLeft : ApproachTimer → Option Nat | .running n => some (seconds n) | _ => none
/-- The time left on an overlap release timer that runs, in whole seconds (R66). -/
def overlapLeft : OverlapTimer → Option Nat | .running n => some (seconds n) | _ => none

/-- The sections an instance holds with role and, for a route section, release mark (R65). -/
def heldSections (s : State) (slot : Nat) (i : Inst) : List (Nat × LockRole × Option Mark) :=
  ((instSections s i).zip i.marks).filterMap (fun e =>
    if lockedTo s slot .route e.1.1 then some (e.1.1, .route, some e.2) else none) ++
  (i.overlap.filter (lockedTo s slot .overlap)).map (fun n => (n, .overlap, none))

/-- The record of an instance as READ-INSTANCE reports it (R65, R66). -/
def bInstance (s : State) (slot : Nat) (i : Inst) : List Byte :=
  b1 i.route ++ b1 (codeParty i.requester) ++ b1 (codeInst i.state) ++ b1 (codeClaim i.claim) ++
  bList (fun e => b1 e.1 ++ b1 (codeRole e.2.1) ++ bOpt (e.2.2.map codeMark)) (heldSections s slot i) ++
  bList (fun m => b1 (codeMark m)) i.marks ++ bItem i.firstPassing ++ bItem i.entering ++ b1 (codeReleaseOrigin i.origin) ++
  bOpt (approachLeft i.approach) ++ bOpt (overlapLeft i.overlapTimer)

/-- The answer of READ-INSTANCE: 0 for a free slot, or 1 and the record (R65, R66). -/
def readInstance (slot : Nat) (s : State) : Answer :=
  if slot < Config.slots then
    match instAt s slot with
    | some i => .done (b1 1 ++ bInstance s slot i)
    | none => .done (b1 0)
  else refuse .unknownItem

/-- The answer of READ-ROUTE-ENGINE (R65). -/
def readEngine (s : State) : Answer :=
  .done (b1 (codeMember s.engine.pointer) ++ b1 s.engine.batch ++
    bList (fun (e : RetryEntry) => b1 e.route ++ b1 (codePort e.port) ++ bFlag e.eligible ++ b1 (codeReason e.reason) ++
      b2 (seconds e.left)) s.engine.retry)

/-- SET_ROUTE (R43, R50 to R56). -/
def execSetRoute (p : PortId) (s : State) : Host.Outcome State Fault Refusal := .next (setRouteTurn p s)

/-- CANCEL_ROUTE (R43, R74 to R79). -/
def execCancelRoute (p : PortId) (s : State) : Host.Outcome State Fault Refusal := .next (cancelRouteTurn p s)

/-- RETRY_ENTRY_EVALUATION (R59). -/
def execRetryEntryEvaluation (s : State) : Host.Outcome State Fault Refusal := .next (retryTurn s)

/-- DEMO_SET_ROUTE (R144). -/
def execDemoSetRoute (s : State) : Host.Outcome State Fault Refusal := .next (demoSetTurn s)

/-- DEMO_CANCEL_ROUTE (R147). -/
def execDemoCancelRoute (s : State) : Host.Outcome State Fault Refusal := .next (demoCancelTurn s)

/-- READ_INSTANCE (R65, R66). -/
def execReadInstance (p : PortId) (tag : Byte) (slot : Nat) (s : State) : Host.Outcome State Fault Refusal :=
  .next (immediate p tag (fun s => (s, some (readInstance slot s))) s)

/-- READ_ROUTE_ENGINE (R65). -/
def execReadRouteEngine (p : PortId) (tag : Byte) (s : State) : Host.Outcome State Fault Refusal :=
  .next (immediate p tag (fun s => (s, some (readEngine s))) s)

/-- APPROACH_RELEASE_EXPIRY_SET (R78). -/
def execApproachReleaseExpirySet (slot : Nat) (s : State) : Host.Outcome State Fault Refusal :=
  .next (if releasingFrom s slot .set then releaseAtOnce slot .timer s else s)

/-- APPROACH_RELEASE_EXPIRY_OCCUPIED (R80). -/
def execApproachReleaseExpiryOccupied (slot : Nat) (s : State) : Host.Outcome State Fault Refusal :=
  .next (if releasingFrom s slot .occupied then expireOccupied slot s else s)

/-- OVERLAP_RELEASE_TIMEOUT (R73). -/
def execOverlapReleaseTimeout (slot : Nat) (s : State) : Host.Outcome State Fault Refusal :=
  .next (if overlapRunning s slot then overlapExpiry slot s else s)

/-- RETRY_LIFETIME_EXPIRY (R60). -/
def execRetryLifetimeExpiry (route : Nat) (s : State) : Host.Outcome State Fault Refusal :=
  .next (expireEntries (fun e => e.route == route) .lifetime s)

end Sys2Proof.Machine
end

