-- ==== Sys2Proof/Machine/TrainCmds.lean ====
section
/-! DEFINITION. The commands of the Train Tracker and the Speed Supervisor (chapters 5 and 6). -/

namespace Sys2Proof.Machine

/-- The train is described (R84). -/
def trainDescribed (s : State) (t : Nat) : Bool × Answer := ((trainAt s t).isSome, refuse .unknownItem)

/-- A HELD refusal that concerns a train carries its driver (Table 12-3). -/
def heldTrain (s : State) (t : Nat) : Answer := .refused .held (.held (driverOf s t))

/-- The supervision state at placement (R101, Table 6-1). -/
def placedSup (s : State) (n : Nat) : Sup :=
  { offset := secLength s n * 10, auth := [{ sec := n, route := none }], permitted := 0, term := .disrupted,
    demanded := 0, output := 0, settled := 0, intervening := false, sense := .forward, refresh := Config.refreshDue, notified := 0,
    timer := Config.supervisionMs }

/-- A section that PLACE-TRAIN accepts: CLEAR with occupant none, or OCCUPIED with occupant UNKNOWN (R85). -/
def placeable (s : State) (n : Nat) : Bool :=
  (secAt s n).any (fun st => (st.occ == .clear && st.occupant == .none) || (st.occ == .occupied && st.occupant == .unknown))

/-- The work of PLACE-TRAIN (R85). -/
def placeTrain (t n : Nat) (d : Dir) (s : State) : State :=
  let s1 := updateTrain s t (fun r => { r with
    state := .placed, list := [n], cause := none, pendRev := false, heading := placedHeading (isDeckSection s n) d,
    sup := some (placedSup s n) })
  noteTrain t .placed (giveOccupant n (.train t) s1)

/-- PLACE-TRAIN: the checks in the order of R85; a direction code that names none is refused with a free reason when none
of them fails (log entry 3). -/
def servePlace (p : PortId) (t n direction : Nat) (s : State) : State × Answer :=
  checked
    [whileRunning s, ((trainAt s t).isSome && (secAt s n).isSome, refuse .unknownItem),
     (holds s p (secDistrict s n), refuse .notHolder),
     ((trainAt s t).any (fun r => r.state == .absent), heldTrain s t), (placeable s n, refuse .occupied)] s
    (fun s => withCode 0x28 (dirOfCode direction) s (fun d s => (placeTrain t n d s, done)))

/-- A section given up by a train that is removed (R86). -/
def giveUpSection (n : Nat) (s : State) : State :=
  giveOccupant n (if (secAt s n).any (fun st => st.occ == .occupied) then .unknown else .none) s

/-- The work of REMOVE-TRAIN for a train that is not ABSENT (R86, R101, R72).  TRAIN REMOVED is raised before the overlap
release timers start, so with an overlap release time of 0 it stands before ROUTE OVERLAP-RELEASED: the model's choice,
because no rule orders the two (log entry 10). -/
def removeTrain (t : Nat) (s : State) : State :=
  let list := ((trainAt s t).map (·.list)).getD []
  let s1 := list.foldl (fun s n => giveUpSection n s) s
  let s2 := match (trainAt s1 t).bind (·.sup) with
    | some u => if u.intervening then raise (.supervision (.interventionEnd t u.permitted)) s1 else s1
    | none => s1
  let s3 := updateTrain s2 t (fun r => { r with
    state := .absent, list := [], driver := none, throttle := 0, pendRev := false, cause := none, sup := none })
  enteringGone t (noteTrain t .removed s3)

/-- REMOVE-TRAIN (R86). -/
def serveRemove (p : PortId) (t : Nat) (s : State) : State × Answer :=
  checked
    [whileRunning s, trainDescribed s t,
     ((driverOf s t).all (fun q => q == .port p), heldTrain s t), (settledOf s t == 0, refuse .busy)] s
    (fun s => if (trainAt s t).any (fun r => r.state == .absent) then (s, done) else (removeTrain t s, done))

/-- The train of an entry in the demonstration queue (R87). -/
def queuedTrain (s : State) (t : Nat) : Bool :=
  s.demo.queue.any (fun e => (planEntry s e.plan).any (fun pl => pl.train == t))

/-- TAKE-TRAIN (R87). -/
def serveTakeTrain (p : PortId) (t : Nat) (s : State) : State × Answer :=
  checked [whileRunning s, trainDescribed s t] s (fun s =>
    if driverOf s t = some (.port p) then (s, done)
    else checked [((driverOf s t).isNone && !queuedTrain s t, heldTrain s t)] s (fun s =>
      (noteTrain t .driver (updateTrain s t (fun r => { r with
        driver := some (.port p), throttle := 0, pendRev := false })), done)))

/-- GIVE-TRAIN (R88). -/
def serveGiveTrain (p : PortId) (t : Nat) (s : State) : State × Answer :=
  checked [whileRunning s, trainDescribed s t, (driverOf s t == some (.port p), refuse .notDriver)] s
    (fun s => (releaseTrain t s, done))

/-- An accepted THROTTLE: value stored, a reversal asked or withdrawn, a pending REST abandoned by a value above 0
(R13, R89). -/
def setThrottle (t value : Nat) (d : Dir) (s : State) : State :=
  let s1 := updateTrain s t (fun r => { r with
    throttle := value, pendRev := requestedHeading r.heading d != r.heading })
  if 0 < value ∧ s1.ctl.pendingRest.isSome then abandonRest (.throttle t) s1 else s1

/-- THROTTLE (R89): an accepted one is not answered; a direction code that names none is refused with a free reason when
none of the checks of R89 fails (log entry 3). -/
def serveThrottle (p : PortId) (t value direction : Nat) (s : State) : State × Option Answer :=
  if !runsIn s.ctl.mode then (s, some (refuse .wrongMode))
  else if (trainAt s t).isNone then (s, some (refuse .unknownItem))
  else if driverOf s t ≠ some (.port p) then (s, some (refuse .notDriver))
  else match dirOfCode direction with
    | none => (s, some (refuseCode 0x2C))
    | some d => (setThrottle t value d s, none)

/-- The list is a single section whose accepted occupancy is CLEAR (R99). -/
def loneClear (s : State) (r : TrainRec) : Bool :=
  match r.list with
  | [n] => (secAt s n).any (fun st => st.occ == .clear)
  | _ => false

/-- RESTORE-TRAIN (R99). -/
def serveRestore (p : PortId) (t : Nat) (s : State) : State × Answer :=
  checked
    [whileRunning s, trainDescribed s t,
     (driverOf s t == some (.port p) || (trainHead s t).any (fun h => holds s p (secDistrict s h)), refuse .notHolder),
     ((trainAt s t).any (fun r => r.state != .absent && !loneClear s r), refuse .vanished)] s
    (fun s =>
      if isPlaced s t then (s, done)
      else (noteTrain t .restored (updateTrain s t (fun r => { r with
        state := .placed, cause := none, throttle := 0 })), done))

/-- The answer of READ-TRAIN, in the order of R100. -/
def readTrain (t : Nat) (s : State) : Answer :=
  match trainAt s t, trainEntry s t with
  | some r, some e =>
    .done (b2 e.addr ++ b2 e.vmax ++ b2 e.accel ++ b2 e.brake ++ b1 (codeTrain r.state) ++ bList b1 r.list ++
      b1 (codeHeading r.heading) ++ bParty r.driver ++ b1 r.throttle ++ bFlag r.pendRev ++ b1 (codeCause r.cause) ++
      bSup s.freeSeed (r.sup.map (fun u => (u.offset, u.output, u.permitted))))
  | _, _ => refuse .unknownItem

/-- The distance READ-SUPERVISION reports: from the current head to the end of the authority list of the most recent expiry
(R107, R119).  The head has stepped along that list, or has fallen back from it by the loss of the head section (R97); a
head that has stepped beyond the list has no distance to its end, and the value is free (R93; log entry 4).  So it is where a
section that counts is undescribed, which R7 allows of a kept list between a commit and the next expiry: no rule gives such a
section a length (log entry 4). -/
def reportedDistance (s : State) (head offset : Nat) (auth : List AuthSec) : Nat :=
  let through := fun (l : List AuthSec) =>
    if l.all (fun x => (secEntry s x.sec).isSome) then headRemainder s head offset + (l.map (fun x => secLength s x.sec)).sum
    else Config.unstatedDistance s.freeSeed
  if auth.any (fun x => x.sec == head) then through ((auth.dropWhile (fun x => x.sec != head)).drop 1)
  else if offset = 0 then Config.unstatedDistance s.freeSeed
  else through auth

/-- The answer of READ-SUPERVISION: 0 for an ABSENT train, or 1 and the state (R119). -/
def readSupervision (t : Nat) (s : State) : Answer :=
  match trainAt s t with
  | none => refuse .unknownItem
  | some r =>
    match r.sup, headOf r.list with
    | some u, some h =>
      .done (b1 1 ++ b3 u.offset ++ b2 (u.offset / 20) ++ bList (fun x => b1 x.sec) u.auth ++
        b3 (reportedDistance s h u.offset u.auth) ++ b2 u.permitted ++ b1 (codeTerm u.term) ++ bItem (termSection u.term) ++
        b2 u.demanded ++ b2 u.output ++ bFlag u.intervening ++ b1 (codeDrive u.sense) ++ b1 u.refresh)
    | _, _ => .done (b1 0)

/-- PLACE_TRAIN (R85). -/
def execPlaceTrain (p : PortId) (s : State) : Host.Outcome State Fault Refusal :=
  .next (serveHead p (fun r s => match r with | .placeTrain t n d => some (servePlace p t n d s) | _ => none) s)

/-- REMOVE_TRAIN (R86). -/
def execRemoveTrain (p : PortId) (s : State) : Host.Outcome State Fault Refusal :=
  .next (serveHead p (fun r s => match r with | .removeTrain t => some (serveRemove p t s) | _ => none) s)

/-- TAKE_TRAIN (R87). -/
def execTakeTrain (p : PortId) (s : State) : Host.Outcome State Fault Refusal :=
  .next (serveHead p (fun r s => match r with | .takeTrain t => some (serveTakeTrain p t s) | _ => none) s)

/-- GIVE_TRAIN (R88). -/
def execGiveTrain (p : PortId) (s : State) : Host.Outcome State Fault Refusal :=
  .next (serveHead p (fun r s => match r with | .giveTrain t => some (serveGiveTrain p t s) | _ => none) s)

/-- THROTTLE (R89). -/
def execThrottle (p : PortId) (tag : Byte) (t value direction : Nat) (s : State) : Host.Outcome State Fault Refusal :=
  .next (immediate p tag (serveThrottle p t value direction) s)

/-- RESTORE_TRAIN (R99). -/
def execRestoreTrain (p : PortId) (s : State) : Host.Outcome State Fault Refusal :=
  .next (serveHead p (fun r s => match r with | .restoreTrain t => some (serveRestore p t s) | _ => none) s)

/-- READ_TRAIN (R100): the figures of an ABSENT train are free values, so the counter of free values moves on. -/
def execReadTrain (p : PortId) (tag : Byte) (t : Nat) (s : State) : Host.Outcome State Fault Refusal :=
  .next (immediate p tag (fun s => (s.withSeed (s.freeSeed + 1), some (readTrain t s))) s)

/-- READ_SUPERVISION (R119): the distance may be a free value, so the counter of free values moves on (log entry 4). -/
def execReadSupervision (p : PortId) (tag : Byte) (t : Nat) (s : State) : Host.Outcome State Fault Refusal :=
  .next (immediate p tag (fun s => (s.withSeed (s.freeSeed + 1), some (readSupervision t s))) s)

/-- SUPERVISION_EXPIRY (R102). -/
def execSupervisionExpiry (t : Nat) (s : State) : Host.Outcome State Fault Refusal := .next (superviseTrain t s)

end Sys2Proof.Machine
end

