-- ==== Sys2Proof/Machine/DeckCmds.lean ====
section
/-! DEFINITION. The commands of the Deck Controller (chapter 7). -/

namespace Sys2Proof.Machine

/-- TURN-DECK to a deck that is ALIGNED or UNPROVEN, after the holder check (R123).  A sense code that names none is looked
at only by a move that would start (log entry 3). -/
def turnNow (p : PortId) (e : DeckEntry) (road sense : Nat) (s : State) : State × Answer :=
  if deckAligned s = some road then (s, done)
  else checked [(s.ctl.allStop.isNone, refuse .estopActive)] s (fun s =>
    match startFails s e with
    | some why => (s, refuse why)
    | none => withCode 0x2E (senseOfCode sense) s (fun sn s => (startMove road sn (.port p) s, done)))

/-- TURN-DECK to a deck that is MOVING, after the holder check (R125).  A sense code that names none is looked at only by a
request that an empty latch would take (log entry 3). -/
def latchTurn (p : PortId) (road sense : Nat) (s : State) : State × Answer :=
  if (s.deck.bind (·.latch)).isSome then (s, refuse .busy)
  else withCode 0x2E (senseOfCode sense) s (fun sn s =>
    (noteDeck .latched (updateDeck s (fun d => { d with latch := some { road := road, sense := sn, port := p } })),
     .latched))

/-- TURN-DECK (R123, R125). -/
def serveTurnDeck (p : PortId) (road sense : Nat) (s : State) : State × Answer :=
  checked [whileRunning s] s (fun s =>
    match (desc s).deck with
    | none => (s, refuse .unknownItem)
    | some e =>
      checked [(decide (road < e.n), refuse .unknownItem), (holds s p (deckDistrict s), refuse .notHolder)] s (fun s =>
        if deckMoving s then latchTurn p road sense s else turnNow p e road sense s))

/-- The state fields of READ-DECK: state, alignment or from index, target, resolved sense. -/
def bDeckPos (x : DeckPos) : List Byte :=
  b1 (codeDeckPos x) ++ bOpt (deckIndex x) ++ bOpt (match x with | .moving _ t _ => some t | _ => none) ++
  bOpt ((deckSense x).map codeSense)

/-- The move requester: instance and party. -/
def bMoveReq (r : Option MoveReq) : List Byte :=
  bItem (r.bind (fun x => match x with | .inst i _ => some i | .port _ => none)) ++ bParty (r.map moveParty)

/-- The roads of the deck, each with its road section and meeting end. -/
def bRoads (e : DeckEntry) : List Byte :=
  bList (fun k => match findItem e.roads k with
    | some x => bRoad x
    | none => bItem none ++ bOpt none) (List.range e.n)

/-- The answer of READ-DECK (R134). -/
def readDeck (s : State) : Answer :=
  match s.deck, (desc s).deck with
  | some d, some e =>
    .done (bDeckPos d.pos ++ bMoveReq d.req ++ b3 (d.timer.getD 0) ++ bItem (d.latch.map (·.road)) ++
      bOpt (d.latch.map (fun l => codeReqSense l.sense)) ++ bPort (d.latch.map (·.port)) ++ bOpt d.reported ++
      b1 d.doubt ++ b1 e.n ++ b1 e.sec ++ bRoads e)
  | _, _ => refuse .unknownItem

/-- TURN_DECK (R123, R125). -/
def execTurnDeck (p : PortId) (s : State) : Host.Outcome State Fault Refusal :=
  .next (serveHead p (fun r s => match r with | .turnDeck k sn => some (serveTurnDeck p k sn s) | _ => none) s)

/-- READ_DECK (R134). -/
def execReadDeck (p : PortId) (tag : Byte) (s : State) : Host.Outcome State Fault Refusal :=
  .next (immediate p tag (fun s => (s, some (readDeck s))) s)

/-- DECK_MOVE_TIMEOUT (R128). -/
def execDeckMoveTimeout (s : State) : Host.Outcome State Fault Refusal := .next (moveTimeout s)

end Sys2Proof.Machine
end

