-- ==== Sys2Proof/Machine/DemoCmds.lean ====
section
/-! DEFINITION. The commands of the Demonstration Unit (chapter 8). -/

namespace Sys2Proof.Machine

/-- Where a plan stands (R140, R141). -/
inductive PlanPlace | pending | accepted | running | nowhere
deriving DecidableEq, Repr

/-- The place of a plan in the queue or the run. -/
def planPlace (s : State) (n : Nat) : PlanPlace :=
  if s.demo.run.any (fun r => r.plan == n) then .running
  else match s.demo.queue.find? (fun e => e.plan == n) with
    | some e => if e.accepted then .accepted else .pending
    | none => .nowhere

/-- The plan and sender checks of PASS-DEMO and VETO-DEMO (R140, R141). -/
def screeningChecks (s : State) (p : PortId) (n : Nat) : List (Bool × Answer) :=
  [whileRunning s, ((planEntry s n).isSome, refuse .unknownItem),
   ((desc s).roles.screening == some p, refuse .notHolder)]

/-- PASS-DEMO (R140). -/
def servePass (p : PortId) (n : Nat) (s : State) : State × Answer :=
  checked (screeningChecks s p n) s (fun s =>
    match planPlace s n with
    | .pending => (acceptEntry n .pass s, done)
    | .accepted | .running => (s, done)
    | .nowhere => (s, refuse .unknownItem))

/-- VETO-DEMO (R141). -/
def serveVeto (p : PortId) (n : Nat) (s : State) : State × Answer :=
  checked (screeningChecks s p n) s (fun s =>
    match planPlace s n with
    | .pending => (leaveQueue n (raise (.demo (.vetoed n)) (count .demoVetoed (some .demo) none s)), done)
    | .accepted => (s, refuse .tooLate)
    | .running => (abort .veto s, done)
    | .nowhere => (s, refuse .unknownItem))

/-- The expiry of a PENDING entry's screening timer (R140). -/
def screeningExpiry (n : Nat) (s : State) : State :=
  if s.demo.queue.any (fun e => e.plan == n && e.screening.isSome) then acceptEntry n .window s else s

/-- The admission conditions, in the order of R142. -/
def allConditions : List AdmCond := [.closed, .run, .cancels, .trainState, .driver, .sec, .moving]

/-- The expiry of the head entry's admission timer (R142); when every condition holds the condition reported is a free
value (log entry 5). -/
def admissionExpiry (s : State) : State :=
  match s.demo.queue with
  | e :: _ =>
    if e.admission.isSome then
      let cond := (admissionFails s e).getD
        (entryAt allConditions (Config.unstatedCondition s.freeSeed).val .closed)
      leaveQueue e.plan (raise (.demo (.unavailable e.plan cond)) (s.withSeed (s.freeSeed + 1)))
    else s
  | [] => s

/-- The expiry of the run-limit timer, which does not run while it is frozen (R146). -/
def runExpiry (s : State) : State :=
  if s.demo.run.any (fun r => !r.paused) then abort .runLimit s else s

/-- The time left on an entry's screening or admission timer, in whole seconds; absent when neither runs (R148). -/
def entryLeft (e : DemoEntry) : Option Nat := (if e.accepted then e.admission else e.screening).map seconds

/-- The route request in hand and its reason (R135). -/
def bHand : Hand → List Byte
  | .none => b1 0 ++ bOpt none
  | .fresh => b1 1 ++ bOpt none
  | .blocked r => b1 2 ++ b1 (codeReason r)

/-- The running record, or the mark absent; the time left on its limit is in whole seconds (R148; log entry 12). -/
def bRun : Option Run → List Byte
  | none => b1 0
  | some r => b1 1 ++ b1 r.plan ++ b1 r.train ++ b1 r.next ++ bHand r.hand ++
      bList (fun x => b1 x.1 ++ b1 x.2) r.insts ++ b2 (seconds r.left) ++ bFlag r.paused

/-- The level READ-DEMO shows for a button: a button whose module is FAILED reads released (R138, R152). -/
def shownLevel (s : State) (plan : Nat) (b : Button) : Option Level :=
  if (planEntry s plan).any (fun e => (moduleAt s e.addr).state == .failed) then some .released else b.level

/-- The answer of READ-DEMO (R148): OPEN 0, CLOSED 1. -/
def readDemo (s : State) : Answer :=
  .done (b1 (if isOpen s.demo.failing then 0 else 1) ++ bFailing s.demo.failing ++
    bList (fun (e : Nat × Button) =>
      b1 e.1 ++ b1 (codeLevel (shownLevel s e.1 e.2)) ++ b1 (codeLamp e.2.lamp)) s.demo.buttons ++
    bList (fun e => b1 e.plan ++ b1 (if e.accepted then 1 else 0) ++ bItem (entryLeft e)) s.demo.queue ++
    bRun s.demo.run ++ bList b1 s.demo.cancel)

/-- PASS_DEMO (R140). -/
def execPassDemo (p : PortId) (s : State) : Host.Outcome State Fault Refusal :=
  .next (serveHead p (fun r s => match r with | .passDemo n => some (servePass p n s) | _ => none) s)

/-- VETO_DEMO (R141). -/
def execVetoDemo (p : PortId) (s : State) : Host.Outcome State Fault Refusal :=
  .next (serveHead p (fun r s => match r with | .vetoDemo n => some (serveVeto p n s) | _ => none) s)

/-- READ_DEMO (R148). -/
def execReadDemo (p : PortId) (tag : Byte) (s : State) : Host.Outcome State Fault Refusal :=
  .next (immediate p tag (fun s => (s, some (readDemo s))) s)

/-- SCREENING_TIMEOUT (R140). -/
def execScreeningTimeout (n : Nat) (s : State) : Host.Outcome State Fault Refusal := .next (screeningExpiry n s)

/-- ADMISSION_TIMEOUT (R142). -/
def execAdmissionTimeout (s : State) : Host.Outcome State Fault Refusal := .next (admissionExpiry s)

/-- RUN_LIMIT_EXPIRY (R146). -/
def execRunLimitExpiry (s : State) : Host.Outcome State Fault Refusal := .next (runExpiry s)

end Sys2Proof.Machine
end

