-- ==== Sys2Proof/Machine/RingCmds.lean ====
section
/-! DEFINITION. The commands of the Ring Master (chapter 9) and of the Counter Unit (chapter 11). -/

namespace Sys2Proof.Machine

/-- The setting SET-SWEEP-MODE stores (R156). -/
def sweepStored (mode period : Nat) : SweepSetting := { mode := sweepOfCode mode, period := clampTo 40 1000 period }

/-- SET-SWEEP-MODE: the stored values become the pending setting; DONE carries them (R156). -/
def serveSweepMode (mode period : Nat) (s : State) : State × Answer :=
  checked [whileRunning s] s (fun s =>
    (s.withRing { s.ring with pendingSetting := some (sweepStored mode period) },
     .done (b1 (codeSweep (sweepStored mode period).mode) ++ b2 (sweepStored mode period).period)))

/-- A sweep setting, or none. -/
def bSetting (o : Option SweepSetting) : List Byte :=
  match o with
  | some v => b1 (codeSweep v.mode) ++ b2 v.period
  | none => bOpt none ++ bItem none

/-- The answer of READ-MODULE (R163): the last accepted data are the payload bytes of the STATUS frame (Table 12-6) behind
a flag byte, which is the model's layout (log entry 12). -/
def readModule (a : Nat) (s : State) : Answer :=
  if a < 64 then
    let m := moduleAt s a
    .done (b1 (codeModKind m.kind) ++ b1 (codeModState m.state) ++ b1 m.misses ++
      (match m.data with | some l => b1 1 ++ l | none => b1 0))
  else refuse .unknownItem

/-- The answer of READ-RING (R163). -/
def readRing (s : State) : Answer :=
  let r := s.ring
  .done (bSetting (some r.running) ++ bSetting r.pendingSetting ++
    bSetting (if s.ctl.mode = .rest then some r.service else none) ++ b1 r.postCount ++ bFlag r.overloaded ++
    b1 r.stopRun.length ++ b1 r.queue.length ++ bOpt (r.slot.map codeCmd) ++
    bItem (r.slot.bind (fun c => targetItem (cmdTarget c))) ++ bOpt (r.power.map (fun on => if on then 1 else 0)) ++
    bFlag r.mismatch)

/-- A programmable counter's number (R181). -/
def programmable (c : Nat) : Bool := 8 ≤ c && c ≤ 11

/-- SELECT-COUNTER: the selection and the zeroing are one piece of work (R181, R184). -/
def serveSelect (p : PortId) (c ev q : Nat) (s : State) : State × Answer :=
  match eventOfCode ev, qualifierOfCode q with
  | some e, some x =>
    checked [(programmable c, refuse .unknownItem)] s (fun s =>
      let sel : Selection := { event := e, qual := x }
      (raise (.counter (.selected c sel p)) (s.withCounters { s.counters with
        sel := s.counters.sel.set (c - 8) sel, values := s.counters.values.set c 0#32,
        half := s.counters.half.set c false }), done))
  | _, _ => (s, refuse .unknownItem)

/-- A counter decremented: saturating at 0, with its half-full flag (R183, R184). -/
def decrement (c d : Nat) (k : Counters) : Counters :=
  let v := decremented (entryAt k.values c 0#32) d
  { k with values := k.values.set c v,
           half := k.half.set c (entryAt k.half c false && decide (Config.halfFull ≤ v.toNat)) }

/-- DECREMENT-COUNTER: DONE with the value after the decrement (R183). -/
def serveDecrement (c d : Nat) (s : State) : State × Answer :=
  checked [(decide (c < 12), refuse .unknownItem)] s (fun s =>
    (s.withCounters (decrement c d s.counters),
     .done (b4 (decremented (entryAt s.counters.values c 0#32) d).toNat)))

/-- The answer of READ-COUNTERS (R182): values, selections and flags with no count before them (log entry 12). -/
def readCounters (s : State) : Answer :=
  .done ((s.counters.values.map (fun v => b4 v.toNat)).flatten ++ (s.counters.sel.map bSel).flatten ++
    (s.counters.half.map bFlag).flatten)

/-- SET_SWEEP_MODE (R156). -/
def execSetSweepMode (p : PortId) (s : State) : Host.Outcome State Fault Refusal :=
  .next (serveHead p (fun r s => match r with | .setSweepMode m per => some (serveSweepMode m per s) | _ => none) s)

/-- READ_MODULE (R163). -/
def execReadModule (p : PortId) (tag : Byte) (a : Nat) (s : State) : Host.Outcome State Fault Refusal :=
  .next (immediate p tag (fun s => (s, some (readModule a s))) s)

/-- READ_RING (R163). -/
def execReadRing (p : PortId) (tag : Byte) (s : State) : Host.Outcome State Fault Refusal :=
  .next (immediate p tag (fun s => (s, some (readRing s))) s)

/-- SWEEP_TIMER_EXPIRY (R154, R157). -/
def execSweepTimerExpiry (s : State) : Host.Outcome State Fault Refusal :=
  .next (if s.ring.timer.isSome then sweepExpiry s else s)

/-- POSTPONED_PARTIAL_SWEEP (R157). -/
def execPostponedPartialSweep (s : State) : Host.Outcome State Fault Refusal :=
  .next (if s.ring.postponed && !s.ring.underWay then beginPartial s else s)

/-- POLL (R150, R154). -/
def execPoll (s : State) : Host.Outcome State Fault Refusal := .next (sendPoll s)

/-- GOOD_ANSWER (R151): taken only in an open window, and only when the answer is good (R150). -/
def execGoodAnswer (frame : List Byte) (s : State) : Host.Outcome State Fault Refusal :=
  .next (match s.ring.window with
    | some a => if goodFrame a (moduleAt s a).kind frame then takeAnswer a frame s else s
    | none => s)

/-- MISS (R152): taken only in an open window, and only when what was received is no good answer (R150). -/
def execMiss (received : List Byte) (s : State) : Host.Outcome State Fault Refusal :=
  .next (match s.ring.window with
    | some a => if goodFrame a (moduleAt s a).kind received then s else takeMiss a s
    | none => s)

/-- RING_COMMAND_SENT (R162). -/
def execRingCommandSent (s : State) : Host.Outcome State Fault Refusal := .next (sendCommand s)

/-- SELECT_COUNTER (R181). -/
def execSelectCounter (p : PortId) (s : State) : Host.Outcome State Fault Refusal :=
  .next (serveHead p (fun r s => match r with | .selectCounter c ev q => some (serveSelect p c ev q s) | _ => none) s)

/-- DECREMENT_COUNTER (R183). -/
def execDecrementCounter (p : PortId) (s : State) : Host.Outcome State Fault Refusal :=
  .next (serveHead p (fun r s => match r with | .decrementCounter c d => some (serveDecrement c d s) | _ => none) s)

/-- READ_COUNTERS (R182). -/
def execReadCounters (p : PortId) (tag : Byte) (s : State) : Host.Outcome State Fault Refusal :=
  .next (immediate p tag (fun s => (s, some (readCounters s))) s)

end Sys2Proof.Machine
end

