-- ==== Sys2Proof/Machine/Dispatch.lean ====
section
/-! DEFINITION. One arm for each command of the block. -/

namespace Sys2Proof.Machine

open Sys2Proof

/-- The effect of a command on everything but the queue of waiting commands. -/
def exec (i : Instr) (s : State) : Host.Outcome State Fault Refusal :=
  match i with
  | .powerOnReset estopAsserted => Sys2Proof.Machine.execPowerOnReset estopAsserted s
  | .emergencyStopAsserted => Sys2Proof.Machine.execEmergencyStopAsserted s
  | .emergencyStopReleased => Sys2Proof.Machine.execEmergencyStopReleased s
  | .breakLine p => Sys2Proof.Machine.execBreakLine p s
  | .malformedFrame p chars => Sys2Proof.Machine.execMalformedFrame p chars s
  | .frameGapTimeout p chars next => Sys2Proof.Machine.execFrameGapTimeout p chars next s
  | .silenceTimeout p => Sys2Proof.Machine.execSilenceTimeout p s
  | .orderedRequest p tag req => Sys2Proof.Machine.execOrderedRequest p tag req s
  | .holdTimerExpiry p => Sys2Proof.Machine.execHoldTimerExpiry p s
  | .holdOffExpiry p => Sys2Proof.Machine.execHoldOffExpiry p s
  | .transmitHold p => Sys2Proof.Machine.execTransmitHold p s
  | .transmitResponse p => Sys2Proof.Machine.execTransmitResponse p s
  | .transmitNotice p => Sys2Proof.Machine.execTransmitNotice p s
  | .beginConfig p => Sys2Proof.Machine.execBeginConfig p s
  | .loadSection p => Sys2Proof.Machine.execLoadSection p s
  | .loadPoint p => Sys2Proof.Machine.execLoadPoint p s
  | .loadSignal p => Sys2Proof.Machine.execLoadSignal p s
  | .loadRoute p => Sys2Proof.Machine.execLoadRoute p s
  | .loadRoutePoints p => Sys2Proof.Machine.execLoadRoutePoints p s
  | .loadDistrict p => Sys2Proof.Machine.execLoadDistrict p s
  | .loadDeck p => Sys2Proof.Machine.execLoadDeck p s
  | .loadDeckRoad p => Sys2Proof.Machine.execLoadDeckRoad p s
  | .loadTrain p => Sys2Proof.Machine.execLoadTrain p s
  | .loadPlan p => Sys2Proof.Machine.execLoadPlan p s
  | .loadTraction p => Sys2Proof.Machine.execLoadTraction p s
  | .loadPortRoles p => Sys2Proof.Machine.execLoadPortRoles p s
  | .loadParameter p => Sys2Proof.Machine.execLoadParameter p s
  | .commitConfig p => Sys2Proof.Machine.execCommitConfig p s
  | .abandonConfig p => Sys2Proof.Machine.execAbandonConfig p s
  | .readDescription p tag table item => Sys2Proof.Machine.execReadDescription p tag table item s
  | .rest p => Sys2Proof.Machine.execRest p s
  | .wake p => Sys2Proof.Machine.execWake p s
  | .reconfigure p => Sys2Proof.Machine.execReconfigure p s
  | .allStop p tag => Sys2Proof.Machine.execAllStop p tag s
  | .resume p tag => Sys2Proof.Machine.execResume p tag s
  | .readMode p tag => Sys2Proof.Machine.execReadMode p tag s
  | .present p tag => Sys2Proof.Machine.execPresent p tag s
  | .setSilence p tag ms => Sys2Proof.Machine.execSetSilence p tag ms s
  | .holdOff p tag quanta => Sys2Proof.Machine.execHoldOff p tag quanta s
  | .setSubscription p tag mask => Sys2Proof.Machine.execSetSubscription p tag mask s
  | .setTrigger p tag value => Sys2Proof.Machine.execSetTrigger p tag value s
  | .takeDistrict p => Sys2Proof.Machine.execTakeDistrict p s
  | .giveDistrict p => Sys2Proof.Machine.execGiveDistrict p s
  | .setDistrictFlags p => Sys2Proof.Machine.execSetDistrictFlags p s
  | .movePoint p => Sys2Proof.Machine.execMovePoint p s
  | .setRoute p => Sys2Proof.Machine.execSetRoute p s
  | .cancelRoute p => Sys2Proof.Machine.execCancelRoute p s
  | .retryEntryEvaluation => Sys2Proof.Machine.execRetryEntryEvaluation s
  | .demoSetRoute => Sys2Proof.Machine.execDemoSetRoute s
  | .demoCancelRoute => Sys2Proof.Machine.execDemoCancelRoute s
  | .placeTrain p => Sys2Proof.Machine.execPlaceTrain p s
  | .removeTrain p => Sys2Proof.Machine.execRemoveTrain p s
  | .takeTrain p => Sys2Proof.Machine.execTakeTrain p s
  | .giveTrain p => Sys2Proof.Machine.execGiveTrain p s
  | .throttle p tag train value direction => Sys2Proof.Machine.execThrottle p tag train value direction s
  | .restoreTrain p => Sys2Proof.Machine.execRestoreTrain p s
  | .turnDeck p => Sys2Proof.Machine.execTurnDeck p s
  | .passDemo p => Sys2Proof.Machine.execPassDemo p s
  | .vetoDemo p => Sys2Proof.Machine.execVetoDemo p s
  | .setSweepMode p => Sys2Proof.Machine.execSetSweepMode p s
  | .selectCounter p => Sys2Proof.Machine.execSelectCounter p s
  | .decrementCounter p => Sys2Proof.Machine.execDecrementCounter p s
  | .readCounters p tag => Sys2Proof.Machine.execReadCounters p tag s
  | .readSection p tag section_ => Sys2Proof.Machine.execReadSection p tag section_ s
  | .readPoint p tag point => Sys2Proof.Machine.execReadPoint p tag point s
  | .readSignal p tag signal => Sys2Proof.Machine.execReadSignal p tag signal s
  | .readDistricts p tag => Sys2Proof.Machine.execReadDistricts p tag s
  | .readInstance p tag slot => Sys2Proof.Machine.execReadInstance p tag slot s
  | .readRouteEngine p tag => Sys2Proof.Machine.execReadRouteEngine p tag s
  | .readTrain p tag train => Sys2Proof.Machine.execReadTrain p tag train s
  | .readSupervision p tag train => Sys2Proof.Machine.execReadSupervision p tag train s
  | .readDeck p tag => Sys2Proof.Machine.execReadDeck p tag s
  | .readDemo p tag => Sys2Proof.Machine.execReadDemo p tag s
  | .readModule p tag addr => Sys2Proof.Machine.execReadModule p tag addr s
  | .readRing p tag => Sys2Proof.Machine.execReadRing p tag s
  | .readPort p tag named => Sys2Proof.Machine.execReadPort p tag named s
  | .sweepTimerExpiry => Sys2Proof.Machine.execSweepTimerExpiry s
  | .postponedPartialSweep => Sys2Proof.Machine.execPostponedPartialSweep s
  | .poll => Sys2Proof.Machine.execPoll s
  | .goodAnswer frame => Sys2Proof.Machine.execGoodAnswer frame s
  | .miss received => Sys2Proof.Machine.execMiss received s
  | .ringCommandSent => Sys2Proof.Machine.execRingCommandSent s
  | .supervisionExpiry train => Sys2Proof.Machine.execSupervisionExpiry train s
  | .pointMoveTimeout point => Sys2Proof.Machine.execPointMoveTimeout point s
  | .approachReleaseExpirySet slot => Sys2Proof.Machine.execApproachReleaseExpirySet slot s
  | .approachReleaseExpiryOccupied slot => Sys2Proof.Machine.execApproachReleaseExpiryOccupied slot s
  | .overlapReleaseTimeout slot => Sys2Proof.Machine.execOverlapReleaseTimeout slot s
  | .retryLifetimeExpiry route => Sys2Proof.Machine.execRetryLifetimeExpiry route s
  | .deckMoveTimeout => Sys2Proof.Machine.execDeckMoveTimeout s
  | .screeningTimeout plan => Sys2Proof.Machine.execScreeningTimeout plan s
  | .admissionTimeout => Sys2Proof.Machine.execAdmissionTimeout s
  | .runLimitExpiry => Sys2Proof.Machine.execRunLimitExpiry s

end Sys2Proof.Machine
end

