-- ==== Sys2Proof/Machine/Clock.lean ====
section
/-! DEFINITION. The tick of the model's clock: what the block does when no command waits (log entry 2).  One tick is 1 ms.
Every timer that runs has 1 ms less left, and the expiry of each timer that reaches 0 is put at the tail of the queue of
waiting commands, in a fixed order. -/

namespace Sys2Proof.Machine

open Sys2Proof

/-- One ms less. -/
def lessOne : Option Nat → Option Nat
  | some n => some (n - 1)
  | none => none

/-- A timer that runs reaches 0 at this tick. -/
def fires : Option Nat → Bool
  | some n => n ≤ 1
  | none => false

/-- The command when the timer fires. -/
def onFire (t : Option Nat) (c : Instr) : List Instr := if fires t then [c] else []

/-- The time left on a running approach release timer. -/
def approachMs : ApproachTimer → Option Nat | .running n => some n | _ => none
/-- The time left on a running overlap release timer. -/
def overlapMs : OverlapTimer → Option Nat | .running n => some n | _ => none

/-- The timers of a port, one ms on. -/
def tickPort (q : Port) : Port :=
  { q with silenceTimer := lessOne q.silenceTimer, holdTimer := lessOne q.holdTimer, holdOff := lessOne q.holdOff }

/-- The expiries of a port's timers. -/
def portExpiries (p : PortId) (q : Port) : List Instr :=
  onFire q.silenceTimer (.silenceTimeout p) ++ onFire q.holdTimer (.holdTimerExpiry p) ++
  onFire q.holdOff (.holdOffExpiry p)

/-- The timers of an instance, one ms on. -/
def tickInst (i : Inst) : Inst :=
  { i with
    approach := match i.approach with | .running n => .running (n - 1) | x => x,
    overlapTimer := match i.overlapTimer with | .running n => .running (n - 1) | x => x }

/-- The expiries of an instance's timers. -/
def instExpiries (e : Nat × Inst) : List Instr :=
  onFire (approachMs e.2.approach)
    (if e.2.origin = some .set then .approachReleaseExpirySet e.1 else .approachReleaseExpiryOccupied e.1) ++
  onFire (overlapMs e.2.overlapTimer) (.overlapReleaseTimeout e.1)

/-- The timers of the demonstration queue and the run, one ms on; the run-limit timer is frozen while paused. -/
def tickDemo (d : Demo) : Demo :=
  { d with
    queue := d.queue.map (fun e => { e with screening := lessOne e.screening, admission := lessOne e.admission }),
    run := d.run.map (fun r => if r.paused then r else { r with left := r.left - 1 }) }

/-- The expiries of the Demonstration Unit's timers: the admission timer, which only the head has running (R142), then the
screening timers in queue order, then the run-limit timer (log entry 2). -/
def demoExpiries (d : Demo) : List Instr :=
  onFire (d.queue.head?.bind (·.admission)) .admissionTimeout ++
  d.queue.flatMap (fun e => onFire e.screening (.screeningTimeout e.plan)) ++
  (match d.run with
   | some r => if r.paused then [] else onFire (some r.left) .runLimitExpiry
   | none => [])

/-- The timer of a supervised train, one ms on. -/
def tickTrain (r : TrainRec) : TrainRec := { r with sup := r.sup.map (fun u => { u with timer := u.timer - 1 }) }

/-- Every expiry of a tick, in the model's fixed order (log entry 2).  The demonstrations' expiries stand first: an
expiry that ends a run or admits an entry stops the admission timer or the run limit that fired in the same tick (R142,
R146), and so none stands before the expiries of those two timers. -/
def expiries (s : State) : List Instr :=
  demoExpiries s.demo ++
  allPorts.flatMap (fun p => portExpiries p (portAt s p)) ++
  s.il.points.flatMap (fun e => onFire e.2.timer (.pointMoveTimeout e.1)) ++
  s.il.instances.flatMap instExpiries ++
  s.engine.retry.flatMap (fun e => onFire (some e.left) (.retryLifetimeExpiry e.route)) ++
  onFire (s.deck.bind (·.timer)) .deckMoveTimeout ++
  onFire s.ring.timer .sweepTimerExpiry ++
  s.trains.flatMap (fun e => onFire (e.2.sup.map (·.timer)) (.supervisionExpiry e.1))

/-- One ms passes (log entry 2). -/
def tick (s : State) : State :=
  { s with
    now := s.now + 1,
    il := { s.il with
      points := s.il.points.map (fun e => (e.1, { e.2 with timer := lessOne e.2.timer })),
      instances := s.il.instances.map (fun e => (e.1, tickInst e.2)) },
    engine := { s.engine with retry := s.engine.retry.map (fun e => { e with left := e.left - 1 }) },
    trains := s.trains.map (fun e => (e.1, tickTrain e.2)),
    deck := s.deck.map (fun d => { d with timer := lessOne d.timer }),
    demo := tickDemo s.demo,
    ring := { s.ring with timer := lessOne s.ring.timer },
    ports := { a := tickPort s.ports.a, b := tickPort s.ports.b, c := tickPort s.ports.c, d := tickPort s.ports.d },
    pending := s.pending ++ expiries s }

end Sys2Proof.Machine
end

