-- ==== Sys2Proof/WellFormed.lean ====
section
/-! DEFINITION. Which commands the link and the ring can carry: every field fits the bytes the formats give it (R185)
and every number names an item its timer can belong to.  A well-formed request may still be refused by its rule. -/

namespace Sys2Proof

/-- A one-byte field. -/
def fits1 (n : Nat) : Bool := n < 256
/-- A two-byte field. -/
def fits2 (n : Nat) : Bool := n < 65536
/-- A four-byte field. -/
def fits4 (n : Nat) : Bool := n < 4294967296

/-- An ordered request that a valid frame can carry: its fields fit their bytes, its lists their limits (R185). -/
def Request.wf : Request → Bool
  | .loadSection i er len lim dis ad inp up dn fl =>
    fits1 i && fits1 er && fits2 len && fits2 lim && fits1 dis && fits1 ad && fits1 inp && fits2 up && fits2 dn && fits1 fl
  | .loadPoint i er ad out sec dis => fits1 i && fits1 er && fits1 ad && fits1 out && fits1 sec && fits1 dis
  | .loadSignal i er sec en k ad out dis =>
    fits1 i && fits1 er && fits1 sec && fits1 en && fits1 k && fits1 ad && fits1 out && fits1 dis
  | .loadRoute i er en ex c secs ovl app rd de =>
    fits1 i && fits1 er && fits1 en && fits2 ex && fits1 c && fits2 rd && fits1 de &&
    secs.length ≤ 12 && secs.all (fun x => fits1 x.1 && fits1 x.2) && ovl.length ≤ 2 && ovl.all fits1 &&
    app.length ≤ 3 && app.all fits1
  | .loadRoutePoints i pts fls =>
    fits1 i && pts.length ≤ 8 && pts.all (fun x => fits1 x.1 && fits1 x.2.1 && fits1 x.2.2) && fls.length ≤ 4 &&
    fls.all (fun x => fits1 x.1 && fits1 x.2)
  | .loadDistrict i n => fits1 i && fits1 n
  | .loadDeck er n sec ad => fits1 er && fits1 n && fits1 sec && fits1 ad
  | .loadDeckRoad rd er sec en => fits1 rd && fits1 er && fits2 sec && fits1 en
  | .loadTrain i er ad v a b => fits1 i && fits1 er && fits2 ad && fits2 v && fits2 a && fits2 b
  | .loadPlan i er t st rs th ad inp =>
    fits1 i && fits1 er && fits1 t && fits1 st && rs.length ≤ 6 && rs.all fits1 && fits1 th && fits1 ad && fits1 inp
  | .loadTraction er ad => fits1 er && fits1 ad
  | .loadPortRoles s a b c d => fits1 s && fits1 a && fits1 b && fits1 c && fits1 d
  | .loadParameter k v => fits1 k && fits2 v
  | .loadMisfit _ i => fits1 i
  | .takeDistrict k | .giveDistrict k => fits1 k
  | .setDistrictFlags k v => fits1 k && fits1 v
  | .movePoint n pos => fits1 n && fits1 pos
  | .setRoute r o => fits1 r && fits1 o
  | .cancelRoute r => fits1 r
  | .placeTrain t sec d => fits1 t && fits1 sec && fits1 d
  | .removeTrain t | .takeTrain t | .giveTrain t | .restoreTrain t => fits1 t
  | .turnDeck r s => fits1 r && fits1 s
  | .passDemo n | .vetoDemo n => fits1 n
  | .setSweepMode m per => fits1 m && fits2 per
  | .selectCounter c ev q => fits1 c && fits1 ev && fits1 q
  | .decrementCounter c d => fits1 c && fits4 d
  | .beginConfig | .commitConfig | .abandonConfig | .rest | .wake | .reconfigure => true

/-- A command whose operands the link, the ring or a timer can present. -/
def Instr.wf : Instr → Bool
  | .orderedRequest _ _ r => r.wf
  | .readDescription _ _ t i => fits1 t && fits2 i
  | .setSilence _ _ v | .holdOff _ _ v | .setSubscription _ _ v => fits2 v
  | .setTrigger _ _ v => fits1 v
  | .throttle _ _ t v d => fits1 t && fits1 v && fits1 d
  | .readSection _ _ n | .readPoint _ _ n | .readSignal _ _ n | .readInstance _ _ n | .readTrain _ _ n
  | .readSupervision _ _ n | .readModule _ _ n | .readPort _ _ n => fits1 n
  | .supervisionExpiry t => t < 48
  | .pointMoveTimeout n => n < 128
  | .approachReleaseExpirySet i | .approachReleaseExpiryOccupied i | .overlapReleaseTimeout i => i < 32
  | .retryLifetimeExpiry r => r < 192
  | .screeningTimeout n => n < 16
  | _ => true

end Sys2Proof
end

