-- ==== Sys2Proof/Safety.lean ====
section
/-! DEFINITION. The terms claims are written in: what of a state reporting may touch, what a request at the head of its
queue and a valid frame do to their port, the capacities every state keeps, what the acceptance and the release of a route
and a whole-sweep boundary do, the checks of a walk or of a request as lists in their order, the life of an instance, the permitted speed, the
admission and the end of a demonstration, the events a counter takes, the bytes of a read's answer, the safe values of a
failed module's items, and what makes a proceed aspect and a stopped layout safe. -/

namespace Sys2Proof.Machine

open Sys2Proof

/-! ### Frames -/

/-- A port without its notice queue and lost count, which raising a notice may change (R175, R176). -/
def quietPort (q : Port) : Port := { q with notices := [], lost := 0 }

/-- The state without what reporting may change: the ports' notice queues and lost counts, and the values and half-full
flags of the counters (R175, R179).  Two states with the same quiet part differ in nothing else. -/
def quiet (s : State) : State :=
  { s with
    ports := { a := quietPort s.ports.a, b := quietPort s.ports.b, c := quietPort s.ports.c, d := quietPort s.ports.d },
    counters := { s.counters with values := [], half := [] } }

/-- The quiet part without the ring: what a command that also offers ring commands leaves alone is read through it. -/
def inner (s : State) : State := (quiet s).withRing Ring.reset

/-- The part of a module table entry that only answers, misses and commits change (R149, R151, R152). -/
def moduleView (m : Module) : ModKind × ModState × Nat × Option (List Byte) := (m.kind, m.state, m.misses, m.data)

/-! ### Ports -/

/-- A request with its TAG stands at the head of a port's queue, and the response list has a free place (R171). -/
def Heads (s : State) (p : PortId) (tag : Byte) (r : Request) : Prop :=
  headRequest s p = some { tag := tag, req := r } ∧ hasPlace s p = true

/-- The head has left the queue of port `p`, and its response has entered the list (R171, R172). -/
def answered (p : PortId) (tag : Byte) (a : Answer) (s : State) : State := respond p tag a (popHead p s)

/-- What a valid frame does at a port that is ONLINE: silence timer restarted, malformed run 0, assembler idle (R164,
R165). -/
def heard (p : PortId) (s : State) : State :=
  updatePort s p (fun q => { q with
    assembler := .idle, malformed := 0, silenceTimer := if q.silence = 0 then none else some q.silence })

/-- The session of port `p` with another working description; the committed description is the same (R1). -/
def withWorking (p : PortId) (s : State) (d : Desc) : State :=
  s.withStore { committed := s.store.committed, session := some { port := p, working := d } }

/-- The start of a frame that ends early or complete: SYNC, then error-free bytes, the frame not yet complete (R164). -/
def Collecting (chars : List RxChar) : Prop :=
  (∀ c ∈ chars, c.bad = false) ∧
  (chars.map (·.byte) = [syncByte] ∨
    ∃ len rest, chars.map (·.byte) = syncByte :: len :: rest ∧ 2 ≤ len.toNat ∧ len.toNat ≤ 60 ∧ rest.length < len.toNat)

/-- The characters of one malformed frame at an idle assembler (R164, R165): it ends by a parity or framing error, by a
LENGTH outside 2 to 60, or complete with a KIND or a LENGTH that no request has. -/
def MalformedChars (p : PortId) (chars : List RxChar) : Prop :=
  ∃ start last, chars = start ++ [last] ∧ Collecting start ∧
    (last.bad = true ∨
     (start.map (·.byte) = [syncByte] ∧ (last.byte.toNat < 2 ∨ 60 < last.byte.toNat)) ∨
     (∃ len rest, start.map (·.byte) = syncByte :: len :: rest ∧ rest.length + 1 = len.toNat ∧
       decodeFrame p (chars.map (·.byte)) = none))

/-- A port holds no district, drives no train, has no retry entry and is not the configuring port (R168). -/
def HoldsNothing (s : State) (p : PortId) : Prop :=
  (∀ k, k < 8 → (districtAt s k).holder ≠ some p) ∧
  (∀ t r, trainAt s t = some r → r.driver ≠ some (.port p)) ∧
  (∀ e ∈ s.engine.retry, e.port ≠ p) ∧
  (∀ x, s.store.session = some x → x.port ≠ p)

/-- What the other ports hold stays when port `p` leaves ONLINE (R168): their districts, their trains but the one that a
demonstration runs, and their retry entries. -/
def OthersKeep (p : PortId) (s t : State) : Prop :=
  (∀ k q, (districtAt s k).holder = some q → q ≠ p → districtAt t k = districtAt s k) ∧
  ((itemNumbers s.trains).Nodup → ∀ x r q, trainAt s x = some r → r.driver = some (.port q) → q ≠ p →
    (∀ run, s.demo.run = some run → run.train ≠ x) → trainAt t x = some r) ∧
  (∀ e ∈ s.engine.retry, e.port ≠ p → e ∈ t.engine.retry)

/-! ### Capacities -/

/-- The capacities and ranges of a port, whose request queue is empty unless it is ONLINE (R165, R167, R168, R170, R172, R176,
R177). -/
def PortFits (q : Port) : Prop :=
  q.queue.length ≤ 8 ∧ q.responses.length ≤ 16 ∧ q.notices.length ≤ 32 ∧ q.lost ≤ 255 ∧ q.overruns ≤ 255 ∧
  (q.malformed ≤ 7 ∨ q.state = .isolated) ∧ (q.trigger = 1 ∨ q.trigger = 2 ∨ q.trigger = 4 ∨ q.trigger = 6) ∧
  (q.silence = 0 ∨ (100 ≤ q.silence ∧ q.silence ≤ 5000)) ∧ (q.state = .online ∨ q.queue = [])

/-- Every port keeps its capacities. -/
def PortsFit (s : State) : Prop := ∀ p, PortFits (portAt s p)

/-- The Counter Unit has twelve values, twelve half-full flags and four selections (R179, R184). -/
def CountersFit (s : State) : Prop :=
  s.counters.values.length = 12 ∧ s.counters.half.length = 12 ∧ s.counters.sel.length = 4

/-- The capacities of the lists the blocks keep: eight districts, eight retry entries, 32 places of the ring command
queue, six entries of the demonstration queue (R38, R57, R135, R159). -/
def ListsFit (s : State) : Prop :=
  s.il.districts.length = 8 ∧ s.engine.retry.length ≤ 8 ∧ s.ring.queue.length ≤ 32 ∧ s.demo.queue.length ≤ 6

/-- The traction address of the committed and of a working description names a ring address (Table 1-5). -/
def StoreFits (s : State) : Prop :=
  (∀ a, s.store.committed.traction = some a → a ≤ 63) ∧
  (∀ x a, s.store.session = some x → x.working.traction = some a → a ≤ 63)

/-- What the prose promises of the holdings: the holder of a district is ONLINE (R38), and no two retry entries are for one
route (R57). -/
def HoldingsFit (s : State) : Prop :=
  (∀ k p, (districtAt s k).holder = some p → (portAt s p).state = .online) ∧ (s.engine.retry.map (·.route)).Nodup

/-- Every capacity of the controller is kept, and so are its holdings. -/
def Capacities (s : State) : Prop := PortsFit s ∧ CountersFit s ∧ ListsFit s ∧ StoreFits s ∧ HoldingsFit s

/-! ### Counters -/

/-- Counter `c` takes an event (R179, R180): a fixed counter takes the event of its row of Table 11-2, and a programmable one
the event its selection names, under ANY always, under a port or DEMO when that is the event's party, and under a district
when that is the event's district. -/
def Takes (k : Counters) (ev : EventKind) (party : Option Party) (district : Option Nat) (c : Nat) : Prop :=
  [EventKind.routesSet, .routesRefused, .sectionSteps, .signalOverruns, .interventions, .deckTurns, .demosCompleted,
    .buttonPresses][c]? = some ev ∨
  (8 ≤ c ∧ ∃ sel, k.sel[c - 8]? = some sel ∧ sel.event = ev ∧
    (sel.qual = .any ∨ (∃ p, sel.qual = .port p ∧ party = some (.port p)) ∨ (sel.qual = .demo ∧ party = some .demo) ∨
      ∃ x, sel.qual = .district x ∧ district = some x))

/-! ### The bytes of an answer -/

/-- A number in two, three or four bytes, the most significant first (R185). -/
def inTwo (n : Nat) : List Byte := [byte (n / 256), byte n]
def inThree (n : Nat) : List Byte := [byte (n / 65536), byte (n / 256), byte n]
def inFour (n : Nat) : List Byte := [byte (n / 16777216), byte (n / 65536), byte (n / 256), byte n]

/-- A flag, a field that is 0xFF when absent, an item that is 0xFFFF when absent, and a list behind its count (R185; log
entry 12). -/
def flagByte (f : Bool) : Byte := if f then 1#8 else 0#8
def fieldOr (o : Option Nat) : Byte := byte (o.getD 255)
def itemOr (o : Option Nat) : List Byte := inTwo (o.getD 65535)
def counted {α : Type} (f : α → List Byte) (l : List α) : List Byte := byte l.length :: l.flatMap f

/-- The values of a named field are coded from 0 in the order of the spec's tables (R185), and the occupants, the parties and
the members of the rotation as section 12.1 has them. -/
def CodesInOrder : Prop :=
  [Occupancy.clear, .occupied].map codeOcc = [0, 1] ∧ [LockRole.route, .overlap].map codeRole = [0, 1] ∧
  [Reported.normal, .reverse, .moving, .unproven].map codeReported = [0, 1, 2, 3] ∧
  [Position.normal, .reverse].map codePos = [0, 1] ∧ [Aspect.stop, .caution, .clear, .shunt].map codeAspect = [0, 1, 2, 3] ∧
  [InstState.setting, .set, .occupied, .releasing].map codeInst = [0, 1, 2, 3] ∧
  [Mark.locked, .passed, .released].map codeMark = [0, 1, 2] ∧ [Claim.none, .pending, .locked].map codeClaim = [0, 1, 2] ∧
  [none, some Origin.set, some .occupied].map codeReleaseOrigin = [0, 1, 2] ∧
  [TrainState.absent, .placed, .disrupted].map codeTrain = [0, 1, 2] ∧
  [none, some Cause.overrun, some .vanished, some .parted, some .overflow, some .deck].map codeCause = [0, 1, 2, 3, 4, 5] ∧
  [Heading.up, .down, .faceA, .faceB].map codeHeading = [0, 1, 0, 1] ∧
  [Term.vmax, .line, .sec 7, .eoa, .release, .disrupted].map codeTerm = [0, 1, 2, 3, 4, 5] ∧
  [DriveSense.forward, .backward].map codeDrive = [0, 1] ∧ [Sense.cw, .ccw].map codeSense = [0, 1] ∧
  [ReqSense.cw, .ccw, .short].map codeReqSense = [0, 1, 2] ∧ [Dir.up, .down].map codeDir = [0, 1] ∧
  [DeckEnd.a, .b].map codeEnd = [0, 1] ∧ [Lamp.closed, .ready, .queued, .running].map codeLamp = [0, 1, 2, 3] ∧
  [none, some Level.pressed, some .released].map codeLevel = [0, 1, 2] ∧
  [ModKind.absent, .detect, .point, .signal, .button, .deck, .traction].map codeModKind = [0, 1, 2, 3, 4, 5, 6] ∧
  [ModState.absent, .active, .failed].map codeModState = [0, 1, 2] ∧
  [PortState.offline, .online, .lost, .isolated].map codePortState = [0, 1, 2, 3] ∧
  [Mode.config, .waking, .inService, .rest].map codeMode = [0, 1, 2, 3] ∧
  [StopCause.emergency, .port .c, .overload, .tractionFailed].map codeStop = [0, 1, 2, 3] ∧
  [SweepMode.full, .split2, .split4].map codeSweep = [0, 1, 2] ∧
  [PortId.a, .b, .c, .d].map codePort = [0, 1, 2, 3] ∧ codeParty .demo = 4 ∧ codeMember .g = 4 ∧
  (∀ p, codeParty (.port p) = codePort p ∧ codeMember (.port p) = codePort p) ∧
  codeOccupant .none = 255 ∧ codeOccupant .unknown = 254 ∧ (∀ x, codeOccupant (.train x) = x) ∧
  [SignalKind.main, .shunt, .deck].map codeKind = [0, 1, 2] ∧ [RouteClass.main, .shunt].map codeClass = [0, 1]

/-- The release fields and the held sections of the instance in a slot, behind its route, requester, state and deck claim
(R65, R66). -/
def instanceBytes (s : State) (slot : Nat) (i : Inst) : List Byte :=
  let locked := fun (role : LockRole) (n : Nat) => (secAt s n).any (fun x => x.lock == some { slot := slot, role := role })
  let along := (((routeAt s i.route).map (·.sections)).getD []).zip i.marks
  let held := (along.filter (fun e => locked .route e.1.1)).map (fun e => (e.1.1, 0, some e.2)) ++
    (i.overlap.filter (locked .overlap)).map (fun n => (n, 1, none))
  [byte i.route, byte (codeParty i.requester), byte (codeInst i.state), byte (codeClaim i.claim)] ++
  counted (fun (e : Nat × Nat × Option Mark) => [byte e.1, byte e.2.1, fieldOr (e.2.2.map codeMark)]) held ++
  counted (fun m => [byte (codeMark m)]) i.marks ++ itemOr i.firstPassing ++ itemOr i.entering ++
  [byte (codeReleaseOrigin i.origin),
   (match i.approach with | .running ms => byte (ms / 1000) | _ => 255#8),
   (match i.overlapTimer with | .running ms => byte (ms / 1000) | _ => 255#8)]

/-- The deck as READ-DECK shows it (R134). -/
def deckBytes (d : DeckState) (e : DeckEntry) : List Byte :=
  (match d.pos with
    | .aligned j => [0#8, byte j, 255#8, 255#8]
    | .moving f k sn => [1#8, byte f, byte k, byte (codeSense sn)]
    | .unproven => [2#8, 255#8, 255#8, 255#8]) ++
  (match d.req with
    | none => [255#8, 255#8, 255#8]
    | some (.port p) => [255#8, 255#8, byte (codePort p)]
    | some (.inst slot q) => inTwo slot ++ [byte (codeParty q)]) ++
  inThree (d.timer.getD 0) ++
  (match d.latch with
    | none => [255#8, 255#8, 255#8, 255#8]
    | some l => inTwo l.road ++ [byte (codeReqSense l.sense), byte (codePort l.port)]) ++
  [fieldOr d.reported, byte d.doubt, byte e.n, byte e.sec] ++
  counted (fun k => match findItem e.roads k with
    | some x => itemOr x.sec ++ [byte (codeDir x.meeting)]
    | none => [255#8, 255#8, 255#8]) (List.range e.n)

/-- The demonstrations as READ-DEMO shows them (R148); the button of a FAILED module reads released (R138). -/
def demoBytes (s : State) : List Byte :=
  let f := s.demo.failing
  [flagByte (f.mode || f.screening || f.allStop), flagByte f.mode, flagByte f.screening, flagByte f.allStop] ++
  counted (fun (x : Nat × Button) => [byte x.1,
    (match findItem (desc s).plans x.1 with
      | some e => if (moduleAt s e.addr).state = .failed then 2#8 else byte (codeLevel x.2.level)
      | none => byte (codeLevel x.2.level)), byte (codeLamp x.2.lamp)]) s.demo.buttons ++
  counted (fun (x : DemoEntry) => [byte x.plan, flagByte x.accepted] ++
    itemOr ((if x.accepted then x.admission else x.screening).map (· / 1000))) s.demo.queue ++
  (match s.demo.run with
    | none => [0#8]
    | some r => [1#8, byte r.plan, byte r.train, byte r.next] ++
      (match r.hand with
        | .none => [0#8, 255#8] | .fresh => [1#8, 255#8] | .blocked why => [2#8, byte (codeReason why)]) ++
      counted (fun (x : Nat × Nat) => [byte x.1, byte x.2]) r.insts ++ inTwo (r.left / 1000) ++ [flagByte r.paused]) ++
  counted (fun n => [byte n]) s.demo.cancel

/-- The ring as READ-RING shows it (R163). -/
def ringBytes (r : Ring) (mode : Mode) : List Byte :=
  let setting := fun (o : Option SweepSetting) => match o with
    | some v => byte (codeSweep v.mode) :: inTwo v.period
    | none => [255#8, 255#8, 255#8]
  setting (some r.running) ++ setting r.pendingSetting ++ setting (if mode = .rest then some r.service else none) ++
  [byte r.postCount, flagByte r.overloaded, byte r.stopRun.length, byte r.queue.length] ++
  (match r.slot with
    | none => [255#8, 255#8, 255#8]
    | some (.aspect n _) => 0#8 :: inTwo n
    | some (.speed n _ _) => 1#8 :: inTwo n
    | some (.lamp n _) => 2#8 :: inTwo n
    | some (.pointMove n _) => 3#8 :: inTwo n
    | some (.deckTurn _ _) => [4#8, 255#8, 255#8]
    | some (.power _) => [5#8, 255#8, 255#8]) ++
  [(match r.power with | none => 255#8 | some on => flagByte on), flagByte r.mismatch]

/-- A port as READ-PORT shows it (R178). -/
def portBytes (q : Port) : List Byte :=
  [byte (codePortState q.state), byte q.malformed, byte q.queue.length,
   fieldOr (q.queue.head?.map (fun r => kindOfRequest r.req)), flagByte q.holding, byte (q.holdTimer.getD 0 / 10)] ++
  inTwo (q.holdOff.getD 0 / 10) ++
  [byte q.responses.length, byte q.overruns, byte q.notices.length, byte q.lost] ++ inTwo q.subs.toNat ++
  [byte q.trigger] ++ inTwo q.silence

/-- The description that a READ-DESCRIPTION of port `p` reads: the working one for the configuring port (R9). -/
def Reads (s : State) (p : PortId) (d : Desc) : Prop :=
  (s.store.session = none → d = s.store.committed) ∧
  (∀ x, s.store.session = some x → d = if x.port = p then x.working else s.store.committed)

/-- The answer for an entry that may be undescribed: 1 and its fields, or 0 alone. -/
def entryShown {α : Type} (f : α → List Byte) (o : Option α) : Answer :=
  .done (match o with | some e => 1#8 :: f e | none => [0#8])

/-- What READ-DESCRIPTION answers from a description (R9): 1 and the entry's fields in the order of its table, 0 alone for an
undescribed one. -/
def DescriptionAnswered (d : Desc) (answer : Nat → Nat → Answer) : Prop :=
  let screening := fieldOr (d.roles.screening.map codePort)
  (∀ n, n < 256 → answer 0 n = entryShown (fun (e : SectionEntry) => inTwo e.length ++ inTwo e.limit ++
    [byte e.district, byte e.addr, byte e.input] ++ itemOr e.upSignal ++ itemOr e.downSignal ++ [flagByte e.deckFlag])
    (findItem d.sections n)) ∧
  (∀ n, n < 128 → answer 1 n = entryShown (fun (e : PointEntry) => [byte e.addr, byte e.output, byte e.sec, byte e.district])
    (findItem d.points n)) ∧
  (∀ n, n < 128 → answer 2 n = entryShown (fun (e : SignalEntry) => [byte e.sec, byte (codeDir e.stands), byte (codeKind e.kind),
    byte e.addr, byte e.output, byte e.district]) (findItem d.signals n)) ∧
  (∀ n, n < 192 → answer 3 n = entryShown (fun (e : RouteEntry) => [byte e.entry] ++ itemOr e.exit ++ [byte (codeClass e.cls)] ++
    counted (fun (x : Nat × Dir) => [byte x.1, byte (codeDir x.2)]) e.sections ++
    counted (fun (x : RoutePoint) => [byte x.point, byte (codePos x.pos), byte x.idx]) e.points ++
    counted (fun (x : Nat × Position) => [byte x.1, byte (codePos x.2)]) e.flanks ++
    counted (fun m => [byte m]) e.overlap ++ counted (fun m => [byte m]) e.approach ++
    (match e.deckReq with | none => [255#8, 255#8, 255#8] | some q => inTwo q.1 ++ [byte (codeEnd q.2)]))
    (findItem d.routes n)) ∧
  (∀ n, n < 8 → answer 4 n = .done [1#8, byte (entryAt d.names n 0)]) ∧
  answer 5 65535 = entryShown (fun (k : DeckEntry) => [byte k.n, byte k.sec, byte k.addr]) d.deck ∧
  (∀ n, n < 24 → answer 5 n = entryShown (fun (e : RoadEntry) => itemOr e.sec ++ [byte (codeDir e.meeting)])
    (d.deck.bind (fun k => findItem k.roads n))) ∧
  (∀ n, n < 48 → answer 6 n = entryShown (fun (e : TrainEntry) => inTwo e.addr ++ inTwo e.vmax ++ inTwo e.accel ++ inTwo e.brake)
    (findItem d.trains n)) ∧
  (∀ n, n < 16 → answer 7 n = entryShown (fun (e : PlanEntry) => [byte e.train, byte e.start] ++
    counted (fun r => [byte r]) e.routes ++ [byte e.throttle, byte e.addr, byte e.input]) (findItem d.plans n)) ∧
  answer 8 65535 = entryShown (fun a => [byte a]) d.traction ∧
  (answer 9 0 = .done [1#8, screening, flagByte d.roles.batchA] ∧
    answer 9 1 = .done [1#8, screening, flagByte d.roles.batchB] ∧
    answer 9 2 = .done [1#8, screening, flagByte d.roles.batchC] ∧
    answer 9 3 = .done [1#8, screening, flagByte d.roles.batchD] ∧
    answer 9 65535 = .done [1#8, screening, flagByte d.roles.batchA, flagByte d.roles.batchB, flagByte d.roles.batchC,
      flagByte d.roles.batchD]) ∧
  (∀ n v, [d.params.sweepPeriod, codeSweep d.params.sweepMode, d.params.threshold, d.params.stopMargin, d.params.releaseSpeed,
    d.params.shuntLimit, d.params.pointTimeout, d.params.approachTime, d.params.overlapTime, d.params.retryLife,
    d.params.deckStep, d.params.deckSettle, d.params.screening, d.params.runLimit, d.params.admission][n]? = some v →
    answer 10 n = .done (1#8 :: inTwo v)) ∧
  (∀ t bound, (t, bound) ∈ [(0, 256), (1, 128), (2, 128), (3, 192), (4, 8), (5, 24), (6, 48), (7, 16), (8, 0), (9, 4), (10, 15)] →
    ∀ n, bound ≤ n → (n ≠ 65535 ∨ t ∉ [5, 8, 9]) → answer t n = .refused .unknownItem .none)

/-! ### Checks in order -/

/-- The first check of a list that fails, and what it is refused with. -/
def FirstOf {β : Type} : List (Prop × β) → β → Prop
  | [], _ => False
  | (p, k) :: l, x => (p ∧ x = k) ∨ (¬ p ∧ FirstOf l x)

/-! ### The validation walk (R6, Table 1-8) -/

/-- The signal is described and stands at that end of that section. -/
def StandsAtEnd (d : Desc) (sig n : Nat) (e : Dir) : Prop :=
  ∃ g, findItem d.signals sig = some g ∧ g.sec = n ∧ g.stands = e

/-- A described section, point or signal, the deck or a described plan uses the module address. -/
def SecUses (d : Desc) (a : Nat) : Prop := ∃ x ∈ d.sections, x.2.addr = a
def PointUses (d : Desc) (a : Nat) : Prop := ∃ x ∈ d.points, x.2.addr = a
def SignalUses (d : Desc) (a : Nat) : Prop := ∃ x ∈ d.signals, x.2.addr = a
def DeckUses (d : Desc) (a : Nat) : Prop := ∃ k, d.deck = some k ∧ k.addr = a
def PlanUses (d : Desc) (a : Nat) : Prop := ∃ x ∈ d.plans, x.2.addr = a

/-- The checks of a section. -/
def sectionChecks (d : Desc) (n : Nat) (e : SectionEntry) : List (Prop × FaultKind) :=
  [((∃ g, e.upSignal = some g ∧ ¬ StandsAtEnd d g n .up) ∨ (∃ g, e.downSignal = some g ∧ ¬ StandsAtEnd d g n .down),
     .refMissing),
   (∃ x ∈ d.sections, x.1 < n ∧ x.2.addr = e.addr ∧ x.2.input = e.input, .dupModuleInput),
   (e.deckFlag = true ∧ ∀ k, d.deck = some k → k.sec ≠ n, .deckShape)]

/-- The checks of a point. -/
def pointChecks (d : Desc) (n : Nat) (e : PointEntry) : List (Prop × FaultKind) :=
  [(findItem d.sections e.sec = none, .refMissing),
   (∃ x, findItem d.sections e.sec = some x ∧ x.deckFlag = true, .deckShape),
   ((∃ x ∈ d.points, x.1 < n ∧ x.2.addr = e.addr ∧ x.2.output = e.output) ∨ SecUses d e.addr, .dupModuleInput)]

/-- The checks of a signal. -/
def signalChecks (d : Desc) (n : Nat) (e : SignalEntry) : List (Prop × FaultKind) :=
  [(∀ x, findItem d.sections e.sec = some x → (match e.stands with | .up => x.upSignal | .down => x.downSignal) ≠ some n,
     .refMissing),
   ((∃ x ∈ d.signals, x.1 < n ∧ x.2.addr = e.addr ∧ x.2.output = e.output) ∨ SecUses d e.addr ∨ PointUses d e.addr,
     .dupModuleInput)]

/-- The checks of a route. -/
def routeDescChecks (d : Desc) (e : RouteEntry) : List (Prop × FaultKind) :=
  [(findItem d.signals e.entry = none ∨ (∃ g, e.exit = some g ∧ findItem d.signals g = none) ∨
      (∃ x ∈ e.sections, findItem d.sections x.1 = none) ∨ (∃ x ∈ e.points, findItem d.points x.point = none) ∨
      (∃ x ∈ e.flanks, findItem d.points x.1 = none) ∨ (∃ n ∈ e.overlap, findItem d.sections n = none) ∨
      (∃ n ∈ e.approach, findItem d.sections n = none) ∨
      (∃ q, e.deckReq = some q ∧ ∀ k, d.deck = some k → k.n ≤ q.1), .refMissing),
   (e.sections = [] ∨ (e.cls = .shunt ∧ e.overlap ≠ []) ∨
      (∃ x ∈ e.points, ∀ y k, e.sections[x.idx]? = some y → findItem d.points x.point = some k → y.1 ≠ k.sec) ∨
      ¬ (e.sections.map (·.1) ++ e.overlap).Nodup ∨ ¬ (e.points.map (·.point) ++ e.flanks.map (·.1)).Nodup,
     .routeShape)]

/-- The checks of a train. -/
def trainChecks (d : Desc) (n : Nat) (e : TrainEntry) : List (Prop × FaultKind) :=
  [(∃ x ∈ d.trains, x.1 < n ∧ x.2.addr = e.addr, .dupModuleInput)]

/-- The checks of a plan. -/
def planChecks (d : Desc) (n : Nat) (e : PlanEntry) : List (Prop × FaultKind) :=
  [(findItem d.trains e.train = none ∨ findItem d.sections e.start = none ∨
      (∃ r ∈ e.routes, findItem d.routes r = none), .refMissing),
   (∀ k r, e.routes.head? = some k → findItem d.routes k = some r →
      ¬ StandsAtEnd d r.entry e.start .up ∧ ¬ StandsAtEnd d r.entry e.start .down, .planShape),
   ((∃ x ∈ d.plans, x.1 < n ∧ x.2.addr = e.addr ∧ x.2.input = e.input) ∨ SecUses d e.addr ∨ PointUses d e.addr ∨
      SignalUses d e.addr ∨ DeckUses d e.addr, .dupModuleInput)]

/-- The checks of the traction station. -/
def tractionChecks (d : Desc) : List (Prop × FaultKind) :=
  [(d.traction = none, .noTraction),
   (∃ a, d.traction = some a ∧ (SecUses d a ∨ PointUses d a ∨ SignalUses d a ∨ DeckUses d a ∨ PlanUses d a),
     .dupModuleInput)]

/-- The first fault of a table: its item has the fault, and no item before it has any. -/
def TableFault {α : Type} (t : Table α) (checks : Nat → α → List (Prop × FaultKind)) (f : FaultKind) (n : Nat) : Prop :=
  ∃ l1 e l2, t = l1 ++ (n, e) :: l2 ∧ FirstOf (checks n e) f ∧ ∀ x ∈ l1, ∀ k, ¬ FirstOf (checks x.1 x.2) k

/-- A road below N of the deck names an undescribed road section. -/
def BadRoad (d : Desc) (k : DeckEntry) (x : Nat × RoadEntry) : Prop :=
  x.1 < k.n ∧ ∃ n, x.2.sec = some n ∧ findItem d.sections n = none

/-- The deck is of a wrong shape. -/
def DeckMisshapen (d : Desc) (k : DeckEntry) : Prop :=
  k.n % 2 = 1 ∨ k.n < 4 ∨ 24 < k.n ∨ ∀ x, findItem d.sections k.sec = some x → x.deckFlag = false

/-- The first fault of the deck, whose item is the road for a fault of a road entry and 0xFFFF otherwise. -/
def DeckFault (d : Desc) (f : FaultKind) (n : Nat) : Prop :=
  ∃ k, d.deck = some k ∧
    ((DeckMisshapen d k ∧ f = .deckShape ∧ n = 65535) ∨
     (¬ DeckMisshapen d k ∧ f = .refMissing ∧ ∃ l1 e l2, k.roads = l1 ++ (n, e) :: l2 ∧ BadRoad d k (n, e) ∧
        ∀ x ∈ l1, ¬ BadRoad d k x) ∨
     (¬ DeckMisshapen d k ∧ (∀ x ∈ k.roads, ¬ BadRoad d k x) ∧
        (SecUses d k.addr ∨ PointUses d k.addr ∨ SignalUses d k.addr) ∧ f = .dupModuleInput ∧ n = 65535))

/-- The first table of a walk that has a fault, and that fault. -/
def FirstTable : List (TableId × (FaultKind → Nat → Prop)) → FaultKind → TableId → Nat → Prop
  | [], _, _, _ => False
  | (u, p) :: l, f, t, n => (p f n ∧ t = u) ∨ ((∀ g m, ¬ p g m) ∧ FirstTable l f t n)

/-- The first fault of the walk of Table 1-8. -/
def WalkFault (d : Desc) : FaultKind → TableId → Nat → Prop :=
  FirstTable
    [(.sec, TableFault d.sections (sectionChecks d)), (.point, TableFault d.points (pointChecks d)),
     (.signal, TableFault d.signals (signalChecks d)), (.route, TableFault d.routes (fun _ => routeDescChecks d)),
     (.deck, DeckFault d), (.train, TableFault d.trains (trainChecks d)), (.plan, TableFault d.plans (planChecks d)),
     (.traction, fun f n => FirstOf (tractionChecks d) f ∧ n = 65535)]

/-! ### Routes -/

/-- The requester may act in the route's district (R50): a port holds it; for the Demonstration Unit it has no holder, or its
DEMO-OK flag is set. -/
def MayAct (s : State) (party : Party) (route : Nat) : Prop :=
  match party with
  | .port p => ∃ k, routeDistrict s route = some k ∧ (districtAt s k).holder = some p
  | .demo => ∀ k, routeDistrict s route = some k → (districtAt s k).holder = none ∨ (districtAt s k).demoOk = true

/-- Check 4 (R51): every route section is unlocked or absorbable, and every overlap section is unlocked. -/
def SectionsFree (s : State) (r : RouteEntry) : Prop :=
  (∀ x ∈ r.sections, ∀ st l, secAt s x.1 = some st → st.lock = some l →
    l.role = .overlap ∧ ∃ i q, instAt s l.slot = some i ∧ routeAt s i.route = some q ∧ q.exit = some r.entry) ∧
  (∀ n ∈ r.overlap, ∀ st, secAt s n = some st → st.lock = none)

/-- The rows of R52 that fail CONFLICT: the point is locked in another position, or 8 times. -/
def PointConflict (s : State) (h : HeldPoint) : Prop :=
  ∃ st e, ptAt s h.point = some st ∧ findItem (desc s).points h.point = some e ∧
    ((0 < st.locks ∧ st.lockedPos ≠ h.pos) ∨ 8 ≤ st.locks)

/-- The rows of R52 that fail POINT-BLOCKED: a locked point is UNPROVEN; an unlocked one that is neither proven in the
position nor moving there lies in a section that is not CLEAR, or on a module that is not ACTIVE. -/
def PointBlocked (s : State) (h : HeldPoint) : Prop :=
  ∀ st e, ptAt s h.point = some st → findItem (desc s).points h.point = some e →
    (0 < st.locks ∧ st.reported = .unproven) ∨
    (st.locks = 0 ∧ st.reported ≠ provenIn h.pos ∧ ¬ (st.reported = .moving ∧ st.commanded = some h.pos) ∧
      ((∀ y, secAt s e.sec = some y → y.occ = .occupied) ∨ moduleActive s e.addr = false))

/-- Check 6 (R53): the route does not need the deck; or no claim is PENDING, the deck is ALIGNED, and it stands as required
or can be moved there. -/
def DeckServes (s : State) (r : RouteEntry) : Prop :=
  let noClaim := ∀ e ∈ s.il.instances, e.2.claim ≠ .pending
  (r.deckReq = none ∧ ∀ d, (desc s).deck = some d → ∀ x ∈ r.sections, x.1 ≠ d.sec) ∨
  (r.deckReq = none ∧ noClaim ∧ ∃ j, deckAligned s = some j) ∨
  (∃ road side d j, r.deckReq = some (road, side) ∧ (desc s).deck = some d ∧ deckAligned s = some j ∧ noClaim ∧
    (j = (match side with | .a => road | .b => (road + d.n / 2) % d.n) ∨
      ((∀ x, s.deck = some x → x.latch = none) ∧ s.ctl.allStop = none ∧ startFails s d = none)))

/-- The checks of SET-ROUTE in their order, each with what it fails with (Table 3-2, R50 to R53). -/
def routeChecks (s : State) (party : Party) (route : Nat) : List (Prop × Failure) :=
  match routeAt s route with
  | none => [(True, .final .unknownItem)]
  | some r =>
    [(¬ MayAct s party route, .final .notHolder),
     (∃ e ∈ s.il.instances, e.2.route = route, .final .alreadySet),
     (∀ k, k < 32 → (instAt s k).isSome = true, .blocking .noSlot), (¬ SectionsFree s r, .blocking .conflict)] ++
    ((pointsOf r).map (fun h =>
      [(PointConflict s h, Failure.blocking .conflict), (PointBlocked s h, Failure.blocking .pointBlocked)])).flatten ++
    [(¬ DeckServes s r, .blocking .deckBusy)]

/-- Train `x` is that of a demonstration admitted in passing: an instance that was freed left a cancel list which was not
empty, and no run stood (R142, R143, R147). -/
def Admitted (s t : State) (x : Nat) : Prop :=
  s.demo.cancel ≠ [] ∧ s.demo.run = none ∧ ∃ r, t.demo.run = some r ∧ r.train = x

/-- What the acceptance, the cancellation and the release of a route leave alone: the districts, the occupancies and
occupants, every train but one that is admitted in passing, and all outside the Interlocking Unit, the deck, the Route
Engine, the demonstrations and the ring. -/
def RouteFrame (s t : State) : Prop :=
  t.il.districts = s.il.districts ∧
  (∀ n, (secAt t n).map (fun x => (x.occ, x.occupant, x.disturbed)) =
    (secAt s n).map (fun x => (x.occ, x.occupant, x.disturbed))) ∧
  (∀ x, trainAt t x = trainAt s x ∨ Admitted s t x) ∧
  inner (((((t.withIl s.il).withDeck s.deck).withEngine s.engine).withDemo s.demo).withTrains s.trains) = inner s

/-- A point commanded to a position (R31): proven there or already moving there, only the commanded position is set;
otherwise it is MOVING with its move timer at the parameter's time. -/
def commandedTo (timeout : Nat) (pos : Position) (st : PtState) : PtState :=
  if st.reported = provenIn pos ∨ (st.reported = .moving ∧ st.commanded = some pos) then { st with commanded := some pos }
  else { st with commanded := some pos, reported := .moving, timer := some timeout }

/-- A point locked `k` times for a route that needs it in a position (R34, R55): the first lock sets the locked position
and commands the point. -/
def lockedIn (timeout : Nat) (pos : Position) (k : Nat) (st : PtState) : PtState :=
  if st.locks = 0 then { commandedTo timeout pos st with locks := k, lockedPos := pos }
  else { st with locks := st.locks + k }

/-- No instance whose overlap the route absorbs holds the point. -/
def PointApart (s : State) (r : RouteEntry) (n : Nat) : Prop :=
  ∀ e ∈ absorbable s r, ∀ i, instAt s e.2 = some i → ∀ h ∈ i.held, h.point ≠ n

/-- A command waits in the stop run, the queue or the overflow slot of a ring, or the queue is full, where R161 may have
displaced it. -/
def WaitsOrFull (c : RingCmd) (r : Ring) : Prop :=
  c ∈ r.stopRun ∨ c ∈ r.queue ∨ r.slot = some c ∨ r.queue.length = 32

/-- A command offered on the way from `s`, whose queue keeps its 32 places (R159), to `t`: it waits, or the queue is full. -/
def Offered (c : RingCmd) (s t : State) : Prop := s.ring.queue.length ≤ 32 → WaitsOrFull c t.ring

/-- The acceptance of a route (R55): the lowest free slot holds the new instance; its sections are locked as ROUTE and its
overlap sections as OVERLAP, and no other lock changes; absorbed sections leave their old instances; its points are locked
and those locked for the first time commanded, with a POINT MOVE offered for each that starts to move (R31); and the deck
turns to the target when it has to, with a DECK TURN offered (R124). -/
def Accepted (party : Party) (route slot : Nat) (r : RouteEntry) (s t : State) : Prop :=
  slot < 32 ∧ instAt s slot = none ∧ (∀ k, k < slot → (instAt s k).isSome = true) ∧
  (∃ i, instAt t slot = some i ∧ i.route = route ∧ i.requester = party ∧ (i.state = .setting ∨ i.state = .set) ∧
    i.marks = r.sections.map (fun _ => .locked) ∧ i.overlap = overlapHeld s r ∧ i.held = pointsOf r ∧
    i.claim = claimOf (deckCheck s r) ∧ i.entering = none ∧ i.firstPassing = none ∧ i.origin = none) ∧
  (∀ n st, secAt s n = some st → secAt t n = some { st with
    lock :=
      if n ∈ overlapHeld s r then some { slot := slot, role := .overlap }
      else if (∃ x ∈ r.sections, x.1 = n) ∧ ¬ (claimOf (deckCheck s r) = .pending ∧ isDeckSection s n = true) then
        some { slot := slot, role := .route }
      else st.lock }) ∧
  (∀ e ∈ absorbable s r, ∀ j, instAt t e.2 = some j → e.1 ∉ j.overlap) ∧
  (∀ k, k ≠ slot → (∀ e ∈ absorbable s r, e.2 ≠ k) → instAt t k = instAt s k) ∧
  (∀ n, (∀ h ∈ pointsOf r, h.point ≠ n) → PointApart s r n → ptAt t n = ptAt s n) ∧
  (∀ h ∈ pointsOf r, (∀ g ∈ pointsOf r, g.point = h.point → g.pos = h.pos) → PointApart s r h.point →
    ptAt t h.point = (ptAt s h.point).map
      (lockedIn (desc s).params.pointTimeout h.pos ((pointsOf r).countP (fun g => g.point == h.point)))) ∧
  (∀ h ∈ pointsOf r, (∀ g ∈ pointsOf r, g.point = h.point → g.pos = h.pos) → ∀ st, ptAt s h.point = some st →
    st.locks = 0 → st.reported ≠ provenIn h.pos → ¬ (st.reported = .moving ∧ st.commanded = some h.pos) →
    Offered (.pointMove h.point h.pos) s t) ∧
  (∀ road, deckCheck s r = .move road → ∃ d e, s.deck = some d ∧ (desc s).deck = some e ∧
    Offered (.deckTurn road (resolveSense e.n (startIndex d) road .short)) s t ∧
    t.deck = some { d with
      pos := .moving (startIndex d) road (resolveSense e.n (startIndex d) road .short), req := some (.inst slot party),
      doubt := 0, timer := some (moveTime (desc s).params
        (stepsOf e.n (startIndex d) road (resolveSense e.n (startIndex d) road .short))) }) ∧
  ((∀ road, deckCheck s r ≠ .move road) → t.deck = s.deck)

/-- An instance released at once (R75, R78): its slot is free, the sections and overlap sections it held have no lock, its
points carry one lock fewer for each place on its list, and no other instance changes. -/
def ReleasedAtOnce (slot : Nat) (i : Inst) (r : RouteEntry) (s t : State) : Prop :=
  instAt t slot = none ∧ (∀ k, k ≠ slot → instAt t k = instAt s k) ∧
  (∀ n st, secAt s n = some st → secAt t n = some { st with
    lock := if (st.lock = some { slot := slot, role := .route } ∧ ∃ x ∈ r.sections, x.1 = n) ∨
        (st.lock = some { slot := slot, role := .overlap } ∧ n ∈ i.overlap) then none else st.lock }) ∧
  (∀ n, ptAt t n = (ptAt s n).map (fun st => { st with locks := st.locks - i.held.countP (fun h => h.point == n) })) ∧
  t.deck = s.deck

/-- An instance enters RELEASING (R77, R79): its origin is recorded, its approach release timer runs, and every lock is
kept. -/
def EntersReleasing (slot : Nat) (i : Inst) (origin : Origin) (s t : State) : Prop :=
  instAt t slot = some { i with
    state := .releasing, origin := some origin, approach := .running ((desc s).params.approachTime * 1000) } ∧
  (∀ k, k ≠ slot → instAt t k = instAt s k) ∧ t.il.sections = s.il.sections ∧ t.il.points = s.il.points ∧
  t.deck = s.deck

/-! ### The life of an instance -/

/-- What R61 asks of an instance in SETTING: every point proven where it is needed, and its deck claim LOCKED or not
needed. -/
def ReadyToSet (s : State) (i : Inst) : Prop :=
  (∀ h ∈ i.held, ptProven s h.point h.pos = true) ∧
  (i.claim = .locked ∨ ∀ r, routeAt s i.route = some r → r.deckReq = none ∧ ∀ x ∈ r.sections, isDeckSection s x.1 = false)

/-- The test of R61 on an instance in SETTING: it stays, becomes SET, or, with its first section PASSED before, goes straight
on to OCCUPIED (R68). -/
def SetTested (slot : Nat) (i : Inst) (s t : State) : Prop :=
  (¬ ReadyToSet s i → instAt t slot = some i) ∧
  (ReadyToSet s i → i.firstPassing = none → instAt t slot = some { i with state := .set }) ∧
  (∀ x, ReadyToSet s i → i.firstPassing = some x → ∀ j, instAt t slot = some j → j.state = .occupied ∧ j.entering = some x)

/-- A step makes the mark of a section PASSED; that of the first section names the first-passing train (R67). -/
def passedMark (k x : Nat) (i : Inst) : Inst :=
  { i with marks := i.marks.set k .passed, firstPassing := if k = 0 then some x else i.firstPassing }

/-- Section `k` of an instance is PASSED and CLEAR (R69). -/
def PassedAndClear (s : State) (i : Inst) (r : RouteEntry) (k : Nat) : Prop :=
  i.marks[k]? = some .passed ∧ ∃ x st, r.sections[k]? = some x ∧ secAt s x.1 = some st ∧ st.occ = .clear

/-- Sections `k` to `k + m - 1` of an instance released in order (R70): their locks go, the points they name are given back,
and the flank points too when no section is left; with no section and no overlap left the instance is freed (R71). -/
def ReleasedInOrder (slot : Nat) (i : Inst) (r : RouteEntry) (k m : Nat) (s t : State) : Prop :=
  let marks := (List.range m).foldl (fun l q => l.set (k + q) .released) i.marks
  let gone := marks.all (· == .released)
  let given := fun (h : HeldPoint) => match h.idx with | some q => decide (k ≤ q ∧ q < k + m) | none => gone
  let freed := gone && i.overlap.isEmpty
  (∀ n st, secAt s n = some st → secAt t n = some { st with
    lock := if ((r.sections.drop k).take m).any (fun x => x.1 == n) then none else st.lock }) ∧
  instAt t slot = (if freed then none else some { i with marks := marks, held := i.held.filter (fun h => !given h) }) ∧
  (∀ n, ptAt t n = (ptAt s n).map (fun st => { st with
    locks := st.locks - i.held.countP (fun h => h.point == n && (freed || given h)) })) ∧
  (∀ j, j ≠ slot → instAt t j = instAt s j) ∧ t.deck = s.deck

/-- What a supervision expiry of its entering train does to the overlap release timer of an instance (R72). -/
def overlapTimed (s : State) (head out : Nat) (i : Inst) : Inst :=
  let rests := finalSection s i.route = some head ∧ out = 0
  match i.overlapTimer with
  | .stopped =>
    if rests ∧ i.overlap ≠ [] then { i with overlapTimer := .running ((desc s).params.overlapTime * 1000) } else i
  | .running _ => if rests then i else { i with overlapTimer := .stopped }
  | _ => i

/-! ### The failure of a module -/

/-- The safe values of the items of a failed module (R152 step 4), and no command that waits for it (step 2).  DETECT: its
sections are OCCUPIED and are counted from 0 (R24).  POINT: its points are UNPROVEN with their moves at an end and their
commanded positions kept, and an instance in SETTING that holds one whose report changed is gone (R30).  SIGNAL: its signals
are at STOP (R37).  DECK: the deck is UNPROVEN with no move and no latch, and an instance in SETTING with a claim is gone
(R130).  BUTTON: no level has been seen, and READ-DEMO shows released (R138).  Items of other modules keep theirs. -/
def MadeSafe (a : Nat) (k : ModKind) (s t : State) : Prop :=
  let other := fun (c : RingCmd) => cmdModule (desc s) c ≠ some a
  (∀ c ∈ t.ring.stopRun, other c) ∧ (∀ c ∈ t.ring.queue, other c) ∧ (∀ c, t.ring.slot = some c → other c) ∧
  (k ≠ .traction → t.ctl = s.ctl) ∧
  (k = .detect → ∀ n e st, findItem (desc s).sections n = some e → secAt s n = some st →
    (e.addr = a → (secAt t n).map (·.occ) = some .occupied ∧ clearCountOf t n = 0) ∧
    (e.addr ≠ a → (itemNumbers (desc s).sections).Nodup → (secAt t n).map (·.occ) = some st.occ)) ∧
  (k = .point → ∀ n e st, findItem (desc s).points n = some e → ptAt s n = some st →
    (e.addr = a → neitherOf t n = 0 ∧ (ptAt t n).map (fun x => (x.reported, x.commanded, x.lockedPos, x.timer)) =
      some (.unproven, st.commanded, st.lockedPos, if st.reported = .moving then none else st.timer)) ∧
    (e.addr ≠ a → (itemNumbers (desc s).points).Nodup → (ptAt t n).map (fun x => (x.reported, x.commanded, x.lockedPos, x.timer)) =
      some (st.reported, st.commanded, st.lockedPos, st.timer)) ∧
    (e.addr = a → st.reported ≠ .unproven → ∀ slot i, instAt s slot = some i → i.state = .setting →
      (∃ h ∈ i.held, h.point = n) → instAt t slot = none)) ∧
  (k = .signal → ∀ n g old, findItem (desc s).signals n = some g → g.addr = a → findItem s.il.signals n = some old →
    findItem t.il.signals n = some .stop) ∧
  (k = .deck → ∀ d, s.deck = some d →
    t.deck = some { d with pos := .unproven, req := none, timer := none, latch := none, doubt := 0 } ∧
    ∀ e slot i, (desc s).deck = some e → instAt s slot = some i → i.state = .setting → i.claim ≠ .none →
      instAt t slot = none) ∧
  (k = .button → ∀ n b e, findItem s.demo.buttons n = some b → findItem (desc s).plans n = some e →
    (e.addr = a → findItem t.demo.buttons n = some { b with level := none } ∧
      ∀ x, findItem t.demo.buttons n = some x → shownLevel t n x = some .released) ∧
    (e.addr ≠ a → findItem t.demo.buttons n = some b))

/-! ### The whole-sweep boundary -/

/-- The work of a whole-sweep boundary (R155): WAKING ends in IN-SERVICE, and after WAKE every disturbed section is settled
by its occupancy (R11, R17); a pending REST is entered when every train is still, the deck does not turn and no run stands,
and is abandoned otherwise (R14); and the pending setting becomes the running one, with the timer restarted when that changes
it (R155). -/
def BoundaryWork (s t : State) : Prop :=
  let next := s.ring.pendingSetting.getD s.ring.running
  let quietNow := allStill s = true ∧ deckMoving s = false ∧ s.demo.run = none
  let resting := s.ctl.mode = .inService ∧ s.ctl.pendingRest.isSome = true ∧ quietNow
  (¬ resting → (s.ctl.mode = .waking → s.ctl.pendingRest = none) →
    t.ring.running = next ∧ t.ring.pendingSetting = none ∧
    t.ring.timer = (if next = s.ring.running then s.ring.timer else some (sweepInterval next)) ∧
    t.ring.nextGroup = (if next = s.ring.running then s.ring.nextGroup else 0)) ∧
  (s.ctl.mode = .waking → s.ctl.pendingRest = none → t.ctl = { s.ctl with mode := .inService } ∧
    (s.ctl.wakeBy = .commit → t.il.sections = s.il.sections) ∧
    (s.ctl.wakeBy = .wake → ∀ n st, secAt s n = some st → ∃ y, secAt t n = some y ∧ y.disturbed = false ∧
      y.occ = st.occ ∧ y.lock = st.lock ∧
      (st.disturbed = false → y.occupant = st.occupant) ∧
      (st.disturbed = true → st.occ = .occupied → y.occupant =
        (match st.occupant with | .train x => Occupant.train x | _ => .unknown)) ∧
      (st.disturbed = true → st.occ = .clear → (∀ x, st.occupant ≠ .train x) → y.occupant = .none))) ∧
  (s.ctl.mode = .inService → s.ctl.pendingRest.isSome = true → ¬ quietNow →
    t.ctl = { s.ctl with pendingRest := none } ∧ inner (t.withCtl s.ctl) = inner s) ∧
  (resting → t.ctl = { s.ctl with mode := .rest, pendingRest := none } ∧ t.trains = s.trains ∧
    t.ring.running = { mode := .full, period := 1000 } ∧ t.ring.service = next ∧ t.ring.pendingSetting = none ∧
    t.ring.timer = some 1000 ∧ t.ring.nextGroup = 0 ∧ t.ring.power = some false ∧ t.ring.postCount = 0 ∧
    t.ring.overloaded = false ∧ t.engine = { s.engine with retry := [] } ∧
    t.deck = s.deck.map (fun d => { d with latch := none }) ∧
    t.il.sections = s.il.sections.map (fun e => (e.1, { e.2 with disturbed := false })) ∧
    (s.demo.failing.mode = false → t.demo.queue = [])) ∧
  (s.ctl.mode ≠ .waking → ¬ (s.ctl.mode = .inService ∧ s.ctl.pendingRest.isSome = true) → inner t = inner s)

/-! ### Safety on the layout -/

/-- The instance in a slot makes a signal proceed-able (R35): it is SET, its route enters at the signal, its locked sections
are CLEAR with occupant none, its points are proven where it needs them, the deck stands as required, and the signal's module
is ACTIVE. -/
def VouchedBy (s : State) (sig slot : Nat) (i : Inst) (r : RouteEntry) : Prop :=
  (slot, i) ∈ s.il.instances ∧ routeAt s i.route = some r ∧ r.entry = sig ∧ i.state = .set ∧
    (∃ g, findItem (desc s).signals sig = some g ∧ moduleActive s g.addr = true) ∧
    (∀ x ∈ r.sections, lockedTo s slot .route x.1 = true → secEmpty s x.1 = true) ∧
    (∀ n ∈ i.overlap, lockedTo s slot .overlap n = true → secEmpty s n = true) ∧
    (∀ h ∈ i.held, ptProven s h.point h.pos = true) ∧
    (r.deckReq.isSome = true → (deckAligned s).isSome = true ∧ deckAligned s = routeTarget s r)

/-- What a proceed aspect of a signal vouches for: some instance makes it proceed-able (R35). -/
def Vouched (s : State) (sig : Nat) : Prop := ∃ slot i r, VouchedBy s sig slot i r

/-- Every supervised train has output 0 (R116). -/
def AllStopped (s : State) : Prop := ∀ t r u, trainAt s t = some r → r.sup = some u → u.output = 0

/-! ### Speed supervision -/

/-- How the authority list begins (R104): the head section, and behind it the sections of the instance that holds it as a
route section and is past SETTING, up to the first that is no longer locked to the instance; with the travel direction at its
end. -/
def AuthorityBegins (s : State) (head : Nat) (heading : Heading) (a : List AuthSec) (dir : Dir) : Prop :=
  let alone : Prop := a = [{ sec := head, route := none }] ∧ dir = headingEnd heading
  (routeInst s head = none → alone) ∧
  (∀ slot i r, routeInst s head = some (slot, i, r) →
    let ahead := ((r.sections.dropWhile (fun x => x.1 != head)).drop 1).takeWhile (fun x => lockedTo s slot .route x.1)
    ((i.state = .setting ∨ ahead = []) → alone) ∧
    (∀ l, i.state ≠ .setting → ahead.getLast? = some l →
      a = { sec := head, route := none } :: ahead.map (fun x => { sec := x.1, route := some i.route }) ∧ dir = l.2))

/-- How it is extended through the signals ahead (R105): it stops at 16 sections, where no signal stands, and at a signal
that shows STOP (or, in no state that a run reaches, whose stored aspect no instance with a section vouches for); through any
other it takes the sections of the instance that makes the signal proceed-able. -/
inductive AuthorityRuns (s : State) : List AuthSec → Dir → List AuthSec → Prop
  | full (a : List AuthSec) (dir : Dir) : 16 ≤ a.length → AuthorityRuns s a dir (a.take 16)
  | noSignal (a : List AuthSec) (dir : Dir) : a.length < 16 →
      (∀ x, a.getLast? = some x → endSignal s x.sec dir = none) → AuthorityRuns s a dir a
  | stop (a : List AuthSec) (dir : Dir) (x : AuthSec) (g : Nat) : a.length < 16 → a.getLast? = some x →
      endSignal s x.sec dir = some g →
      (showsProceed s g = false ∨ ¬ Vouched s g ∨ ∃ slot i r, VouchedBy s g slot i r ∧ r.sections = []) →
      AuthorityRuns s a dir a
  | through (a b : List AuthSec) (dir : Dir) (x : AuthSec) (g slot : Nat) (i : Inst) (r : RouteEntry) (l : Nat × Dir) :
      a.length < 16 → a.getLast? = some x → endSignal s x.sec dir = some g → showsProceed s g = true →
      VouchedBy s g slot i r → r.sections.getLast? = some l →
      AuthorityRuns s (a ++ r.sections.map (fun y => { sec := y.1, route := some i.route })) l.2 b →
      AuthorityRuns s a dir b

/-- The speed limit of a section (R106): the line limit of its entry (0 for a section that is not described), and no more than
the shunt limit while the section is locked in the role ROUTE to an instance of a SHUNT route. -/
def speedLimit (s : State) (n : Nat) : Nat :=
  let line := ((findItem (desc s).sections n).map (·.limit)).getD 0
  let shunted := (secAt s n).any (fun st => st.lock.any (fun l => l.role == .route &&
    (instAt s l.slot).any (fun i => (routeAt s i.route).any (fun r => r.cls == .shunt))))
  if shunted ∧ (desc s).params.shuntLimit < line then (desc s).params.shuntLimit else line

/-- The release speed is a floor for the cap of the end of authority (R109): the head section is the last of the list and the
last of a MAIN route whose instance holds it, and every overlap section of that route, of which there is one, is still locked
to the instance.  That the instance holds the head section as ROUTE is the model's reading of R109 (log entry 15). -/
def ReleaseFloor (s : State) (head : Nat) (auth : List AuthSec) : Prop :=
  (∃ x, auth.getLast? = some x ∧ x.sec = head) ∧
  ∃ slot i r, routeInst s head = some (slot, i, r) ∧ r.cls = .main ∧ (∃ x, r.sections.getLast? = some x ∧ x.1 = head) ∧
    r.overlap ≠ [] ∧ ∀ n ∈ r.overlap, lockedTo s slot .overlap n = true

/-- The permitted speed of a train that is not DISRUPTED (R110): the least of 1023, its vmax, the limit of the head section,
the braking cap of every section after the head and that of the end of authority, which R109 raises. -/
def PermittedIs (s : State) (e : TrainEntry) (head offset : Nat) (auth : List AuthSec) (v : Nat) : Prop :=
  let remainder := secLength s head - offset / 20
  let lengths := fun (l : List AuthSec) => (l.map (fun x => secLength s x.sec)).sum
  let cap := fun (limit dist : Nat) => brakingCap limit e.brake (desc s).params.stopMargin dist
  let secCap := fun (k : Nat) (x : AuthSec) => cap (speedLimit s x.sec) (remainder + lengths ((auth.drop 1).take (k - 1)))
  let endCap := cap 0 (remainder + lengths (auth.drop 1))
  let raised : Prop := endCap < (desc s).params.releaseSpeed ∧ ReleaseFloor s head auth
  v ≤ 1023 ∧ v ≤ e.vmax ∧ v ≤ speedLimit s head ∧ (∀ k x, 1 ≤ k → auth[k]? = some x → v ≤ secCap k x) ∧
  (raised → v ≤ (desc s).params.releaseSpeed) ∧ (¬ raised → v ≤ endCap) ∧
  (v = 1023 ∨ v = e.vmax ∨ v = speedLimit s head ∨ (∃ k x, 1 ≤ k ∧ auth[k]? = some x ∧ v = secCap k x) ∨
    (raised ∧ v = (desc s).params.releaseSpeed) ∨ (¬ raised ∧ v = endCap))

/-! ### The deck -/

/-- What the re-check of a latched move leaves of an ALIGNED deck with the all-stop latch clear (R127 step 5, R131): the
latch is empty, and the move has started when it leads elsewhere and no start condition fails. -/
def latchTaken (s : State) (d : DeckState) (e : DeckEntry) (l : Latch) (j : Nat) : DeckState :=
  let turn := resolveSense e.n j l.road l.sense
  if l.road ≠ j ∧ startFails s e = none then
    { d with latch := none, pos := .moving j l.road turn, req := some (.port l.port), doubt := 0,
             timer := some (moveTime (desc s).params (stepsOf e.n j l.road turn)) }
  else { d with latch := none }

/-! ### Demonstrations -/

/-- A train but for its last notified output, which every TRAIN record writes (R118). -/
def trainView (r : TrainRec) : TrainRec := { r with sup := r.sup.map (fun u => { u with notified := 0 }) }

/-- The head entry of the queue may be admitted (R142). -/
def MayAdmit (s : State) (e : DemoEntry) (pl : PlanEntry) : Prop :=
  e.accepted = true ∧ planEntry s e.plan = some pl ∧ isOpen s.demo.failing = true ∧ s.demo.run = none ∧
  s.demo.cancel = [] ∧ ∃ r, trainAt s pl.train = some r ∧ r.state = .placed ∧ r.driver = none ∧
    r.list.getLast? = some pl.start ∧ outputOf s pl.train = 0

/-- The queue with the admission timer of an ACCEPTED head running (R142). -/
def headTimed (s : State) : List DemoEntry → List DemoEntry
  | [] => []
  | e :: l =>
    if e.accepted = true ∧ e.admission = none then
      { e with admission := some ((desc s).params.admission * 1000) } :: l
    else e :: l

/-- The admission test with the queue at `l` (R142): a head that may be admitted leaves the queue and its plan runs, with the
route request for its first route in hand, its train driven by DEMO at the plan's throttle, and no other train changed
(R143); otherwise nothing but the queue changes. -/
def Tested (l : List DemoEntry) (s t : State) : Prop :=
  t.demo.cancel = s.demo.cancel ∧
  (∀ e rest pl, l = e :: rest → MayAdmit s e pl →
    t.demo.queue = headTimed s rest ∧
    t.demo.run = some { plan := e.plan, train := pl.train, next := 1, hand := .fresh, insts := [],
                        left := (desc s).params.runLimit * 1000, paused := false } ∧
    (trainAt t pl.train).map trainView = (trainAt s pl.train).map (fun r =>
      trainView { r with driver := some .demo, throttle := pl.throttle, pendRev := false }) ∧
    ∀ y, y ≠ pl.train → (trainAt t y).map trainView = (trainAt s y).map trainView) ∧
  ((∀ e rest pl, l = e :: rest → ¬ MayAdmit s e pl) → t.demo.queue = l ∧ t.demo.run = s.demo.run ∧
    ∀ y, (trainAt t y).map trainView = (trainAt s y).map trainView)

/-- What the end of a run makes of the state before the admission test (R144, R147): no run, the cancel list as given, and the
train with no driver and throttle 0. -/
def endedRun (r : Run) (cancel : List Nat) (s : State) : State :=
  updateTrain (s.withDemo { s.demo with run := none, cancel := cancel }) r.train (fun x =>
    { x with driver := none, throttle := 0 })

/-- The abort of a run (R147): its instances in SETTING or SET join the cancel list, the train has no driver, the run is gone,
and the admission test follows.  That they join it in the order of the running record is the model's choice (log entry
14). -/
def Aborted (r : Run) (s t : State) : Prop :=
  Tested s.demo.queue (endedRun r (s.demo.cancel ++ (r.insts.map (·.1)).filter (fun slot =>
    (instAt s slot).any (fun i => i.state == .setting || i.state == .set))) s) t

/-- The entries of plan `n` accepted (R140): as the head an entry has its admission timer running and is tested; behind it
nothing more happens. -/
def EntryAccepted (n : Nat) (s t : State) : Prop :=
  let l := s.demo.queue.map (fun e => if e.plan = n then { e with accepted := true, screening := none } else e)
  ((∃ e, l.head? = some e ∧ e.plan = n) → Tested (headTimed s l) s t) ∧
  ((∀ e, l.head? = some e → e.plan ≠ n) → t.demo.queue = l ∧ t.demo.run = s.demo.run ∧ t.demo.cancel = s.demo.cancel ∧
    t.trains = s.trains)

/-- The entries of plan `n` off the queue (R141, R142): when one was the head, the new head is made ready; otherwise nothing
more happens. -/
def EntryGone (n : Nat) (s t : State) : Prop :=
  let l := s.demo.queue.filter (fun e => e.plan != n)
  ((∃ e, s.demo.queue.head? = some e ∧ e.plan = n) → Tested (headTimed s l) s t) ∧
  ((∀ e, s.demo.queue.head? = some e → e.plan ≠ n) → t.demo.queue = l ∧ t.demo.run = s.demo.run ∧
    t.demo.cancel = s.demo.cancel ∧ t.trains = s.trains)

/-- An accepted entry of plan `n` stands in the queue, or the plan runs. -/
def Standing (n : Nat) (t : State) : Prop :=
  (∃ e ∈ t.demo.queue, e.plan = n ∧ e.accepted = true) ∨ ∃ r, t.demo.run = some r ∧ r.plan = n

/-- What the demonstrations leave alone: all but themselves, the trains and the ring. -/
def DemoFrame (s t : State) : Prop := inner ((t.withDemo s.demo).withTrains s.trains) = inner s

/-- A run completes at its train's supervision expiry (R144): every route of the plan is ACCEPTED, the run is not paused, and
the train stands with its head in the final section of the plan's last route. -/
def Completes (s : State) (r : Run) : Prop :=
  ∃ pl route n, planEntry s r.plan = some pl ∧ r.next = pl.routes.length + 1 ∧ r.paused = false ∧
    outputOf s r.train = 0 ∧ pl.routes.getLast? = some route ∧ finalSection s route = some n ∧
    trainHead s r.train = some n

/-- The lamp of a plan (R137). -/
def lampShown (d : Demo) (n : Nat) : Lamp :=
  if d.failing.mode || d.failing.screening || d.failing.allStop then .closed
  else if d.run.any (fun r => r.plan == n) then .running
  else if d.queue.any (fun e => e.plan == n) then .queued else .ready

end Sys2Proof.Machine
end

