-- ==== Sys2Proof/Certificates/Slice0/Obligations.lean ====
section
/-! DEFINITION. The statements about the controller, chapter by chapter.  A statement reads a state through the accessors of
Machine/Ops.lean, through `quiet` (everything but what reporting may change) and through `inner` (the same without the
ring); `answered` and `heard` are what a response and a valid frame do to their port (Sys2Proof/Safety.lean). -/

open Sys2Proof Sys2Proof.Machine

/-! ### The step -/

/-- One step takes the command at the front of the queue and runs it on the rest. -/
def Obligations.StepRunsTheFrontCommand : Prop :=
  ∀ (c : Instr) (rest : List Instr) (s : State), step { s with pending := c :: rest } = exec c { s with pending := rest }

/-- With no command waiting 1 ms passes: every timer has 1 ms less left, the expiries are put in the queue, and nothing
else changes.  The model's choice (log entry 2). -/
def Obligations.EmptyQueueLetsOneMillisecondPass : Prop :=
  ∀ s : State, s.pending = [] → ∃ t, step s = .next t ∧ t.now = s.now + 1 ∧ t.pending = expiries s ∧
    t.freeSeed = s.freeSeed ∧ t.store = s.store ∧ t.ctl = s.ctl ∧ t.counters = s.counters ∧
    t.il.sections = s.il.sections ∧ t.il.signals = s.il.signals ∧ t.il.districts = s.il.districts ∧
    (∀ n, ptAt t n = (ptAt s n).map (fun x => { x with timer := x.timer.map (· - 1) })) ∧
    (∀ i, instAt t i = (instAt s i).map tickInst) ∧
    (∀ n, trainAt t n = (trainAt s n).map tickTrain) ∧
    t.engine = { s.engine with retry := s.engine.retry.map (fun e => { e with left := e.left - 1 }) } ∧
    t.deck = s.deck.map (fun d => { d with timer := d.timer.map (· - 1) }) ∧ t.demo = tickDemo s.demo ∧
    t.ring = { s.ring with timer := s.ring.timer.map (· - 1) } ∧
    (∀ p, portAt t p = { portAt s p with
      silenceTimer := (portAt s p).silenceTimer.map (· - 1), holdTimer := (portAt s p).holdTimer.map (· - 1),
      holdOff := (portAt s p).holdOff.map (· - 1) })

/-! ### Reset (R22, R169, R179, R180, R184) -/

/-- Power-on reset brings Mode Control and the Layout Store to the table of R22, at either level of the input. -/
def Obligations.PowerOnResetState : Prop :=
  ∀ (asserted : Bool) (s : State), ∃ t, exec (.powerOnReset asserted) s = .next t ∧
    t.ctl.mode = .config ∧ t.ctl.pendingRest = none ∧ t.store.session = none ∧
    (∀ n, findItem t.store.committed.sections n = none ∧ findItem t.store.committed.points n = none ∧
      findItem t.store.committed.signals n = none ∧ findItem t.store.committed.routes n = none ∧
      findItem t.store.committed.trains n = none ∧ findItem t.store.committed.plans n = none) ∧
    t.store.committed.deck = none ∧ t.store.committed.traction = none ∧
    (∀ k, k < 8 → t.store.committed.names[k]? = some 0) ∧ t.store.committed.params = Params.default ∧
    t.store.committed.roles = { screening := none, batchA := false, batchB := false, batchC := false, batchD := false } ∧
    t.ring.service = { mode := .full, period := 100 } ∧ (∀ n, secAt t n = none) ∧ t.ctl.estop = asserted ∧
    t.ctl.allStop = (if asserted then some .emergency else none) ∧
    (∀ p, (portAt t p).state = .offline ∧ (portAt t p).notices = [])

/-- Power-on reset of the other blocks: the reset table of R169 for every port, every counter 0 with its flag clear, the
selections ROUTES-SET with ANY, the lists empty and the districts free; the rotation pointer at A with batch count 0, every
module address of kind and state ABSENT, the commanded power none with no mismatch, the sweep FULL at 100 ms with its timer
stopped, no run and an empty cancel list, no deck state and no train record.  `tx` is the model's own (log entry 22). -/
def Obligations.PowerOnResetOfTheOtherBlocks : Prop :=
  ∀ (asserted : Bool) (s : State), ∃ t, exec (.powerOnReset asserted) s = .next t ∧
    (∀ p, { portAt t p with tx := [] } =
      { state := .offline, assembler := .idle, malformed := 0, queue := [], responses := [], overruns := 0,
        pendingHold := none, holding := false, holdTimer := none, holdOff := none, notices := [], lost := 0,
        subs := BitVec.allOnes 13, trigger := 1, silence := 500, silenceTimer := none, tx := [] }) ∧
    (∀ k, k < 12 → t.counters.values[k]? = some 0#32 ∧ t.counters.half[k]? = some false) ∧
    (∀ k, k < 4 → t.counters.sel[k]? = some { event := .routesSet, qual := .any }) ∧
    t.engine.retry = [] ∧ t.demo.queue = [] ∧ t.ring.stopRun = [] ∧ t.ring.queue = [] ∧ t.ring.slot = none ∧
    (∀ k, k < 8 → t.il.districts[k]? = some { holder := none, demoOk := false }) ∧
    t.engine.pointer = .port .a ∧ t.engine.batch = 0 ∧
    (∀ a, (moduleAt t a).kind = .absent ∧ (moduleAt t a).state = .absent) ∧ t.ring.power = none ∧ t.ring.mismatch = false ∧
    t.ring.running = { mode := .full, period := 100 } ∧ t.ring.timer = none ∧ t.demo.run = none ∧ t.demo.cancel = [] ∧
    t.deck = none ∧ ∀ x, trainAt t x = none

/-! ### Capacities: an invariant of every step -/

/-- The model's reset state is what power-on reset with the input released leaves of it, which is the model's choice (log
entry 22), and it keeps every capacity and holding. -/
def Obligations.ResetKeepsCapacities : Prop :=
  exec (.powerOnReset false) State.reset = .next State.reset ∧ Capacities State.reset

/-- From every state that keeps the capacities and holdings, every step leaves a state that keeps them: the lists within
their lengths, the counts within their ranges, a request queue empty unless its port is ONLINE, every holder of a district
ONLINE, and no two retry entries for one route. -/
def Obligations.StepKeepsCapacities : Prop :=
  ∀ s t : State, Capacities s → step s = .next t → Capacities t

/-! ### The all-stop latch (R19 to R21) -/

/-- The all-stop latch set by each of the four causes of R20: by ALL-STOP with cause PORT, answered DONE; by the assertion
of the emergency-stop input with cause EMERGENCY; by a good answer of the traction module that shows OVERLOAD; and by the
failure of that module, with cause TRACTION-FAILED.  Every train's output is 0, the mode and a pending REST stay, and
nothing but the trains, the demonstrations and the ring changes beside the latch (where the outcome of a poll ends the
sweep, the work of the whole-sweep boundary follows).  A latch that is set keeps its cause, and ALL-STOP is still answered
DONE.  The release of the input changes nothing but the input's state. -/
def Obligations.AllStopLatchSet : Prop :=
  ∀ s : State,
    (s.ctl.allStop = none →
      (s.ctl.estop = false → ∃ t, exec .emergencyStopAsserted s = .next t ∧
        t.ctl = { s.ctl with estop := true, allStop := some .emergency } ∧ AllStopped t ∧
        inner (((t.withTrains s.trains).withCtl s.ctl).withDemo s.demo) = inner s) ∧
      (∀ p tag, (portAt s p).state = .online → hasPlace s p = true → ∃ t, exec (.allStop p tag) s = .next t ∧
        t.ctl = { s.ctl with allStop := some (.port p) } ∧ AllStopped t ∧
        inner (((t.withTrains s.trains).withCtl s.ctl).withDemo s.demo) = inner (respond p tag (.done []) (heard p s)))) ∧
    (∀ cause, s.ctl.allStop = some cause → exec .emergencyStopAsserted s = .next (s.withCtl { s.ctl with estop := true }) ∧
      (∀ p tag, (portAt s p).state = .online →
        exec (.allStop p tag) s = .next (respond p tag (.done []) (heard p s)))) ∧
    (∀ a m, s.ring.window = some a → findItem s.ring.modules a = some m → m.kind = .traction →
      let stopped := fun (t : State) (cause : StopCause) =>
        (s.ctl.allStop = none → t.ctl.allStop = some cause ∧ AllStopped t ∧
          (s.ring.todo ≠ [] → t.ctl = { s.ctl with allStop := some cause } ∧
            inner (((t.withTrains s.trains).withCtl s.ctl).withDemo s.demo) = inner s)) ∧
        (s.ctl.allStop.isSome = true → t.ctl.allStop = s.ctl.allStop)
      (∀ frame b, goodFrame a .traction frame = true → payloadOf frame = [b] → b.getLsbD 1 = true →
        ∃ t, exec (.goodAnswer frame) s = .next t ∧ stopped t .overload) ∧
      (∀ got, goodFrame a .traction got = false → m.state = .active → 2 ≤ m.misses →
        ∃ t, exec (.miss got) s = .next t ∧ (moduleAt t a).state = .failed ∧ stopped t .tractionFailed)) ∧
    exec .emergencyStopReleased s = .next (s.withCtl { s.ctl with estop := false })

/-- RESUME: DONE and no change at a clear latch; the latch cleared when the input is released and, outside CONFIG, the
traction module is ACTIVE with no OVERLOAD in its latest answer; otherwise ESTOP-ACTIVE and the latch stays.  The clearing
checks a latched deck move of an ALIGNED deck again, which then starts or is refused (R131). -/
def Obligations.ResumeClearsTheLatch : Prop :=
  ∀ (p : PortId) (tag : Byte) (s : State), (portAt s p).state = .online → hasPlace s p = true →
    (s.ctl.allStop = none → exec (.resume p tag) s = .next (respond p tag (.done []) (heard p s))) ∧
    (s.ctl.allStop.isSome = true →
      if s.ctl.estop = false ∧ (s.ctl.mode = .config ∨ (tractionActive s = true ∧ tractionOverload s = false)) then
        ∃ t, exec (.resume p tag) s = .next t ∧ t.ctl = { s.ctl with allStop := none } ∧ t.store = s.store ∧
          t.engine = s.engine ∧ t.il.sections = s.il.sections ∧ t.il.points = s.il.points ∧
          t.il.instances = s.il.instances ∧
          (∀ d e l j, s.deck = some d → (desc s).deck = some e → d.latch = some l → d.pos = .aligned j →
            t.deck = some (latchTaken s d e l j)) ∧
          ((∀ d l j, s.deck = some d → d.latch = some l → d.pos ≠ .aligned j) → t.deck = s.deck) ∧
          (portAt t p).responses = (portAt s p).responses ++ [{ tag := tag, answer := .done [] }]
      else exec (.resume p tag) s = .next (respond p tag (.refused .estopActive .none) (heard p s)))

/-! ### The desk ports (chapter 10) -/

/-- The immediate requests that set a port's own values, at an ONLINE port with a free place: the value stored, the timers
it sets, DONE with the value stored; PRESENT is not answered.  Nothing but the port changes.  That SET-SUBSCRIPTION ignores
the three bits of weight 2^13 to 2^15, which name no class, is the model's choice (log entry 12). -/
def Obligations.PortSettings : Prop :=
  ∀ (p : PortId) (tag : Byte) (v : Nat) (s : State), (portAt s p).state = .online → hasPlace s p = true →
    let q := portAt (heard p s) p
    let silence := if v = 0 then 0 else if v < 100 then 100 else if 5000 < v then 5000 else v
    let off := if 6000 < v then 6000 else v
    let level := if v ≤ 1 then 1 else if v = 2 then 2 else if v ≤ 4 then 4 else 6
    exec (.present p tag) s = .next (setPort s p q) ∧
    exec (.setSilence p tag v) s = .next (setPort s p { q with
      silence := silence, silenceTimer := if silence = 0 then none else some silence,
      responses := q.responses ++ [{ tag := tag, answer := .done [byte (silence / 256), byte silence] }] }) ∧
    exec (.holdOff p tag v) s = .next (setPort s p { q with
      holdOff := if off = 0 then none else some (off * 10),
      responses := q.responses ++ [{ tag := tag, answer := .done [byte (off / 256), byte off] }] }) ∧
    exec (.setSubscription p tag v) s = .next (setPort s p { q with
      subs := BitVec.ofNat 13 v, responses := q.responses ++ [{ tag := tag, answer := .done [] }] }) ∧
    exec (.setTrigger p tag v) s = .next (setPort s p { q with
      trigger := level, responses := q.responses ++ [{ tag := tag, answer := .done [byte level] }] })

/-- A valid frame of any kind at an OFFLINE or LOST port makes it ONLINE with its malformed run 0 and its assembler idle,
and starts its silence timer (from the new interval, where the frame is SET-SILENCE). PRESENT does that and nothing else
at the port but for its notice queue and lost count, and nothing in the Layout Store, the Interlocking Unit, the Route Engine
or the deck. -/
def Obligations.ValidFrameBringsOnline : Prop :=
  ∀ (p : PortId) (tag : Byte) (s : State), (portAt s p).state = .offline ∨ (portAt s p).state = .lost →
    let started := fun (ms : Nat) => if ms = 0 then none else some ms
    (∀ c kind body, encodeCommand c = some (p, kind, tag, body) → ∃ t, exec c s = .next t ∧
      (portAt t p).state = .online ∧ (portAt t p).malformed = 0 ∧ (portAt t p).assembler = .idle ∧
      ((∀ v, c ≠ .setSilence p tag v) → (portAt t p).silenceTimer = started (portAt s p).silence) ∧
      (∀ v, c = .setSilence p tag v → (portAt t p).silenceTimer = started (portAt t p).silence)) ∧
    ∃ t, exec (.present p tag) s = .next t ∧
      quietPort (portAt t p) = quietPort { portAt s p with
        state := .online, assembler := .idle, malformed := 0, silenceTimer := started (portAt s p).silence } ∧
      t.store = s.store ∧ t.il = s.il ∧ t.engine = s.engine ∧ t.deck = s.deck ∧
      (∀ q, q ≠ p → quietPort (portAt t q) = quietPort (portAt s q))

/-- An ISOLATED port ignores every valid frame and every malformed one. -/
def Obligations.IsolatedPortIgnoresFrames : Prop :=
  ∀ (p : PortId) (s : State), (portAt s p).state = .isolated →
    (∀ c kind tag body, encodeCommand c = some (p, kind, tag, body) → exec c s = .next s) ∧
    (∀ chars, exec (.malformedFrame p chars) s = .next s)

/-- An ordered request at an ONLINE port joins a queue of fewer than 8 at its tail; a depth that reaches 6 while not
holding makes HOLD(200) pending and starts the hold timer.  One that finds 8 is refused QUEUE-FULL and does not join.
The row ORDERED_REQUEST is the arrival alone (log entry 6). -/
def Obligations.OrderedRequestJoinsTheQueue : Prop :=
  ∀ (p : PortId) (tag : Byte) (r : Request) (s : State), (portAt s p).state = .online →
    let q := portAt (heard p s) p
    ((portAt s p).queue.length < 8 → exec (.orderedRequest p tag r) s = .next (setPort s p
      (if (portAt s p).queue.length = 5 ∧ (portAt s p).holding = false then
        { q with queue := q.queue ++ [{ tag := tag, req := r }], pendingHold := some 200, holding := true,
                 holdTimer := some 2000 }
       else { q with queue := q.queue ++ [{ tag := tag, req := r }] }))) ∧
    (8 ≤ (portAt s p).queue.length → ∃ t, exec (.orderedRequest p tag r) s = .next t ∧
      quiet t = quiet (respond p tag (.refused .queueFull .none) (heard p s)))

/-- The head of a queue: with a free place in the response list its leaving takes it off the queue and puts its response
in the list, and a depth that falls to 2 while holding makes HOLD(0) pending and ends the hold.  While the list is full the
head waits, whatever ordered request it is.  The row of a request's own name is its service as the head (log entry 6). -/
def Obligations.HeadOfTheQueue : Prop :=
  ∀ (p : PortId) (s : State),
    (∀ tag r a, Heads s p tag r → responsesOf tag a = [{ tag := tag, answer := a }] →
      let q := portAt s p
      let held : Port := { q with queue := q.queue.drop 1, responses := q.responses ++ [{ tag := tag, answer := a }] }
      answered p tag a s = setPort s p
        (if q.queue.length = 3 ∧ q.holding = true then
          { held with pendingHold := some 0, holding := false, holdTimer := none } else held)) ∧
    (hasPlace s p = false → ∀ c ∈ [Instr.beginConfig p, .loadSection p, .loadPoint p, .loadSignal p, .loadRoute p, .loadRoutePoints p,
        .loadDistrict p, .loadDeck p, .loadDeckRoad p, .loadTrain p, .loadPlan p, .loadTraction p, .loadPortRoles p,
        .loadParameter p, .commitConfig p, .abandonConfig p, .rest p, .wake p, .reconfigure p, .takeDistrict p,
        .giveDistrict p, .setDistrictFlags p, .movePoint p, .setRoute p, .cancelRoute p, .placeTrain p, .removeTrain p,
        .takeTrain p, .giveTrain p, .restoreTrain p, .turnDeck p, .passDemo p, .vetoDemo p, .setSweepMode p,
        .selectCounter p, .decrementCounter p], exec c s = .next s)

/-- Flow control and the transmitter: the expiry of the hold timer at depth 3 or more asks the board to hold again, and the
expiry of the board hold-off ends it.  An ONLINE or LOST port sends a pending HOLD frame first, and otherwise the oldest
response, which leaves the list. -/
def Obligations.FlowControlAndTransmitter : Prop :=
  ∀ (p : PortId) (s : State),
    ((portAt s p).holding = true → (portAt s p).holdTimer.isSome = true → 3 ≤ (portAt s p).queue.length →
      exec (.holdTimerExpiry p) s =
        .next (setPort s p { portAt s p with pendingHold := some 200, holdTimer := some 2000 })) ∧
    exec (.holdOffExpiry p) s = .next (setPort s p { portAt s p with holdOff := none }) ∧
    ((portAt s p).state = .online ∨ (portAt s p).state = .lost →
      (∀ n, (portAt s p).pendingHold = some n → exec (.transmitHold p) s = .next (setPort s p { portAt s p with
        pendingHold := none, tx := [0xA5#8, 4#8, 0x91#8, 0#8, byte (n / 256), byte n] }) ∧
        exec (.transmitResponse p) s = .next s) ∧
      (∀ r l, (portAt s p).pendingHold = none → (portAt s p).responses = r :: l →
        exec (.transmitResponse p) s = .next (setPort s p { portAt s p with responses := l, tx := responseFrame r })))

/-- A NOTICE frame: sent when nothing else waits, no hold-off runs and the trigger level or the age of the oldest record
asks for it.  It carries the oldest records, six at most and no more than LENGTH 60 allows, and they leave the queue.
The bytes of an ABSENT train in a record are free (log entry 4). -/
def Obligations.TransmitNoticeFrame : Prop :=
  ∀ (p : PortId) (s : State) (e : QueuedNotice) (l : List QueuedNotice),
    (portAt s p).state = .online ∨ (portAt s p).state = .lost → (portAt s p).pendingHold = none →
    (portAt s p).responses = [] → (portAt s p).holdOff = none → (portAt s p).notices = e :: l →
    ((portAt s p).trigger ≤ l.length + 1 ∨ e.entered + 20 ≤ s.now) →
    ∃ t k, exec (.transmitNotice p) s = .next t ∧ k ≤ 6 ∧ k ≤ l.length + 1 ∧
      (portAt t p).tx = noticeFrame s.freeSeed (((portAt s p).notices.take k).map (·.notice)) ∧
      (bNotices s.freeSeed (((portAt s p).notices.take k).map (·.notice))).length ≤ 58 ∧
      (k < 6 → k < l.length + 1 →
        58 < (bNotices s.freeSeed (((portAt s p).notices.take (k + 1)).map (·.notice))).length) ∧
      ((portAt s p).lost = 0 → (portAt t p).notices = (portAt s p).notices.drop k) ∧
      quiet t = quiet ((setPort s p { portAt s p with tx := (portAt t p).tx }).withSeed t.freeSeed)

/-- A port that leaves ONLINE by the silence timer: LOST with its timers stopped, its hold state and its request queue
empty; it gives up its districts, its trains, its retry entries and its session.  Its responses and its subscriptions
stay, and so do the route instances and the deck, and what the other ports hold: their districts, their trains (but one that
a demonstration runs, which a clearing of the service lets go) and their retry entries. -/
def Obligations.SilenceTimeoutMakesLost : Prop :=
  ∀ (p : PortId) (s : State), (portAt s p).state = .online → (portAt s p).silenceTimer.isSome = true →
    ∃ t, exec (.silenceTimeout p) s = .next t ∧
      quietPort (portAt t p) = quietPort { portAt s p with
        state := .lost, silenceTimer := none, holdTimer := none, holding := false, queue := [] } ∧
      HoldsNothing t p ∧ OthersKeep p s t ∧ t.il.instances = s.il.instances ∧ t.il.sections = s.il.sections ∧
      t.deck = s.deck ∧ t.ctl = s.ctl ∧ (∀ q, q ≠ p → quietPort (portAt t q) = quietPort (portAt s q))

/-- A break resets the port whatever its state (the table of R169), and a port that was ONLINE gives up what it holds; a
frame already begun stays on the line.  What the other ports hold stays.  That the bytes of `tx` stay is the model's (log
entry 22). -/
def Obligations.BreakResetsThePort : Prop :=
  ∀ (p : PortId) (s : State), ∃ t, exec (.breakLine p) s = .next t ∧
    portAt t p =
      { state := .offline, assembler := .idle, malformed := 0, queue := [], responses := [], overruns := 0,
        pendingHold := none, holding := false, holdTimer := none, holdOff := none, notices := [], lost := 0,
        subs := BitVec.allOnes 13, trigger := 1, silence := 500, silenceTimer := none, tx := (portAt s p).tx } ∧
    ((portAt s p).state = .online → HoldsNothing t p) ∧ OthersKeep p s t ∧
    ((portAt s p).state ≠ .online → quiet t = quiet (setPort s p (portAt t p))) ∧
    t.il.instances = s.il.instances ∧ t.il.sections = s.il.sections ∧ t.deck = s.deck ∧ t.ctl = s.ctl

/-- A malformed frame at a port that is not ISOLATED: the malformed run increases by 1 and nothing else changes; at 8 the
port becomes ISOLATED with its request queue, response list and notice queue empty, and it holds nothing it held while
ONLINE.  A gap of more than 4 character times ends the frame being collected as malformed, and the byte that ends the gap
goes to the idle assembler as a possible SYNC.  How a malformed frame reaches the model is its choice (log entry 18). -/
def Obligations.MalformedFrameCounts : Prop :=
  ∀ (p : PortId) (chars : List RxChar) (s : State), (portAt s p).state ≠ .isolated →
    (portAt s p).assembler = .idle →
    (Collecting chars → (portAt s p).malformed < 7 → ∀ next : RxChar,
      exec (.frameGapTimeout p chars next) s = .next (setPort s p { portAt s p with
        malformed := (portAt s p).malformed + 1,
        assembler := if next.byte = 0xA5#8 ∧ next.bad = false then .collecting [next.byte] else .idle })) ∧
    (MalformedChars p chars → ∃ t, exec (.malformedFrame p chars) s = .next t ∧ (portAt t p).malformed = (portAt s p).malformed + 1 ∧
      ((portAt s p).malformed < 7 → t = setPort s p { portAt s p with malformed := (portAt s p).malformed + 1 }) ∧
      (7 ≤ (portAt s p).malformed → (portAt t p).state = .isolated ∧ (portAt t p).responses = [] ∧
        (portAt t p).notices = [] ∧ (portAt t p).lost = 0 ∧ (portAt t p).pendingHold = none ∧
        ((portAt s p).state = .online → (portAt t p).queue = [] ∧ HoldsNothing t p)))

/-! ### The configuration session (chapter 1) -/

/-- A LOAD of a section, point, signal or train with its fields in range replaces that entry of the working description
whole and is answered DONE; with its erase flag set it makes the entry undescribed.  Nothing else changes, the committed
description least of all.  A number outside its table is UNKNOWN-ITEM, and a field outside its range is VALIDATION with
fault kind FIELD-RANGE, the table and the item (an erase flag that is no flag counts as such a field: log entry 12). -/
def Obligations.LoadsOfFixedEntries : Prop :=
  ∀ (p : PortId) (tag : Byte) (s : State) (d : Desc), s.ctl.mode = .config →
    s.store.session = some { port := p, working := d } →
    let working := withWorking p s
    let refused := fun (c : Instr) (a : Answer) => exec c s = .next (answered p tag a s)
    let unknown : Answer := .refused .unknownItem .none
    let range := fun (t : TableId) (n : Nat) => Answer.refused .validation (.validation .fieldRange t n)
    (∀ n er len lim dis ad inp up dn fl, Heads s p tag (.loadSection n er len lim dis ad inp up dn fl) →
      (256 ≤ n → refused (.loadSection p) unknown) ∧
      (n < 256 → ¬ (er = 1 ∨ (er = 0 ∧ 50 ≤ len ∧ len ≤ 20000 ∧ lim ≤ 1023 ∧ dis ≤ 7 ∧ ad ≤ 63 ∧ inp ≤ 7 ∧
        (up < 128 ∨ up = 65535) ∧ (dn < 128 ∨ dn = 65535) ∧ fl ≤ 1)) → refused (.loadSection p) (range .sec n))) ∧
    (∀ n er ad out sec dis, Heads s p tag (.loadPoint n er ad out sec dis) →
      (128 ≤ n → refused (.loadPoint p) unknown) ∧
      (n < 128 → ¬ (er = 1 ∨ (er = 0 ∧ ad ≤ 63 ∧ out ≤ 3 ∧ sec ≤ 255 ∧ dis ≤ 7)) →
        refused (.loadPoint p) (range .point n))) ∧
    (∀ n er sec e k ad out dis, Heads s p tag (.loadSignal n er sec e k ad out dis) →
      (128 ≤ n → refused (.loadSignal p) unknown) ∧
      (n < 128 → ¬ (er = 1 ∨ (er = 0 ∧ sec ≤ 255 ∧ e ≤ 1 ∧ k ≤ 2 ∧ ad ≤ 63 ∧ out ≤ 7 ∧ dis ≤ 7)) →
        refused (.loadSignal p) (range .signal n))) ∧
    (∀ n er ad v a b, Heads s p tag (.loadTrain n er ad v a b) →
      (48 ≤ n → refused (.loadTrain p) unknown) ∧
      (n < 48 → ¬ (er = 1 ∨ (er = 0 ∧ 1 ≤ ad ∧ ad ≤ 9999 ∧ 50 ≤ v ∧ v ≤ 1023 ∧ 10 ≤ a ∧ a ≤ 2000 ∧ 10 ≤ b ∧
        b ≤ 2000)) → refused (.loadTrain p) (range .train n))) ∧
    (∀ n len lim dis ad inp up dn fl, Heads s p tag (.loadSection n 0 len lim dis ad inp up dn fl) →
      n < 256 → 50 ≤ len → len ≤ 20000 → lim ≤ 1023 → dis ≤ 7 → ad ≤ 63 → inp ≤ 7 → (up < 128 ∨ up = 65535) →
      (dn < 128 ∨ dn = 65535) → fl ≤ 1 →
      exec (.loadSection p) s = .next (answered p tag (.done []) (working { d with
        sections := putItem d.sections n
            { length := len, limit := lim, district := dis, addr := ad, input := inp,
              upSignal := if up = 65535 then none else some up, downSignal := if dn = 65535 then none else some dn,
              deckFlag := decide (fl = 1) } }))) ∧
    (∀ n ad out sec dis, Heads s p tag (.loadPoint n 0 ad out sec dis) → n < 128 → ad ≤ 63 → out ≤ 3 → sec ≤ 255 →
      dis ≤ 7 → exec (.loadPoint p) s = .next (answered p tag (.done []) (working { d with
        points := putItem d.points n
            { addr := ad, output := out, sec := sec, district := dis } }))) ∧
    (∀ n sec e k ad out dis x y, Heads s p tag (.loadSignal n 0 sec e k ad out dis) → n < 128 → sec ≤ 255 →
      dirOfCode e = some x → kindOfCode k = some y → ad ≤ 63 → out ≤ 7 → dis ≤ 7 →
      exec (.loadSignal p) s = .next (answered p tag (.done []) (working { d with
        signals := putItem d.signals n
            { sec := sec, stands := x, kind := y, addr := ad, output := out, district := dis } }))) ∧
    (∀ n ad v a b, Heads s p tag (.loadTrain n 0 ad v a b) → n < 48 → 1 ≤ ad → ad ≤ 9999 → 50 ≤ v → v ≤ 1023 →
      10 ≤ a → a ≤ 2000 → 10 ≤ b → b ≤ 2000 →
      exec (.loadTrain p) s = .next (answered p tag (.done []) (working { d with
        trains := putItem d.trains n
            { addr := ad, vmax := v, accel := a, brake := b } }))) ∧
    (∀ n len lim dis ad inp up dn fl, Heads s p tag (.loadSection n 1 len lim dis ad inp up dn fl) → n < 256 →
      exec (.loadSection p) s =
        .next (answered p tag (.done []) (working { d with sections := dropItem d.sections n }))) ∧
    (∀ n ad out sec dis, Heads s p tag (.loadPoint n 1 ad out sec dis) → n < 128 →
      exec (.loadPoint p) s = .next (answered p tag (.done []) (working { d with points := dropItem d.points n }))) ∧
    (∀ n sec e k ad out dis, Heads s p tag (.loadSignal n 1 sec e k ad out dis) → n < 128 →
      exec (.loadSignal p) s = .next (answered p tag (.done []) (working { d with signals := dropItem d.signals n }))) ∧
    (∀ n ad v a b, Heads s p tag (.loadTrain n 1 ad v a b) → n < 48 →
      exec (.loadTrain p) s = .next (answered p tag (.done []) (working { d with trains := dropItem d.trains n })))

/-- LOAD-ROUTE replaces a route's fields other than its point lists, which stay as they were; LOAD-ROUTE-POINTS replaces
the two point lists of a described route; LOAD-PLAN replaces a plan whole; the erase flag makes a route, with both its
parts, or a plan undescribed.  A number outside its table is UNKNOWN-ITEM; a field outside its range or a list that is too
long is VALIDATION with fault kind FIELD-RANGE (and so are an erase flag that is no flag, and list counts that do not fit
the LENGTH: log entry 12). -/
def Obligations.LoadsOfRoutesAndPlans : Prop :=
  ∀ (p : PortId) (tag : Byte) (s : State) (d : Desc), s.ctl.mode = .config →
    s.store.session = some { port := p, working := d } →
    let working := withWorking p s
    let refused := fun (c : Instr) (a : Answer) => exec c s = .next (answered p tag a s)
    let unknown : Answer := .refused .unknownItem .none
    let range := fun (t : TableId) (n : Nat) => Answer.refused .validation (.validation .fieldRange t n)
    (∀ n er en ex c secs ovl app rd de, Heads s p tag (.loadRoute n er en ex c secs ovl app rd de) →
      (192 ≤ n → refused (.loadRoute p) unknown) ∧
      (n < 192 → ¬ (er = 1 ∨ (er = 0 ∧ en ≤ 127 ∧ (ex < 128 ∨ ex = 65535) ∧ c ≤ 1 ∧ secs.length ≤ 12 ∧ ovl.length ≤ 2 ∧
        app.length ≤ 3 ∧ (∀ e ∈ secs, e.1 ≤ 255 ∧ e.2 ≤ 1) ∧ (∀ m ∈ ovl, m ≤ 255) ∧ (∀ m ∈ app, m ≤ 255) ∧
        ((rd = 65535 ∧ de = 255) ∨ (rd ≤ 23 ∧ de ≤ 1)))) → refused (.loadRoute p) (range .route n))) ∧
    (∀ n pts fls, Heads s p tag (.loadRoutePoints n pts fls) →
      (192 ≤ n → refused (.loadRoutePoints p) unknown) ∧
      (n < 192 → ¬ (pts.length ≤ 8 ∧ fls.length ≤ 4 ∧ (∀ e ∈ pts, e.1 ≤ 127 ∧ e.2.1 ≤ 1 ∧ e.2.2 ≤ 11) ∧
        (∀ e ∈ fls, e.1 ≤ 127 ∧ e.2 ≤ 1)) → refused (.loadRoutePoints p) (range .route n))) ∧
    (∀ n er t st rs th ad inp, Heads s p tag (.loadPlan n er t st rs th ad inp) →
      (16 ≤ n → refused (.loadPlan p) unknown) ∧
      (n < 16 → ¬ (er = 1 ∨ (er = 0 ∧ t ≤ 47 ∧ st ≤ 255 ∧ rs.length ≤ 6 ∧ (∀ r ∈ rs, r ≤ 191) ∧ 1 ≤ th ∧ th ≤ 255 ∧
        ad ≤ 63 ∧ inp ≤ 7)) → refused (.loadPlan p) (range .plan n))) ∧
    (∀ n, (Heads s p tag (.loadMisfit .route n) → n < 192 → refused (.loadRoute p) (range .route n)) ∧
      (Heads s p tag (.loadMisfit .routePoints n) → n < 192 → refused (.loadRoutePoints p) (range .route n)) ∧
      (Heads s p tag (.loadMisfit .plan n) → n < 16 → refused (.loadPlan p) (range .plan n))) ∧
    (∀ n en ex c secs ovl app rd de x, Heads s p tag (.loadRoute n 0 en ex c secs ovl app rd de) → n < 192 → en ≤ 127 →
      (ex < 128 ∨ ex = 65535) → classOfCode c = some x → secs.length ≤ 12 → ovl.length ≤ 2 → app.length ≤ 3 →
      (∀ e ∈ secs, e.1 ≤ 255 ∧ e.2 ≤ 1) → (∀ m ∈ ovl, m ≤ 255) → (∀ m ∈ app, m ≤ 255) →
      ((rd = 65535 ∧ de = 255) ∨ (rd ≤ 23 ∧ de ≤ 1)) →
      exec (.loadRoute p) s = .next (answered p tag (.done []) (working { d with
        routes := putItem d.routes n
            { entry := en, exit := if ex = 65535 then none else some ex, cls := x,
              sections := secs.map (fun e => (e.1, if e.2 = 0 then Dir.up else Dir.down)),
              points := ((findItem d.routes n).map (·.points)).getD [],
              flanks := ((findItem d.routes n).map (·.flanks)).getD [], overlap := ovl, approach := app,
              deckReq := if rd = 65535 then none else some (rd, if de = 0 then DeckEnd.a else DeckEnd.b) } }))) ∧
    (∀ n pts fls, Heads s p tag (.loadRoutePoints n pts fls) → n < 192 → (findItem d.routes n).isSome = true →
      pts.length ≤ 8 → fls.length ≤ 4 → (∀ e ∈ pts, e.1 ≤ 127 ∧ e.2.1 ≤ 1 ∧ e.2.2 ≤ 11) →
      (∀ e ∈ fls, e.1 ≤ 127 ∧ e.2 ≤ 1) →
      exec (.loadRoutePoints p) s = .next (answered p tag (.done []) (working { d with
        routes :=
            updateItem d.routes n (fun r => { r with
              points := pts.map (fun e => { point := e.1, pos := if e.2.1 = 0 then .normal else .reverse, idx := e.2.2 }),
              flanks := fls.map (fun e => (e.1, if e.2 = 0 then Position.normal else Position.reverse)) }) }))) ∧
    (∀ n pts fls, Heads s p tag (.loadRoutePoints n pts fls) → n < 192 → findItem d.routes n = none →
      pts.length ≤ 8 → fls.length ≤ 4 → (∀ e ∈ pts, e.1 ≤ 127 ∧ e.2.1 ≤ 1 ∧ e.2.2 ≤ 11) →
      (∀ e ∈ fls, e.1 ≤ 127 ∧ e.2 ≤ 1) →
      exec (.loadRoutePoints p) s =
        .next (answered p tag (.refused .validation (.validation .refMissing .route n)) s)) ∧
    (∀ n t st rs th ad inp, Heads s p tag (.loadPlan n 0 t st rs th ad inp) → n < 16 → t ≤ 47 → st ≤ 255 →
      rs.length ≤ 6 → (∀ r ∈ rs, r ≤ 191) → 1 ≤ th → th ≤ 255 → ad ≤ 63 → inp ≤ 7 →
      exec (.loadPlan p) s = .next (answered p tag (.done []) (working { d with
        plans := putItem d.plans n
            { train := t, start := st, routes := rs, throttle := th, addr := ad, input := inp } }))) ∧
    (∀ n en ex c secs ovl app rd de, Heads s p tag (.loadRoute n 1 en ex c secs ovl app rd de) → n < 192 →
      exec (.loadRoute p) s = .next (answered p tag (.done []) (working { d with routes := dropItem d.routes n }))) ∧
    (∀ n t st rs th ad inp, Heads s p tag (.loadPlan n 1 t st rs th ad inp) → n < 16 →
      exec (.loadPlan p) s = .next (answered p tag (.done []) (working { d with plans := dropItem d.plans n })))

/-- LOAD-DISTRICT, LOAD-DECK, LOAD-DECK-ROAD, LOAD-TRACTION and LOAD-PORT-ROLES with their fields in range: the entry of
the working description replaced; LOAD-DECK keeps the road entries, and an erase of the deck removes them.  A district
above 7 and a road above 23 are UNKNOWN-ITEM; a field outside its range is VALIDATION with fault kind FIELD-RANGE, the
table and the item, 0xFFFF where the table has one entry.  A road of an undescribed deck is REF-MISSING, and an erase flag
that is no flag FIELD-RANGE (log entry 12). -/
def Obligations.LoadsOfSingleEntries : Prop :=
  ∀ (p : PortId) (tag : Byte) (s : State) (d : Desc), s.ctl.mode = .config →
    s.store.session = some { port := p, working := d } →
    let working := withWorking p s
    let refused := fun (c : Instr) (a : Answer) => exec c s = .next (answered p tag a s)
    let unknown : Answer := .refused .unknownItem .none
    let fault := fun (f : FaultKind) (t : TableId) (n : Nat) => Answer.refused .validation (.validation f t n)
    (∀ k n, Heads s p tag (.loadDistrict k n) → (8 ≤ k → refused (.loadDistrict p) unknown) ∧
      (k < 8 → 255 < n → refused (.loadDistrict p) (fault .fieldRange .district k))) ∧
    (∀ er n sec ad, Heads s p tag (.loadDeck er n sec ad) → ¬ (er = 1 ∨ (er = 0 ∧ sec ≤ 255 ∧ ad ≤ 63)) →
      refused (.loadDeck p) (fault .fieldRange .deck 65535)) ∧
    (∀ rd er sec e, Heads s p tag (.loadDeckRoad rd er sec e) → (24 ≤ rd → refused (.loadDeckRoad p) unknown) ∧
      (rd < 24 → ¬ (er = 1 ∨ (er = 0 ∧ (sec < 256 ∨ sec = 65535) ∧ e ≤ 1)) →
        refused (.loadDeckRoad p) (fault .fieldRange .deck rd)) ∧
      (rd < 24 → (er = 1 ∨ (er = 0 ∧ (sec < 256 ∨ sec = 65535) ∧ e ≤ 1)) → d.deck = none →
        refused (.loadDeckRoad p) (fault .refMissing .deck rd)) ∧
      (∀ k, rd < 24 → er = 1 → d.deck = some k → exec (.loadDeckRoad p) s =
        .next (answered p tag (.done []) (working { d with deck := some { k with roads := dropItem k.roads rd } })))) ∧
    (∀ er ad, Heads s p tag (.loadTraction er ad) → ¬ (er = 1 ∨ (er = 0 ∧ ad ≤ 63)) →
      refused (.loadTraction p) (fault .fieldRange .traction 65535)) ∧
    (∀ sc a b c e, Heads s p tag (.loadPortRoles sc a b c e) →
      ¬ ((sc ≤ 3 ∨ sc = 255) ∧ a ≤ 1 ∧ b ≤ 1 ∧ c ≤ 1 ∧ e ≤ 1) →
      refused (.loadPortRoles p) (fault .fieldRange .roles 65535)) ∧
    (∀ k n, Heads s p tag (.loadDistrict k n) → k < 8 → n ≤ 255 → exec (.loadDistrict p) s =
      .next (answered p tag (.done []) (working { d with names := d.names.set k n }))) ∧
    (∀ n sec ad, Heads s p tag (.loadDeck 0 n sec ad) → sec ≤ 255 → ad ≤ 63 → exec (.loadDeck p) s =
      .next (answered p tag (.done []) (working { d with
        deck :=
            some { n := n, sec := sec, addr := ad, roads := (d.deck.map (·.roads)).getD [] } }))) ∧
    (∀ n sec ad, Heads s p tag (.loadDeck 1 n sec ad) → exec (.loadDeck p) s =
      .next (answered p tag (.done []) (working { d with deck := none }))) ∧
    (∀ rd sec e x k, Heads s p tag (.loadDeckRoad rd 0 sec e) → rd < 24 → (sec < 256 ∨ sec = 65535) →
      dirOfCode e = some x → d.deck = some k → exec (.loadDeckRoad p) s =
      .next (answered p tag (.done []) (working { d with
        deck := some { k with
          roads := putItem k.roads rd { sec := if sec = 65535 then none else some sec, meeting := x } } }))) ∧
    (∀ ad, Heads s p tag (.loadTraction 0 ad) → ad ≤ 63 → exec (.loadTraction p) s =
      .next (answered p tag (.done []) (working { d with traction := some ad }))) ∧
    (∀ ad, Heads s p tag (.loadTraction 1 ad) → exec (.loadTraction p) s =
      .next (answered p tag (.done []) (working { d with traction := none }))) ∧
    (∀ sc a b c e, Heads s p tag (.loadPortRoles sc a b c e) → (sc ≤ 3 ∨ sc = 255) → a ≤ 1 → b ≤ 1 → c ≤ 1 → e ≤ 1 →
      exec (.loadPortRoles p) s = .next (answered p tag (.done []) (working { d with
        roles :=
            { screening := portOfCode sc, batchA := decide (a = 1), batchB := decide (b = 1), batchC := decide (c = 1),
              batchD := decide (e = 1) } })))

/-- LOAD-PARAMETER: a value in the range of Table 1-7, which is written out, is stored as it is, one outside it as the nearest
limit (a sweep mode code above the last as SPLIT-4); the parameter of that row takes it and no other changes, and DONE carries
the value stored; a code above 14 names no parameter and is refused UNKNOWN-ITEM.
The two bytes of the value in DONE are log entry 12. -/
def Obligations.LoadParameterStoresTheNearestLimit : Prop :=
  ∀ (p : PortId) (tag : Byte) (s : State) (d : Desc) (k v : Nat), s.ctl.mode = .config →
    s.store.session = some { port := p, working := d } → Heads s p tag (.loadParameter k v) →
    let fields := fun (q : Params) => [q.sweepPeriod, match q.sweepMode with | .full => 0 | .split2 => 1 | .split4 => 2,
      q.threshold, q.stopMargin, q.releaseSpeed, q.shuntLimit, q.pointTimeout, q.approachTime, q.overlapTime, q.retryLife,
      q.deckStep, q.deckSettle, q.screening, q.runLimit, q.admission]
    (∀ lo hi, [(40, 1000), (0, 2), (2, 30), (0, 255), (0, 100), (20, 400), (500, 10000), (2, 120), (0, 60), (5, 300),
        (200, 5000), (0, 5000), (0, 30), (30, 900), (10, 600)][k]? = some (lo, hi) →
      let w := if v < lo then lo else if hi < v then hi else v
      ∃ q, fields q = (fields d.params).set k w ∧ exec (.loadParameter p) s =
        .next (answered p tag (.done [byte (w / 256), byte w]) (withWorking p s { d with params := q }))) ∧
    (15 ≤ k → exec (.loadParameter p) s = .next (answered p tag (.refused .unknownItem .none) s))

/-- The mode, session and sender checks of the configuration requests: WRONG-MODE outside CONFIG; NOT-CONFIGURER in CONFIG
with no session or with another configuring port.  A refused request changes nothing but its own port's queue and list. -/
def Obligations.ConfigurationRequestsAreGuarded : Prop :=
  ∀ (p : PortId) (tag : Byte) (r : Request) (c : Instr) (s : State), Heads s p tag r → (c, r) ∈
      [(Instr.commitConfig p, Request.commitConfig), (.abandonConfig p, .abandonConfig)] ∨
      (∃ n er len lim dis ad inp up dn fl, c = .loadSection p ∧ r = .loadSection n er len lim dis ad inp up dn fl) ∨
      (∃ n er ad out sec dis, c = .loadPoint p ∧ r = .loadPoint n er ad out sec dis) ∨
      (∃ n er sec e k ad out dis, c = .loadSignal p ∧ r = .loadSignal n er sec e k ad out dis) ∨
      (∃ n er en ex k secs ovl app rd de, c = .loadRoute p ∧ r = .loadRoute n er en ex k secs ovl app rd de) ∨
      (∃ n pts fls, c = .loadRoutePoints p ∧ r = .loadRoutePoints n pts fls) ∨
      (∃ k n, c = .loadDistrict p ∧ r = .loadDistrict k n) ∨
      (∃ er n sec ad, c = .loadDeck p ∧ r = .loadDeck er n sec ad) ∨
      (∃ rd er sec e, c = .loadDeckRoad p ∧ r = .loadDeckRoad rd er sec e) ∨
      (∃ n er ad v a b, c = .loadTrain p ∧ r = .loadTrain n er ad v a b) ∨
      (∃ n er t st rs th ad inp, c = .loadPlan p ∧ r = .loadPlan n er t st rs th ad inp) ∨
      (∃ er ad, c = .loadTraction p ∧ r = .loadTraction er ad) ∨
      (∃ sc a b k e, c = .loadPortRoles p ∧ r = .loadPortRoles sc a b k e) ∨
      (∃ k v, c = .loadParameter p ∧ r = .loadParameter k v) →
    (s.ctl.mode ≠ .config → exec c s = .next (answered p tag (.refused .wrongMode .none) s)) ∧
    (s.ctl.mode = .config → (∀ x, s.store.session = some x → x.port ≠ p) →
      exec c s = .next (answered p tag (.refused .notConfigurer .none) s))

/-- COMMIT-CONFIG of a sound working description: it becomes the committed one, the session closes, the request is
answered DONE and the controller enters WAKING; the sections, points and signals, the route instances, the retry list, the
demonstration queue and the deck take the state of R7, and the district holders are kept.  A train that stands keeps its
record when its entry is the same in both descriptions and every section of its list is described, its head offset limited
to the head section's new length; every other described train is ABSENT; and no train has a driver.  A section's occupant
is the train that keeps it in its list, and UNKNOWN where none does.  Every module is ABSENT, and its kind is that of the
entries that name its address (R2), ABSENT where none does.  The locked position of an unlocked point is NORMAL
(log entry 8). -/
def Obligations.CommitOfASoundDescription : Prop :=
  ∀ (p : PortId) (tag : Byte) (s : State) (d : Desc), Heads s p tag .commitConfig → s.ctl.mode = .config →
    s.store.session = some { port := p, working := d } → validate d = none → StoreFits s →
    ∃ t, exec (.commitConfig p) s = .next t ∧ t.store = { committed := d, session := none } ∧
      t.ctl = { s.ctl with mode := .waking, wakeBy := .commit } ∧
      (∀ n, (secAt t n).isSome = (findItem d.sections n).isSome) ∧
      (∀ n x, secAt t n = some x → x.occ = .occupied ∧ x.lock = none ∧ x.disturbed = false ∧ x.occupant ≠ .none) ∧
      (∀ n, ptAt t n = (findItem d.points n).map (fun _ =>
        { reported := .unproven, commanded := none, locks := 0, lockedPos := .normal, timer := none })) ∧
      (∀ n, findItem t.il.signals n = (findItem d.signals n).map (fun _ => Aspect.stop)) ∧
      (∀ n x, secAt t n = some x → ∀ k, x.occupant = .train k → ∃ r, trainAt t k = some r ∧ n ∈ r.list) ∧
      (∀ n x, secAt t n = some x → x.occupant = .unknown → ∀ k r, trainAt t k = some r → n ∉ r.list) ∧
      (∀ k, (trainAt t k).isSome = (findItem d.trains k).isSome) ∧
      (∀ k e r', findItem d.trains k = some e → trainAt t k = some r' →
        r'.driver = none ∧ r'.throttle = 0 ∧ r'.pendRev = false ∧
        (∀ r, trainAt s k = some r → r.state ≠ .absent → findItem s.store.committed.trains k = some e →
          (∀ n ∈ r.list, (findItem d.sections n).isSome = true) →
          r'.state = r.state ∧ r'.list = r.list ∧ r'.heading = r.heading ∧ r'.cause = r.cause ∧
          (∀ u, r.sup = some u → ∃ v, r'.sup = some v ∧
            ∀ h y, r.list.getLast? = some h → findItem d.sections h = some y →
              v.offset = min u.offset (y.length * 20 - 1))) ∧
        ((∀ r, trainAt s k = some r → r.state = .absent ∨ findItem s.store.committed.trains k ≠ some e ∨
            ∃ n ∈ r.list, findItem d.sections n = none) →
          r'.state = .absent ∧ r'.list = [] ∧ r'.sup = none)) ∧
      t.il.districts = s.il.districts ∧ t.il.instances = [] ∧ t.engine.retry = [] ∧ t.demo.queue = [] ∧
      t.deck = d.deck.map (fun _ =>
        { pos := .unproven, req := none, timer := none, latch := none, reported := none, doubt := 0 }) ∧
      t.ring.running = { mode := d.params.sweepMode, period := d.params.sweepPeriod } ∧ t.ring.pendingSetting = none ∧
      (∀ a, (moduleAt t a).state = .absent ∧
        let kind := (moduleAt t a).kind
        (64 ≤ a → kind = .absent) ∧
        (a < 64 → (SecUses d a → kind = .detect) ∧ (PointUses d a → kind = .point) ∧ (SignalUses d a → kind = .signal) ∧
          (PlanUses d a → kind = .button) ∧ (DeckUses d a → kind = .deck) ∧ (d.traction = some a → kind = .traction) ∧
          (¬ SecUses d a → ¬ PointUses d a → ¬ SignalUses d a → ¬ PlanUses d a → ¬ DeckUses d a → d.traction ≠ some a →
            kind = .absent))) ∧
      (portAt t p).responses = (portAt s p).responses ++ [{ tag := tag, answer := .done [] }]

/-- BEGIN-CONFIG in CONFIG: DONE with the sender as the configuring port and the working description an exact copy of the
committed one, or SESSION-OPEN with nothing changed when a session is open.  COMMIT-CONFIG of a description with a fault
is refused VALIDATION with the first fault of the walk and changes nothing; the walk takes the tables, their items and the
checks of an item in the order of Table 1-8.  ABANDON-CONFIG is answered DONE and closes the session, and the committed
description stays. -/
def Obligations.SessionOpensAndCloses : Prop :=
  (∀ d f table item, validate d = some (f, table, item) ↔ WalkFault d f table item) ∧
  ∀ (p : PortId) (tag : Byte) (s : State), s.ctl.mode = .config →
    (Heads s p tag .beginConfig → ∃ t, exec (.beginConfig p) s = .next t ∧
      (s.store.session = none → quiet t = quiet (answered p tag (.done []) (withWorking p s s.store.committed))) ∧
      (s.store.session.isSome = true → t = answered p tag (.refused .sessionOpen .none) s)) ∧
    (∀ d, s.store.session = some { port := p, working := d } →
      (∀ f table item, Heads s p tag .commitConfig → validate d = some (f, table, item) →
        exec (.commitConfig p) s = .next (answered p tag (.refused .validation (.validation f table item)) s)) ∧
      (Heads s p tag .abandonConfig → ∃ t, exec (.abandonConfig p) s = .next t ∧
        quiet t = quiet (answered p tag (.done []) (s.withStore { committed := s.store.committed, session := none }))))

/-! ### Modes (sections 1.3 and 1.4) -/

/-- REST in IN-SERVICE: DONE with nothing changed when a REST is pending; refused NOT-QUIET, with nothing changed, when a
quiet condition fails; otherwise DONE with the REST pending for the sender. -/
def Obligations.RestMarksItselfPending : Prop :=
  ∀ (p : PortId) (tag : Byte) (s : State), Heads s p tag .rest → s.ctl.mode = .inService →
    let still := ∀ e ∈ s.trains, ∀ u, e.2.sup = some u → u.output = 0
    (s.ctl.pendingRest.isSome = true → exec (.rest p) s = .next (answered p tag (.done []) s)) ∧
    (s.ctl.pendingRest = none → s.il.instances = [] → still → deckMoving s = false → s.demo.run = none →
      ∃ t, exec (.rest p) s = .next t ∧
        quiet t = quiet (answered p tag (.done []) (s.withCtl { s.ctl with pendingRest := some p }))) ∧
    (s.ctl.pendingRest = none → ¬ (s.il.instances = [] ∧ still ∧ deckMoving s = false ∧ s.demo.run = none) →
      exec (.rest p) s = .next (answered p tag (.refused .notQuiet .none) s))

/-- WAKE in REST is answered DONE and enters WAKING by WAKE; the ring takes back the service setting, the commanded power is
ON, and the disturbed flags are kept. -/
def Obligations.WakeEntersWaking : Prop :=
  ∀ (p : PortId) (tag : Byte) (s : State), Heads s p tag .wake → s.ctl.mode = .rest →
    (s.ring.service.mode = .full → s.ring.modules ≠ []) →
    ∃ t, exec (.wake p) s = .next t ∧ t.ctl = { s.ctl with mode := .waking, wakeBy := .wake } ∧
      t.ring.running = s.ring.service ∧ t.ring.power = some true ∧ t.ring.postCount = 0 ∧ t.ring.overloaded = false ∧
      t.il = s.il ∧ t.store = s.store ∧ t.trains = s.trains ∧ t.deck = s.deck ∧ t.engine = s.engine ∧ t.demo = s.demo ∧
      (portAt t p).responses = (portAt s p).responses ++ [{ tag := tag, answer := .done [] }]

/-- RECONFIGURE in IN-SERVICE or REST: accepted, CONFIG is entered, a pending REST is cleared, polling stops and the retry
list is emptied, while the description, the districts, the sections, the points and the train records are kept; refused
NOT-QUIET, with nothing changed, when a condition fails. -/
def Obligations.ReconfigureEntersConfig : Prop :=
  ∀ (p : PortId) (tag : Byte) (s : State), Heads s p tag .reconfigure → s.ctl.mode = .inService ∨ s.ctl.mode = .rest →
    let quietNow := s.il.instances = [] ∧ (∀ e ∈ s.trains, e.2.driver = none) ∧ s.demo.queue = [] ∧ s.demo.run = none ∧
      deckMoving s = false
    (quietNow → ∃ t, exec (.reconfigure p) s = .next t ∧
      t.ctl = { s.ctl with mode := .config, pendingRest := none } ∧ t.store = s.store ∧ t.il = s.il ∧
      t.trains = s.trains ∧ t.engine = { s.engine with retry := [] } ∧ t.ring.timer = none ∧ t.ring.underWay = false ∧
      t.ring.todo = [] ∧ t.ring.window = none ∧ t.deck = s.deck.map (fun d => { d with latch := none }) ∧
      (portAt t p).responses = (portAt s p).responses ++ [{ tag := tag, answer := .done [] }]) ∧
    (¬ quietNow → exec (.reconfigure p) s = .next (answered p tag (.refused .notQuiet .none) s))

/-- A request that its mode does not serve is refused WRONG-MODE and has no other effect: REST, WAKE and RECONFIGURE, and
every request of the running layout in CONFIG and REST.
The refused head of a queue is the row of its own name (log entry 6). -/
def Obligations.WrongModeHasNoOtherEffect : Prop :=
  ∀ (p : PortId) (tag : Byte) (s : State),
    let refused := fun (c : Instr) => exec c s = .next (answered p tag (.refused .wrongMode .none) s)
    (s.ctl.mode ≠ .config → Heads s p tag .beginConfig → refused (.beginConfig p)) ∧
    (s.ctl.mode ≠ .inService → Heads s p tag .rest → refused (.rest p)) ∧
    (s.ctl.mode ≠ .rest → Heads s p tag .wake → refused (.wake p)) ∧
    (s.ctl.mode = .config ∨ s.ctl.mode = .waking → Heads s p tag .reconfigure → refused (.reconfigure p)) ∧
    (s.ctl.mode = .config ∨ s.ctl.mode = .rest →
      (∀ n x, Heads s p tag (.movePoint n x) → refused (.movePoint p)) ∧
      (∀ r, Heads s p tag (.cancelRoute r) → refused (.cancelRoute p)) ∧
      (∀ r o, Heads s p tag (.setRoute r o) → ∃ t, exec (.setRoute p) s = .next t ∧
        quiet t = quiet (answered p tag (.refused .wrongMode .none) s)) ∧
      (∀ n k d, Heads s p tag (.placeTrain n k d) → refused (.placeTrain p)) ∧
      (∀ n, Heads s p tag (.removeTrain n) → refused (.removeTrain p)) ∧
      (∀ n, Heads s p tag (.takeTrain n) → refused (.takeTrain p)) ∧
      (∀ n, Heads s p tag (.giveTrain n) → refused (.giveTrain p)) ∧
      (∀ n, Heads s p tag (.restoreTrain n) → refused (.restoreTrain p)) ∧
      (∀ r x, Heads s p tag (.turnDeck r x) → refused (.turnDeck p)) ∧
      (∀ n, Heads s p tag (.passDemo n) → refused (.passDemo p)) ∧
      (∀ n, Heads s p tag (.vetoDemo n) → refused (.vetoDemo p)) ∧
      (∀ m v, Heads s p tag (.setSweepMode m v) → refused (.setSweepMode p)))

/-! ### Sections, points, signals and districts (chapter 2) -/

/-- TAKE-DISTRICT: a number above 7 is UNKNOWN-ITEM; a free district is taken with DEMO-OK clear; one the sender holds is
DONE with nothing changed; one another port holds is HELD with that port's letter, and nothing changes. -/
def Obligations.TakeDistrict : Prop :=
  ∀ (p : PortId) (tag : Byte) (k : Nat) (s : State), Heads s p tag (.takeDistrict k) →
    ∃ t, exec (.takeDistrict p) s = .next t ∧
      (8 ≤ k → t = answered p tag (.refused .unknownItem .none) s) ∧
      (k < 8 → (districtAt s k).holder = none → quiet t = quiet (answered p tag (.done [])
        (s.withIl { s.il with districts := s.il.districts.set k { holder := some p, demoOk := false } }))) ∧
      (k < 8 → (districtAt s k).holder = some p → t = answered p tag (.done []) s) ∧
      (∀ q, k < 8 → (districtAt s k).holder = some q → q ≠ p →
        t = answered p tag (.refused .held (.held (some (.port q)))) s)

/-- GIVE-DISTRICT and SET-DISTRICT-FLAGS: a number above 7 is UNKNOWN-ITEM; a sender that does not hold the district is
NOT-HOLDER; otherwise the district is given back with DEMO-OK clear, or the flag takes the value asked.  A value that is no
flag is refused with a reason that no rule names, behind these two checks, and changes nothing: the model's choice (log entry
3). -/
def Obligations.GiveDistrictAndFlags : Prop :=
  ∀ (p : PortId) (tag : Byte) (k : Nat) (s : State),
    (Heads s p tag (.giveDistrict k) → ∃ t, exec (.giveDistrict p) s = .next t ∧
      (8 ≤ k → t = answered p tag (.refused .unknownItem .none) s) ∧
      (k < 8 → (districtAt s k).holder ≠ some p → t = answered p tag (.refused .notHolder .none) s) ∧
      (k < 8 → (districtAt s k).holder = some p → quiet t = quiet (answered p tag (.done [])
        (s.withIl { s.il with districts := s.il.districts.set k { holder := none, demoOk := false } })))) ∧
    (∀ v, Heads s p tag (.setDistrictFlags k v) → ∃ t, exec (.setDistrictFlags p) s = .next t ∧
      (8 ≤ k → t = answered p tag (.refused .unknownItem .none) s) ∧
      (k < 8 → (districtAt s k).holder ≠ some p → t = answered p tag (.refused .notHolder .none) s) ∧
      (k < 8 → (districtAt s k).holder = some p → 2 ≤ v → ∃ why, t = answered p tag (.refused why .none) s) ∧
      (k < 8 → (districtAt s k).holder = some p → v ≤ 1 → (districtAt t k).demoOk = decide (v = 1) ∧
        (districtAt t k).holder = some p ∧ (∀ j, j ≠ k → districtAt t j = districtAt s j) ∧
        quiet (t.withIl s.il) = quiet (answered p tag (.done []) s) ∧ t.il.sections = s.il.sections ∧
        t.il.points = s.il.points ∧ t.il.signals = s.il.signals ∧ t.il.instances = s.il.instances))

/-- MOVE-POINT: UNKNOWN-ITEM, NOT-HOLDER, LOCKED, OCCUPIED and MODULE-FAILED in that order, each changing nothing;
otherwise the point is commanded.  Proven in the position or already moving there, nothing moves; else it is MOVING with
its move timer at the parameter's time, its neither count 0, and the POINT MOVE command is offered to the ring (what an offer
does is RingPollsAnswersAndCommands's).  The command then waits, or the command queue is full (`Offered`); and where no live instance
holds the point, as a lock count of 0 means (R34), the ring changes by that offer alone.  A point that does not start to move
has no command offered.  No section, district, route instance or train changes.  A position code that names none is refused
with a reason that no rule names, behind these checks, and changes nothing: the model's choice (log entry 3). -/
def Obligations.MovePoint : Prop :=
  ∀ (p : PortId) (tag : Byte) (n x : Nat) (s : State), Heads s p tag (.movePoint n x) →
    s.ctl.mode = .waking ∨ s.ctl.mode = .inService →
    let refused := fun (r : Reason) => exec (.movePoint p) s = .next (answered p tag (.refused r .none) s)
    (findItem (desc s).points n = none → refused .unknownItem) ∧
    (∀ e st, findItem (desc s).points n = some e → ptAt s n = some st →
      (holds s p (some e.district) = false → refused .notHolder) ∧
      (holds s p (some e.district) = true → st.locks ≠ 0 → refused .locked) ∧
      (holds s p (some e.district) = true → st.locks = 0 → (∀ y, secAt s e.sec = some y → y.occ = .occupied) →
        refused .occupied) ∧
      (∀ y, holds s p (some e.district) = true → st.locks = 0 → secAt s e.sec = some y → y.occ = .clear →
        (moduleActive s e.addr = false → refused .moduleFailed) ∧
        (moduleActive s e.addr = true → posOfCode x = none → ∃ why, refused why) ∧
        (∀ pos, moduleActive s e.addr = true → posOfCode x = some pos →
          let rests := st.reported = provenIn pos ∨ (st.reported = .moving ∧ st.commanded = some pos)
          ∃ t, exec (.movePoint p) s = .next t ∧
            ptAt t n = some (if rests then { st with commanded := some pos }
              else { st with commanded := some pos, reported := .moving, timer := some (desc s).params.pointTimeout }) ∧
            (∀ m, m ≠ n → ptAt t m = ptAt s m) ∧ t.il.sections = s.il.sections ∧ t.il.districts = s.il.districts ∧
            t.il.instances = s.il.instances ∧ inner (t.withIl s.il) = inner (answered p tag (.done []) s) ∧
            (rests → t.ring = s.ring) ∧
            (¬ rests → neitherOf t n = 0 ∧ Offered (.pointMove n pos) s t ∧
              ((∀ i ∈ s.il.instances, ∀ h ∈ i.2.held, h.point ≠ n) →
                { t.ring with modules := s.ring.modules } = (offer (.pointMove n pos) s).ring)))))

/-- The expiry of a point's move timer: UNPROVEN with the timer stopped and the commanded position and the locked position
kept.  Every instance in SETTING that holds the point fails (R62, R64): its slot is free and it holds no section any more;
every other instance stays as it is.  Where none fails, no lock changes either; where one does, every point has one lock
fewer for each place it has on that instance's list.  The expiry is taken while the timer runs, whatever is left (log
entry 2). -/
def Obligations.PointMoveTimeout : Prop :=
  ∀ (n : Nat) (st : PtState) (s : State), ptAt s n = some st → st.timer.isSome = true →
    let fails := fun (i : Inst) => i.state = .setting ∧ ∃ h ∈ i.held, h.point = n
    ∃ t st', exec (.pointMoveTimeout n) s = .next t ∧ ptAt t n = some st' ∧
      st' = { st with reported := .unproven, timer := none, locks := st'.locks } ∧ st'.locks ≤ st.locks ∧
      (∀ m, m ≠ n → (ptAt t m).map (fun x => { x with locks := 0 }) = (ptAt s m).map (fun x => { x with locks := 0 })) ∧
      (∀ slot i, instAt s slot = some i → fails i → instAt t slot = none ∧
        (∀ x ∈ instSections s i, lockedTo t slot .route x.1 = false) ∧
        (∀ x ∈ i.overlap, lockedTo t slot .overlap x = false)) ∧
      (∀ slot i, instAt s slot = some i → ¬ fails i → instAt t slot = some i) ∧
      ((∀ slot i, instAt s slot = some i → ¬ fails i) → t.il.sections = s.il.sections ∧ st'.locks = st.locks ∧
        (∀ m, m ≠ n → ptAt t m = ptAt s m) ∧ t.trains = s.trains ∧ inner (t.withIl s.il) = inner s) ∧
      (∀ slot i, instAt s slot = some i → fails i → (∀ k j, k ≠ slot → instAt s k = some j → ¬ fails j) →
        ∀ m, (ptAt t m).map (·.locks) = (ptAt s m).map (fun x => x.locks - i.held.countP (fun h => h.point == m))) ∧
      (∀ m, (secAt t m).map (fun x => (x.occ, x.occupant, x.disturbed)) =
        (secAt s m).map (fun x => (x.occ, x.occupant, x.disturbed))) ∧
      t.il.districts = s.il.districts ∧ t.deck = s.deck ∧
      inner ((((t.withIl s.il).withEngine s.engine).withDemo s.demo).withTrains s.trains) = inner s

/-- The occupancy filter of R23, as one good answer's bit meets it: OCCUPIED is accepted at once, CLEAR at the second good
answer in a row that shows it, and in no other case does the accepted occupancy change. -/
def Obligations.OccupancyFilter : Prop :=
  ∀ (n : Nat) (shown : Occupancy) (st : SecState) (e : SectionEntry) (s : State), secAt s n = some st →
    secEntry s n = some e → (findItem s.ring.modules e.addr).isSome = true →
    e.input < (moduleAt s e.addr).clearCounts.length →
    ((secAt (filterSection n shown s) n).map (·.occ) = some
      (match st.occ, shown with
       | .clear, .occupied => .occupied
       | .occupied, .clear => if clearCountOf s n = 0 then .occupied else .clear
       | x, _ => x)) ∧
    clearCountOf (filterSection n shown s) n =
      (if st.occ = .occupied ∧ shown = .clear ∧ clearCountOf s n = 0 then 1 else 0)

/-- A recomputation stores the computed aspect of its signal and of no other, and the same aspect changes nothing at all; a
new aspect is offered to the ring as an ASPECT command, and nothing else changes with it.
The aspect computed is other than STOP exactly when it is vouched for: a SET instance that enters at the signal, with
every locked section CLEAR and empty, every point proven, the deck as required and the signal's module ACTIVE.  A SHUNT or
DECK signal then shows SHUNT; a MAIN signal shows CLEAR when the route's exit signal is vouched for too, and CAUTION when
it is not or the route has none. -/
def Obligations.ProceedAspectIsVouchedFor : Prop :=
  ∀ (s : State) (sig : Nat), (aspectOf s sig ≠ .stop ↔ Vouched s sig) ∧
    (∀ g exit, findItem (desc s).signals sig = some g → Vouched s sig →
      (∀ slot i r, VouchedBy s sig slot i r → r.exit = exit) →
      (g.kind ≠ .main → aspectOf s sig = .shunt) ∧
      (g.kind = .main → (∃ x, exit = some x ∧ Vouched s x) → aspectOf s sig = .clear) ∧
      (g.kind = .main → (∀ x, exit = some x → ¬ Vouched s x) → aspectOf s sig = .caution)) ∧
    (∀ old, findItem s.il.signals sig = some old →
      findItem (recomputeOne sig s).il.signals sig = some (aspectOf s sig) ∧
      (aspectOf s sig = old → recomputeOne sig s = s) ∧
      (aspectOf s sig ≠ old → quiet (recomputeOne sig s) = quiet (offer (.aspect sig (aspectOf s sig))
        (s.withIl { s.il with signals := putItem s.il.signals sig (aspectOf s sig) }))) ∧
      (∀ g, g ≠ sig → findItem (recomputeOne sig s).il.signals g = findItem s.il.signals g) ∧
      (recomputeOne sig s).il.sections = s.il.sections ∧ (recomputeOne sig s).il.points = s.il.points ∧
      (recomputeOne sig s).il.instances = s.il.instances ∧ (recomputeOne sig s).trains = s.trains)

/-! ### Counters (chapter 11) -/

/-- SELECT-COUNTER: a counter outside 8 to 11, an event code or a qualifier code that names nothing is UNKNOWN-ITEM and
nothing changes; otherwise the selection is stored, and the value is 0 and the flag clear (a counter pointed at NOTICES-LOST
may count the loss of the very record that tells of the selection). -/
def Obligations.SelectCounter : Prop :=
  ∀ (p : PortId) (tag : Byte) (c ev q : Nat) (s : State), Heads s p tag (.selectCounter c ev q) →
    ∃ t, exec (.selectCounter p) s = .next t ∧
      ((c < 8 ∨ 11 < c ∨ eventOfCode ev = none ∨ qualifierOfCode q = none) →
        t = answered p tag (.refused .unknownItem .none) s) ∧
      (∀ e x, 8 ≤ c → c ≤ 11 → eventOfCode ev = some e → qualifierOfCode q = some x →
        t.counters.sel = s.counters.sel.set (c - 8) { event := e, qual := x } ∧
        quiet (t.withCounters s.counters) = quiet (answered p tag (.done []) s) ∧
        (CountersFit s → e ≠ .noticesLost →
          t.counters.values[c]? = some 0#32 ∧ t.counters.half[c]? = some false))

/-- DECREMENT-COUNTER, in every mode: above 11 it is UNKNOWN-ITEM; otherwise the value v becomes max(0, v - d), the
half-full flag clears when the value falls below 2^31, and DONE carries the value after the decrement; no other counter
changes and no notice is raised. A counting event and a decrement of one counter leave max(0, v + 1 - d), with v + 1
wrapping, or max(0, v - d) + 1, by which is taken first; a counter that a selection has zeroed stays 0. `Takes` says which
events a counter takes. -/
def Obligations.DecrementCounter : Prop :=
  (∀ (p : PortId) (tag : Byte) (c d : Nat) (v : Word32) (f : Bool) (s : State), Heads s p tag (.decrementCounter c d) →
    (12 ≤ c → exec (.decrementCounter p) s = .next (answered p tag (.refused .unknownItem .none) s)) ∧
    (c < 12 → s.counters.values[c]? = some v → s.counters.half[c]? = some f →
      let w := v.toNat - d
      exec (.decrementCounter p) s = .next (answered p tag
        (.done [byte (w / 16777216), byte (w / 65536), byte (w / 256), byte w])
        (s.withCounters { s.counters with
          values := s.counters.values.set c (BitVec.ofNat 32 w),
          half := s.counters.half.set c (f && decide (2147483648 ≤ w)) })))) ∧
  (∀ (k : Counters) (ev : EventKind) (party : Option Party) (district : Option Nat) (c d : Nat) (v : Word32), c < 12 →
    k.values[c]? = some v → Takes k ev party district c →
    (decrement c d (bump k ev party district).1).values[c]? =
      some (BitVec.ofNat 32 (if v.toNat = 4294967295 then 0 else v.toNat + 1 - d)) ∧
    (bump (decrement c d k) ev party district).1.values[c]? = some (BitVec.ofNat 32 (v.toNat - d) + 1)) ∧
  (∀ (k : Counters) (c d : Nat), c < k.values.length →
    (decrement c d { k with values := k.values.set c 0#32 }).values[c]? = some 0#32)

/-- An event at the Counter Unit adds 1, modulo 2^32, to each counter that takes it and changes no other value; a flag is
set when its counter comes to 2^31 and cleared when it stands below it.  A fixed counter takes the event of its row of Table
11-2; a programmable one the event its selection names, under the qualifier ANY always, under a port or DEMO when that is
the event's party, and under a district when that is the event's district (`Takes`). -/
def Obligations.CountingEvent : Prop :=
  ∀ (c : Counters) (ev : EventKind) (party : Option Party) (district : Option Nat) (i : Nat) (v : Word32) (f : Bool),
    i < 12 → c.values[i]? = some v → c.half[i]? = some f →
    let after := (bump c ev party district).1
    (Takes c ev party district i → after.values[i]? = some (v + 1) ∧ after.half[i]? = some
      (if v.toNat = 2147483647 then true else if (v + 1).toNat < 2147483648 then false else f)) ∧
    (¬ Takes c ev party district i → after.values[i]? = some v ∧ after.half[i]? = some f) ∧ after.sel = c.sel

/-! ### Notices and reads (section 10.5, R42 and the other read rules) -/

/-- A record offered to a port (R175, R176): an OFFLINE or ISOLATED port and a port that does not subscribe take nothing; a
LOST port loses it; at an ONLINE port it replaces the undelivered record of its class and item in place, is appended where
there is room, and is lost in a full queue, with the lost count saturating at 255. -/
def Obligations.NoticePlacement : Prop :=
  ∀ (now : Nat) (n : Notice) (q : Port),
    (subscribes q n = false ∨ q.state = .offline ∨ q.state = .isolated → offerNotice now n q = (q, false)) ∧
    (subscribes q n = true → q.state = .lost → offerNotice now n q = ({ q with lost := min 255 (q.lost + 1) }, true)) ∧
    (subscribes q n = true → q.state = .online →
      (∀ l1 e l2, q.notices = l1 ++ e :: l2 → (coalesceKey n).isSome = true → coalesceKey e.notice = coalesceKey n →
        (∀ x ∈ l1, coalesceKey x.notice ≠ coalesceKey n) →
        offerNotice now n q = ({ q with notices := l1 ++ { entered := e.entered, notice := n } :: l2 }, false)) ∧
      ((∀ x ∈ q.notices, coalesceKey n = none ∨ coalesceKey x.notice ≠ coalesceKey n) →
        (q.lost = 0 → q.notices.length < 32 → offerNotice now n q =
          ({ q with notices := q.notices ++ [{ entered := now, notice := n }] }, false)) ∧
        (0 < q.lost → q.notices.length < 31 → offerNotice now n q =
          ({ q with lost := 0, notices := q.notices ++
              [{ entered := now, notice := .mode (.lostNotices q.lost) }, { entered := now, notice := n }] }, false)) ∧
        (0 < q.lost → q.notices.length = 31 → offerNotice now n q =
          ({ q with lost := 1,
                    notices := q.notices ++ [{ entered := now, notice := .mode (.lostNotices q.lost) }] }, true)) ∧
        (32 ≤ q.notices.length → offerNotice now n q = ({ q with lost := min 255 (q.lost + 1) }, true))))

/-- Every READ request at an ONLINE port is answered as it arrives and changes nothing but its own port's frame state and
response list (READ-TRAIN and READ-SUPERVISION also move the model's counter of free values on).
The bytes of an ABSENT train, and a distance that R119 does not state, are free (log entry 4). -/
def Obligations.ReadsChangeNothingElse : Prop :=
  ∀ (p : PortId) (tag : Byte) (table n : Nat) (s : State), (portAt s p).state = .online →
    let h := heard p s
    let reads := fun (c : Instr) (a : Answer) => exec c s = .next (respond p tag a h)
    reads (.readDescription p tag table n) (readDescription p table n h) ∧ reads (.readMode p tag) (readMode h) ∧
    reads (.readCounters p tag) (readCounters h) ∧ reads (.readSection p tag n) (readSection n h) ∧
    reads (.readPoint p tag n) (readPoint n h) ∧ reads (.readSignal p tag n) (readSignal n h) ∧
    reads (.readDistricts p tag) (readDistricts h) ∧ reads (.readInstance p tag n) (readInstance n h) ∧
    reads (.readRouteEngine p tag) (readEngine h) ∧
    reads (.readDeck p tag) (readDeck h) ∧ reads (.readDemo p tag) (readDemo h) ∧
    reads (.readModule p tag n) (readModule n h) ∧ reads (.readRing p tag) (readRing h) ∧
    reads (.readPort p tag n) (readPort n h) ∧
    exec (.readTrain p tag n) s = .next (respond p tag (readTrain n h) (h.withSeed (s.freeSeed + 1))) ∧
    exec (.readSupervision p tag n) s = .next (respond p tag (readSupervision n h) (h.withSeed (s.freeSeed + 1)))

/-- What the reads answer: UNKNOWN-ITEM for a section, point, signal, train, slot, module or port that is undescribed or
outside its table and for a deck that is not described; a free slot with its mark; and the live fields of everything a read
names, as they stand, in the order the spec names them: sections, points, signals with the instance that enters at them (of
several the first: log entry 9), districts, instances, the Route Engine, trains and their supervision, the deck, the
demonstrations, the modules and the ring, the ports, the mode and the counters; and the entries of a description, which the
configuring port reads from its working copy. The bytes of an ABSENT train, the distance of a head that has stepped
beyond its authority list, and a distance that counts a section left undescribed by a commit are free (log entry 4). That,
after the loss of the head section (R97), the new head, which stands before the kept authority list, is the remainder of its
section and the whole list away from the end of authority is the model's inference (log entry 4). The byte layouts
are those of log entry 12. -/
def Obligations.ReadAnswers : Prop :=
  CodesInOrder ∧ (∀ (p : PortId) (d : Desc) (s : State), Reads s p d →
    DescriptionAnswered d (fun table n => readDescription p table n s)) ∧
  ∀ (n : Nat) (s : State),
    let unknown : Answer := .refused .unknownItem .none
    (secAt s n = none → readSection n s = unknown) ∧ (ptAt s n = none → readPoint n s = unknown) ∧
    (findItem s.il.signals n = none → readSignal n s = unknown) ∧
    (trainAt s n = none → readTrain n s = unknown ∧ readSupervision n s = unknown) ∧
    (32 ≤ n → readInstance n s = unknown) ∧ (64 ≤ n → readModule n s = unknown) ∧ (4 ≤ n → readPort n s = unknown) ∧
    (s.deck = none → readDeck s = unknown) ∧
    (∀ st, secAt s n = some st → readSection n s = .done
      [byte (codeOcc st.occ), byte (codeOccupant st.occupant), byte ((st.lock.map (·.slot)).getD 65535 / 256),
       byte ((st.lock.map (·.slot)).getD 65535), byte ((st.lock.map (fun l => codeRole l.role)).getD 255), if st.disturbed then 1#8 else 0#8]) ∧
    (∀ st, ptAt s n = some st → readPoint n s = .done
      [byte (codeReported st.reported), byte ((st.commanded.map codePos).getD 255), byte st.locks,
       byte (codePos st.lockedPos), byte (st.timer.getD 0 / 256), byte (st.timer.getD 0)]) ∧
    (∀ x, findItem s.il.signals n = some x →
      let first := s.il.instances.find? (fun e => ((routeAt s e.2.route).map (·.entry)) == some n)
      readSignal n s = .done (byte (codeAspect x) :: itemOr (first.map (·.1)))) ∧
    readDistricts s = .done (s.il.districts.flatMap (fun d => [fieldOr (d.holder.map codePort), flagByte d.demoOk])) ∧
    (n < 32 → instAt s n = none → readInstance n s = .done [0#8]) ∧
    (∀ i, n < 32 → instAt s n = some i → readInstance n s = .done (1#8 :: instanceBytes s n i)) ∧
    readEngine s = .done ([byte (codeMember s.engine.pointer), byte s.engine.batch] ++
      counted (fun (e : RetryEntry) => [byte e.route, byte (codePort e.port), flagByte e.eligible, byte (codeReason e.reason)] ++
        inTwo (e.left / 1000)) s.engine.retry) ∧
    (∀ r e, trainAt s n = some r → findItem (desc s).trains n = some e → ∃ figures : List Byte, figures.length = 7 ∧
      (∀ u, r.sup = some u → figures = inThree u.offset ++ inTwo u.output ++ inTwo u.permitted) ∧
      readTrain n s = .done (inTwo e.addr ++ inTwo e.vmax ++ inTwo e.accel ++ inTwo e.brake ++ [byte (codeTrain r.state)] ++
        counted (fun m => [byte m]) r.list ++ [byte (codeHeading r.heading), fieldOr (r.driver.map codeParty),
          byte r.throttle, flagByte r.pendRev, byte (codeCause r.cause)] ++ figures)) ∧
    (∀ r, trainAt s n = some r → r.sup = none → readSupervision n s = .done [0#8]) ∧
    (∀ r u h, trainAt s n = some r → r.sup = some u → r.list.getLast? = some h →
      let lengths := fun (l : List AuthSec) => (l.map (fun x => secLength s x.sec)).sum
      let described := fun (l : List AuthSec) => ∀ y ∈ l, findItem (desc s).sections y.sec ≠ none
      let remainder := secLength s h - u.offset / 20
      ∃ dist,
        (∀ l1 x l2, u.auth = l1 ++ x :: l2 → x.sec = h → (∀ y ∈ l1, y.sec ≠ h) → described l2 → dist = remainder + lengths l2) ∧
        ((∀ x ∈ u.auth, x.sec ≠ h) → u.offset ≠ 0 → described u.auth → dist = remainder + lengths u.auth) ∧
        readSupervision n s = .done (1#8 :: inThree u.offset ++ inTwo (u.offset / 20) ++
          counted (fun (x : AuthSec) => [byte x.sec]) u.auth ++ inThree dist ++ inTwo u.permitted ++ [byte (codeTerm u.term)] ++
          (match u.term with | .sec m => inTwo m | _ => [255#8, 255#8]) ++ inTwo u.demanded ++ inTwo u.output ++
          [flagByte u.intervening, byte (codeDrive u.sense), byte u.refresh])) ∧
    (∀ d e, s.deck = some d → (desc s).deck = some e → readDeck s = .done (deckBytes d e)) ∧
    readDemo s = .done (demoBytes s) ∧
    (n < 64 → ∀ m, moduleAt s n = m → readModule n s = .done
      ([byte (codeModKind m.kind), byte (codeModState m.state), byte m.misses] ++
        (match m.data with | some l => 1#8 :: l | none => [0#8]))) ∧
    readRing s = .done (ringBytes s.ring s.ctl.mode) ∧
    (∀ x, readPort (codePort x) s = .done (portBytes (portAt s x))) ∧
    readMode s = .done ([byte (codeMode s.ctl.mode), fieldOr (s.ctl.pendingRest.map codePort),
      fieldOr (s.store.session.map (fun x => codePort x.port))] ++
      (match s.ctl.allStop with
        | none => [0#8, 255#8, 255#8]
        | some (.port p) => [1#8, 1#8, byte (codePort p)]
        | some cause => [1#8, byte (codeStop cause), 255#8]) ++ [flagByte (!s.ctl.estop)]) ∧
    readCounters s = .done (s.counters.values.flatMap (fun v => inFour v.toNat) ++
      s.counters.sel.flatMap (fun x => [byte (codeEvent x.event), byte (codeQualifier x.qual)]) ++
      s.counters.half.map flagByte)

/-! ### The Route Engine and route instances (chapters 3 and 4) -/

/-- The arbiter.  A port has something waiting in IN-SERVICE, with a free place in its response list, when the head of its
queue is a CANCEL-ROUTE, or a SET-ROUTE with no REST pending; G has with an eligible retry entry or a demonstration's
SET-ROUTE that is presented, with no REST pending, or with a cancel (R45).  The grant (R46) goes to the first member with
something waiting in rotation order from the pointer; then a batch port keeps the pointer for up to three grants in a row,
and any other grant moves it on with the count at 0. -/
def Obligations.ArbiterGrants : Prop :=
  (∀ (s : State) (p : PortId), memberWaits s (.port p) = true ↔
    s.ctl.mode = .inService ∧ (portAt s p).responses.length < 16 ∧ ∃ q, (portAt s p).queue.head? = some q ∧
      ((∃ route option, q.req = .setRoute route option ∧ s.ctl.pendingRest = none) ∨ ∃ route, q.req = .cancelRoute route)) ∧
  (∀ s : State, memberWaits s .g = true ↔ s.ctl.mode = .inService ∧
    ((s.ctl.pendingRest = none ∧ ((∃ e ∈ s.engine.retry, e.eligible = true) ∨
      ∃ r, s.demo.run = some r ∧ r.hand = .fresh ∧ r.paused = false)) ∨ s.demo.cancel ≠ [])) ∧
  (∀ (s : State) (m : Member), grantOf s = some m → memberWaits s m = true ∧
    ∃ k, k < 5 ∧ m = (nextMember^[k]) s.engine.pointer ∧ ∀ j, j < k → memberWaits s ((nextMember^[j]) s.engine.pointer) = false) ∧
  (∀ s : State, grantOf s = none → ∀ m, memberWaits s m = false) ∧
  (∀ (s : State) (p : PortId), batchFlag s p = true →
    let k := (if s.engine.last = some (.port p) then s.engine.batch else 0) + 1
    afterGrant (.port p) s = s.withEngine (if k < 3 then { s.engine with pointer := .port p, batch := k, last := some (.port p) }
      else { s.engine with pointer := nextMember (.port p), batch := 0, last := some (.port p) })) ∧
  (∀ (s : State) (m : Member), (∀ p, m = .port p → batchFlag s p = false) →
    afterGrant m s = s.withEngine { s.engine with pointer := nextMember m, batch := 0, last := some m })

/-- The grants of the Route Engine whose evaluation does not end in a port's refusal.  A granted SET-ROUTE whose checks
all pass is ACCEPTED with the lowest free slot (R44), which then holds the new instance (`Accepted`), and the POINT MOVE of every point that starts to move, and the DECK TURN of a deck
that does, waits for the ring or the command queue is full (`Offered`).  The level-2 group's
grant goes to the oldest eligible retry entry: accepted, it leaves the list in the same way; still blocked, it stays
ineligible with the new reason; finally refused, it leaves the list.  With no eligible entry it goes to the Demonstration
Unit's SET-ROUTE: accepted, the run moves on by one route and has the instance in its record; blocked, the request in hand
is BLOCKED; finally refused, the run is aborted with NOT-HOLDER or REFUSED and the reason, its train has no driver, and
its instances in SETTING or SET join the cancel list, in the order of the running record, which is the model's choice (log
entry 14).  The row of each request is its grant (log entry 6).  That `Accepted` leaves the deck's section out of an
overlap unless the deck is ALIGNED and no move is commanded (`overlapHeld`) is the model's choice (log entry 10). -/
def Obligations.GrantsOfTheRouteEngine : Prop :=
  (∀ (p : PortId) (tag : Byte) (route option : Nat) (r : RouteEntry) (s : State), Heads s p tag (.setRoute route option) →
    option ≤ 1 → s.ctl.mode = .inService → s.ctl.pendingRest = none → grantOf s = some (.port p) →
    routeAt s route = some r → checkRoute s (.port p) route = none →
    ∃ t slot, exec (.setRoute p) s = .next t ∧ Accepted (.port p) route slot r s t ∧
      t.engine = (afterGrant (.port p) s).engine ∧ RouteFrame (answered p tag (.accepted slot) s) t) ∧
  (∀ (e : RetryEntry) (s : State), grantOf s = some .g → oldestEligible s = some e →
    let kept := s.engine.retry.filter (fun x => x.route != e.route)
    ∃ t, exec .retryEntryEvaluation s = .next t ∧
      (∀ r, routeAt s e.route = some r → checkRoute s (.port e.port) e.route = none →
        (∃ slot, Accepted (.port e.port) e.route slot r s t) ∧ RouteFrame s t ∧
        t.engine = (afterGrant .g (s.withEngine { s.engine with retry := kept })).engine) ∧
      (∀ why, checkRoute s (.port e.port) e.route = some (.blocking why) →
        let again := s.engine.retry.map (fun x =>
          if x.route = e.route then { x with eligible := false, reason := why } else x)
        quiet t = quiet (afterGrant .g (s.withEngine { s.engine with retry := again }))) ∧
      (∀ why, checkRoute s (.port e.port) e.route = some (.final why) →
        quiet t = quiet (afterGrant .g (s.withEngine { s.engine with retry := kept })))) ∧
  (∀ (r : Run) (pl : PlanEntry) (route : Nat) (s : State), grantOf s = some .g → oldestEligible s = none →
    s.ctl.mode = .inService → s.ctl.pendingRest = none → s.demo.run = some r → r.hand = .fresh → r.paused = false →
    planEntry s r.plan = some pl → pl.routes[r.next - 1]? = some route →
    ∃ t, exec .demoSetRoute s = .next t ∧
      (∀ x, routeAt s route = some x → checkRoute s .demo route = none →
        ∃ slot r', Accepted .demo route slot x s t ∧ RouteFrame s t ∧ t.trains = s.trains ∧
          t.engine = (afterGrant .g s).engine ∧ t.demo.run = some r' ∧ r'.plan = r.plan ∧ r'.train = r.train ∧
          r'.next = r.next + 1 ∧ r'.hand = .none ∧ (slot, r.next) ∈ r'.insts) ∧
      (∀ why, checkRoute s .demo route = some (.blocking why) →
        quiet t = quiet (afterGrant .g (s.withDemo { s.demo with run := some { r with hand := .blocked why } }))) ∧
      (∀ why, checkRoute s .demo route = some (.final why) →
        t = afterGrant .g (abort (if why = .notHolder then .notHolder else .refused why) (countRefused .demo route s)) ∧
        t.il = s.il ∧ t.deck = s.deck ∧
        t.demo.cancel = s.demo.cancel ++ (r.insts.map (·.1)).filter (fun slot =>
          (instAt s slot).any (fun i => i.state == .setting || i.state == .set)) ∧
        (t.demo.run = none → ∀ x, trainAt t r.train = some x → x.driver = none ∧ x.throttle = 0) ∧
        (∀ r', t.demo.run = some r' → ∃ e ∈ s.demo.queue, e.plan = r'.plan)))

/-- The checks of a route in their order (Table 3-2): the route is described, the requester may act, no instance of the
route is live, a slot is free, every route section is unlocked or absorbable and every overlap section unlocked, every
point passes the table of R52 and the deck that of R53.  The first that fails gives the reason, final or blocking, and
with none failing the route passes.  A granted SET-ROUTE whose evaluation fails changes no lock, no point and no deck
state.  A final failure, or a blocking one without QUEUE-IF-BLOCKED, is refused with its reason; with it a blocked request
is QUEUED at the end of the retry list, or refused ALREADY-QUEUED or RETRY-FULL.  A request whose option code names nothing is
refused with a reason that no rule names where no final check fails: the model's choice (log entry 3). -/
def Obligations.SetRouteFails : Prop :=
  (∀ (s : State) (party : Party) (route : Nat),
    (∀ f, checkRoute s party route = some f ↔ FirstOf (routeChecks s party route) f) ∧
    (checkRoute s party route = none ↔ ∀ c ∈ routeChecks s party route, ¬ c.1)) ∧
  ∀ (p : PortId) (tag : Byte) (route option : Nat) (s : State), Heads s p tag (.setRoute route option) →
    s.ctl.mode = .inService → s.ctl.pendingRest = none → grantOf s = some (.port p) →
    let fails := checkRoute s (.port p) route
    let refused := fun (why : Reason) => ∃ t, exec (.setRoute p) s = .next t ∧
      quiet t = quiet (afterGrant (.port p) (answered p tag (.refused why .none) s))
    (∀ why, fails = some (.final why) → refused why) ∧
    (2 ≤ option → ∃ why, refused why) ∧
    (∀ why, fails = some (.blocking why) → option = 0 → refused why) ∧
    (∀ why, fails = some (.blocking why) → option = 1 →
      ((∃ e ∈ s.engine.retry, e.route = route) → refused .alreadyQueued) ∧
      ((∀ e ∈ s.engine.retry, e.route ≠ route) → 8 ≤ s.engine.retry.length → refused .retryFull) ∧
      ((∀ e ∈ s.engine.retry, e.route ≠ route) → s.engine.retry.length < 8 →
        let entry : RetryEntry :=
          { route := route, port := p, left := (desc s).params.retryLife * 1000, reason := why, eligible := false }
        ∃ t, exec (.setRoute p) s = .next t ∧ quiet t = quiet (afterGrant (.port p) (answered p tag .queued
          (s.withEngine { s.engine with retry := s.engine.retry ++ [entry] })))))

/-- Cancellation and the timers of release.  CANCEL-ROUTE of a port: UNKNOWN-ITEM with no live instance, NOT-HOLDER and
ALREADY-RELEASING; an instance in SETTING, or in SET and not approach-locked, is released at once; one in SET and
approach-locked, or in OCCUPIED, enters RELEASING with its approach release timer running.  The Demonstration Unit's
CANCEL-ROUTE does the same to the instance at the head of the cancel list, which leaves the list.  The approach release
timer with origin SET releases the instance at once; with origin OCCUPIED every route section that is CLEAR is given up
and the overlap too, while a section that is not of the overlap stays as it is when it is not CLEAR or not of the route,
and no section has more than its lock given up; and the overlap release timer gives up the overlap sections.  A train
changes only by an admission that the end of the cancel list allows.  The row of each request is its grant (log entry 6),
and an expiry is taken while its timer runs, whatever is left (log entry 2). -/
def Obligations.CancelRouteAndReleaseTimers : Prop :=
  (∀ (p : PortId) (tag : Byte) (route : Nat) (s : State), Heads s p tag (.cancelRoute route) → s.ctl.mode = .inService →
    grantOf s = some (.port p) →
    let refused := fun (why : Reason) =>
      exec (.cancelRoute p) s = .next (afterGrant (.port p) (answered p tag (.refused why .none) s))
    (routeAt s route = none ∨ liveSlot s route = none → refused .unknownItem) ∧
    (∀ r slot i, routeAt s route = some r → liveSlot s route = some slot → instAt s slot = some i → i.route = route →
      (holds s p (routeDistrict s route) = false → refused .notHolder) ∧
      (holds s p (routeDistrict s route) = true → i.state = .releasing → refused .alreadyReleasing) ∧
      (holds s p (routeDistrict s route) = true → (i.state = .setting ∨ (i.state = .set ∧ approachLocked s i = false)) →
        ∃ t, exec (.cancelRoute p) s = .next t ∧ ReleasedAtOnce slot i r s t ∧
          RouteFrame (answered p tag (.done [byte slot, 0#8]) s) t) ∧
      (holds s p (routeDistrict s route) = true → (i.state = .occupied ∨ (i.state = .set ∧ approachLocked s i = true)) →
        ∃ t, exec (.cancelRoute p) s = .next t ∧
          EntersReleasing slot i (if i.state = .occupied then .occupied else .set) s t ∧
          t.trains = s.trains ∧ t.demo = s.demo ∧ t.engine = (afterGrant (.port p) s).engine ∧
          RouteFrame (answered p tag (.done [byte slot, 1#8]) s) t))) ∧
  (∀ (slot : Nat) (rest : List Nat) (s : State), grantOf s = some .g → oldestEligible s = none → demoSetWaits s = false →
    s.ctl.mode = .inService → s.demo.cancel = slot :: rest →
    ∃ t, exec .demoCancelRoute s = .next t ∧ slot ∉ t.demo.cancel ∧ RouteFrame s t ∧
      (instAt s slot = none → t.il = s.il) ∧
      (∀ r i, instAt s slot = some i → routeAt s i.route = some r → liveSlot s i.route = some slot →
        (i.requester ≠ .demo ∨ i.state = .releasing → t.il = s.il) ∧
        (i.requester = .demo → (i.state = .setting ∨ (i.state = .set ∧ approachLocked s i = false)) →
          ReleasedAtOnce slot i r s t) ∧
        (i.requester = .demo → (i.state = .occupied ∨ (i.state = .set ∧ approachLocked s i = true)) →
          EntersReleasing slot i (if i.state = .occupied then .occupied else .set) s t))) ∧
  (∀ (slot : Nat) (i : Inst) (r : RouteEntry) (s : State), instAt s slot = some i → routeAt s i.route = some r →
    let apart := fun (t : State) => RouteFrame s t ∧ t.deck = s.deck ∧ ∀ k, k ≠ slot → instAt t k = instAt s k
    (∀ n, i.state = .releasing → i.origin = some .set → i.approach = .running n →
      ∃ t, exec (.approachReleaseExpirySet slot) s = .next t ∧ RouteFrame s t ∧ ReleasedAtOnce slot i r s t) ∧
    (∀ n, i.state = .releasing → i.origin = some .occupied → i.approach = .running n →
      ∃ t, exec (.approachReleaseExpiryOccupied slot) s = .next t ∧ apart t ∧
        (∀ j, instAt t slot = some j → j.approach = .expired ∧ j.overlap = []) ∧
        (∀ (k : Nat) (x : Nat × Dir) (m : Mark) (st : SecState), r.sections[k]? = some x → i.marks[k]? = some m → m ≠ .released →
          secAt s x.1 = some st → st.occ = .clear → lockedTo t slot .route x.1 = false) ∧
        (∀ x ∈ i.overlap, lockedTo t slot .overlap x = false) ∧
        (∀ m st, secAt s m = some st → st.occ ≠ .clear ∨ (∀ x ∈ r.sections, x.1 ≠ m) → m ∉ i.overlap →
          secAt t m = some st) ∧
        (∀ m st, secAt s m = some st → secAt t m = some st ∨ secAt t m = some { st with lock := none })) ∧
    (∀ n, i.overlapTimer = .running n → ∃ t, exec (.overlapReleaseTimeout slot) s = .next t ∧ apart t ∧
      (∀ j, instAt t slot = some j → j.overlap = [] ∧ j.overlapTimer = .done) ∧
      (∀ m st, secAt s m = some st → secAt t m = some { st with
        lock := if st.lock = some { slot := slot, role := .overlap } ∧ m ∈ i.overlap then none else st.lock }))) ∧
  (∀ (route : Nat) (s : State), ∃ t, exec (.retryLifetimeExpiry route) s = .next t ∧ quiet t = quiet (s.withEngine
    { s.engine with retry := s.engine.retry.filter (fun e => e.route != route) }))

/-- An instance in SET is approach-locked exactly when some train that is not ABSENT has the instance's first section in
its authority list and either moves or stands with its head in an approach section of the route (R76).  That "moves" is
read from the output as it stands, which an all-stop has set to 0, and not from the output of the train's most recent
expiry, is the model's reading (log entry 10). -/
def Obligations.ApproachLock : Prop :=
  ∀ (s : State) (i : Inst) (r : RouteEntry) (f : Nat × Dir), routeAt s i.route = some r → r.sections.head? = some f →
    (approachLocked s i = true ↔ ∃ e ∈ s.trains, ∃ u, e.2.sup = some u ∧ e.2.state ≠ .absent ∧
      (∃ x ∈ u.auth, x.sec = f.1) ∧ (u.output ≠ 0 ∨ ∃ h, e.2.list.getLast? = some h ∧ h ∈ r.approach))

/-! ### Trains (chapters 5 and 6) -/

/-- PLACE-TRAIN is refused UNKNOWN-ITEM for an undescribed train or section, NOT-HOLDER by a sender that does not hold the
section's district, HELD for a train that is not ABSENT, and OCCUPIED for a section that is neither CLEAR and empty nor
OCCUPIED by UNKNOWN, in that order, each changing nothing, whatever the direction code.  A direction code that names none is
refused behind these checks with a reason that no rule names, and changes nothing: the model's choice (log entry 3).
PLACE-TRAIN of an ABSENT train on a section that is CLEAR and empty, or OCCUPIED by UNKNOWN, in a held district:
the train is PLACED with that one section, its direction, its head at half the length and its output 0, and the section
has it as occupant.  No other train, section, point or instance changes. -/
def Obligations.PlaceTrain : Prop :=
  (∀ (p : PortId) (tag : Byte) (x n d : Nat) (s : State), Heads s p tag (.placeTrain x n d) →
    s.ctl.mode = .waking ∨ s.ctl.mode = .inService →
    let refused := fun (a : Answer) => exec (.placeTrain p) s = .next (answered p tag a s)
    (trainAt s x = none ∨ secAt s n = none → refused (.refused .unknownItem .none)) ∧
    (∀ r st, trainAt s x = some r → secAt s n = some st →
      (holds s p (secDistrict s n) = false → refused (.refused .notHolder .none)) ∧
      (holds s p (secDistrict s n) = true →
        (r.state ≠ .absent → refused (.refused .held (.held r.driver))) ∧
        (r.state = .absent → ¬ ((st.occ = .clear ∧ st.occupant = .none) ∨ (st.occ = .occupied ∧ st.occupant = .unknown)) →
          refused (.refused .occupied .none)) ∧
        (r.state = .absent → (st.occ = .clear ∧ st.occupant = .none) ∨ (st.occ = .occupied ∧ st.occupant = .unknown) →
          dirOfCode d = none → ∃ why, refused (.refused why .none))))) ∧
  ∀ (p : PortId) (tag : Byte) (x n d : Nat) (dir : Dir) (r : TrainRec) (st : SecState) (s : State),
    Heads s p tag (.placeTrain x n d) → s.ctl.mode = .waking ∨ s.ctl.mode = .inService → dirOfCode d = some dir →
    trainAt s x = some r → r.state = .absent → secAt s n = some st → holds s p (secDistrict s n) = true →
    ((st.occ = .clear ∧ st.occupant = .none) ∨ (st.occ = .occupied ∧ st.occupant = .unknown)) →
    ∃ t r' u, exec (.placeTrain p) s = .next t ∧ trainAt t x = some r' ∧ r'.sup = some u ∧ r'.state = .placed ∧
      r'.list = [n] ∧ r'.cause = none ∧ r'.pendRev = false ∧ r'.driver = r.driver ∧
      r'.heading = (if isDeckSection s n then (match dir with | .up => .faceA | .down => .faceB)
        else match dir with | .up => .up | .down => .down) ∧
      u.offset = secLength s n * 10 ∧ u.output = 0 ∧ u.auth = [{ sec := n, route := none }] ∧
      secAt t n = some { st with occupant := .train x } ∧ (∀ m, m ≠ n → secAt t m = secAt s m) ∧
      (∀ y, y ≠ x → trainAt t y = trainAt s y) ∧ t.il.points = s.il.points ∧ t.il.instances = s.il.instances ∧
      t.il.districts = s.il.districts ∧
      inner ((t.withTrains s.trains).withIl s.il) = inner (answered p tag (.done []) s)

/-- TAKE-TRAIN, GIVE-TRAIN, RESTORE-TRAIN and REMOVE-TRAIN.  An undescribed train is UNKNOWN-ITEM.  TAKE-TRAIN: the driver
becomes the sender with throttle 0; DONE with nothing changed when it is; HELD by another driver, or by nobody while a
queued plan waits for the train.  GIVE-TRAIN: given back, or NOT-DRIVER.  RESTORE-TRAIN, by the driver or the holder of
the head section's district and otherwise NOT-HOLDER: VANISHED for an ABSENT train and for one alone on a CLEAR section;
DONE with nothing changed when PLACED; a DISRUPTED train is PLACED again with throttle 0.  REMOVE-TRAIN: HELD by another
driver; BUSY when the output of the most recent supervision expiry is above 0; DONE with nothing changed when ABSENT;
otherwise the train is ABSENT with an empty list and no driver, and its sections have occupant UNKNOWN where OCCUPIED and
none where CLEAR. -/
def Obligations.TrainsTakenGivenRestoredRemoved : Prop :=
  ∀ (p : PortId) (tag : Byte) (x : Nat) (s : State), s.ctl.mode = .waking ∨ s.ctl.mode = .inService →
    let answers := fun (c : Instr) (a : Answer) => exec c s = .next (answered p tag a s)
    (trainAt s x = none →
      (Heads s p tag (.takeTrain x) → answers (.takeTrain p) (.refused .unknownItem .none)) ∧
      (Heads s p tag (.giveTrain x) → answers (.giveTrain p) (.refused .unknownItem .none)) ∧
      (Heads s p tag (.restoreTrain x) → answers (.restoreTrain p) (.refused .unknownItem .none)) ∧
      (Heads s p tag (.removeTrain x) → answers (.removeTrain p) (.refused .unknownItem .none))) ∧
    (∀ r, trainAt s x = some r →
      let otherTrains := fun (t : State) => (∀ y, y ≠ x → trainAt t y = trainAt s y) ∧
        quiet (t.withTrains s.trains) = quiet (answered p tag (.done []) s)
      (Heads s p tag (.takeTrain x) →
        (r.driver = some (.port p) → answers (.takeTrain p) (.done [])) ∧
        (∀ q, r.driver = some q → q ≠ .port p → answers (.takeTrain p) (.refused .held (.held (some q)))) ∧
        (r.driver = none → queuedTrain s x = true → answers (.takeTrain p) (.refused .held (.held none))) ∧
        (r.driver = none → queuedTrain s x = false → ∃ t r', exec (.takeTrain p) s = .next t ∧ trainAt t x = some r' ∧
          r'.driver = some (.port p) ∧ r'.throttle = 0 ∧ r'.pendRev = false ∧ r'.state = r.state ∧ r'.list = r.list ∧
          otherTrains t)) ∧
      (Heads s p tag (.giveTrain x) →
        (r.driver ≠ some (.port p) → answers (.giveTrain p) (.refused .notDriver .none)) ∧
        (r.driver = some (.port p) → ∃ t r', exec (.giveTrain p) s = .next t ∧ trainAt t x = some r' ∧ r'.driver = none ∧
          r'.throttle = 0 ∧ r'.pendRev = false ∧ r'.state = r.state ∧ r'.list = r.list ∧ otherTrains t)) ∧
      (Heads s p tag (.restoreTrain x) →
        let may := r.driver = some (.port p) ∨ ∃ h, r.list.getLast? = some h ∧ holds s p (secDistrict s h) = true
        (¬ may → answers (.restoreTrain p) (.refused .notHolder .none)) ∧
        (may → r.state = .absent ∨ loneClear s r = true → answers (.restoreTrain p) (.refused .vanished .none)) ∧
        (may → r.state = .placed → loneClear s r = false → answers (.restoreTrain p) (.done [])) ∧
        (may → r.state = .disrupted → loneClear s r = false →
          ∃ t r', exec (.restoreTrain p) s = .next t ∧ trainAt t x = some r' ∧ r'.state = .placed ∧ r'.cause = none ∧
            r'.throttle = 0 ∧ r'.list = r.list ∧ r'.heading = r.heading ∧ r'.driver = r.driver ∧ otherTrains t)) ∧
      (Heads s p tag (.removeTrain x) →
        (∀ q, r.driver = some q → q ≠ .port p → answers (.removeTrain p) (.refused .held (.held (some q)))) ∧
        ((r.driver = none ∨ r.driver = some (.port p)) →
          (settledOf s x ≠ 0 → answers (.removeTrain p) (.refused .busy .none)) ∧
          (settledOf s x = 0 → r.state = .absent → answers (.removeTrain p) (.done [])) ∧
          (settledOf s x = 0 → r.state ≠ .absent → ∃ t r', exec (.removeTrain p) s = .next t ∧ trainAt t x = some r' ∧
            r'.state = .absent ∧ r'.list = [] ∧ r'.driver = none ∧ r'.throttle = 0 ∧ r'.pendRev = false ∧
            r'.cause = none ∧ r'.sup = none ∧
            (∀ y, y ≠ x → trainAt t y = trainAt s y ∨ Admitted s t y) ∧
            (∀ n, (secAt t n).map (fun y => (y.occ, y.disturbed)) = (secAt s n).map (fun y => (y.occ, y.disturbed))) ∧
            (∀ n, (secAt t n).map (·.occupant) = (secAt s n).map (fun y =>
              if n ∈ r.list then (if y.occ = .occupied then .unknown else .none) else y.occupant)) ∧
            t.il.districts = s.il.districts ∧
            inner ((((t.withTrains s.trains).withIl s.il).withDemo s.demo).withEngine s.engine) =
              inner (answered p tag (.done []) s)))))

/-- The tracker at work when a section's occupancy changes. A section with no occupant that becomes OCCUPIED: the one
train whose authority has it next steps into it; failing one, the one PLACED train standing at a signal into a route that
begins there has run past the signal, steps in and is DISRUPTED with OVERRUN; failing one too, the occupant is UNKNOWN. A
step puts the section at the head of the list (a list of 8 gives up its tail, and the train is DISRUPTED with OVERFLOW),
takes the head offset to 0 and the direction of the route, makes the section's mark PASSED, and moves no other train. A
section that becomes CLEAR leaves the train's list: the tail with no more ado, any other but the only one with cause
PARTED, the only one staying in the list with cause VANISHED; a new head stands at the far end of its section; and an
UNKNOWN occupant goes. While occupancy changes are held, the section is marked disturbed. The instance that holds a
section: a step makes the section's mark PASSED, and that of the first section takes an instance in SET, or in RELEASING
with origin SET (a void cancel), to OCCUPIED with the train as entering train; in OCCUPIED, and in RELEASING before its
timer has expired, a section that is PASSED and CLEAR with all before it RELEASED is released, with those behind it that
are PASSED and CLEAR, and the instance is freed when it holds nothing more; and each supervision expiry of the entering
train moves the overlap release timer. That a void cancel leaves the release origin none is the model's inference (log
entry 10), and that a step under a route which the committed description does not describe with that section leaves the
direction as it is the model's choice (log entry 15). -/
def Obligations.TrackerStepsAndClears : Prop :=
  ∀ (n : Nat) (st : SecState) (s : State), secAt s n = some st →
    let onlyList := fun (t : State) (x : Nat) => ∀ y, y ≠ x → (trainAt t y).map (·.list) = (trainAt s y).map (·.list)
    let up := becameOccupied n s
    let down := becameClear n s
    (st.occupant ≠ .none → up = s) ∧
    (st.occupant = .none →
      (∀ x r u, nextTrains s n = [x] → trainAt s x = some r → r.sup = some u → r.state ≠ .absent → n ∉ r.list →
        r.list.length ≤ 8 →
        let route := (nextSection r).bind (·.route)
        ∃ r' v, trainAt up x = some r' ∧ r'.sup = some v ∧ v.offset = 0 ∧ v.auth = u.auth ∧ v.output = u.output ∧
          r'.list = (if r.list.length = 8 then (r.list ++ [n]).drop 1 else r.list ++ [n]) ∧ onlyList up x ∧
          (secAt up n).map (·.occupant) = some (.train x) ∧
          (isDeckSection s n = false → r'.heading = (match routeDir s route n with
            | some .up => .up | some .down => .down | none => r.heading)) ∧
          (r.list.length < 8 → isDeckSection s n = false → cancelledEntry s n = none →
            r'.state = r.state ∧ r'.cause = r.cause) ∧
          (r.list.length < 8 → isDeckSection s n = false → (cancelledEntry s n).isSome = true → r.state = .placed →
            r'.state = .disrupted ∧ r'.cause = some .overrun) ∧
          (∀ tail rest, r.list.length = 8 → r.list = tail :: rest → r'.state = .disrupted ∧
            (r.state = .placed → r'.cause = some .overflow) ∧
            ∀ y, secAt s tail = some y → (secAt up tail).map (·.occupant) =
              some (if y.occ = .occupied then Occupant.unknown else .none)) ∧
          (∀ slot i k, routeHolder s n = some slot → instAt s slot = some i → sectionIndex s i n = some k →
            i.marks[k]? = some .locked → ∀ j, instAt up slot = some j → j.marks[k]? ≠ some .locked)) ∧
      ((∀ x, nextTrains s n ≠ [x]) →
        (∀ x r, overrunTrains s n = [x] → trainAt s x = some r → r.state = .placed →
          (∃ g, headSignal s r = some g ∧ (overrunRoute s g n).isSome = true) → n ∉ r.list → r.list.length < 8 →
          isDeckSection s n = false → ∃ r', trainAt up x = some r' ∧ r'.list = r.list ++ [n] ∧ r'.state = .disrupted ∧
            r'.cause = some .overrun ∧ (secAt up n).map (·.occupant) = some (.train x) ∧ onlyList up x) ∧
        ((∀ x, overrunTrains s n ≠ [x]) →
          quiet up = quiet (updateSec s n (fun y => { y with occupant := .unknown }))))) ∧
    (st.occupant = .none → down = s) ∧
    (st.occupant = .unknown → quiet down = quiet (updateSec s n (fun y => { y with occupant := .none }))) ∧
    (∀ x r, st.occupant = .train x → trainAt s x = some r → r.state ≠ .absent → n ∈ r.list →
      let parted := fun (r' : TrainRec) (why : Cause) =>
        r'.state = .disrupted ∧ r'.cause = (if r.state = .placed then some why else r.cause)
      ∃ r', trainAt down x = some r' ∧ r'.heading = r.heading ∧ onlyList down x ∧
        (r.list = [n] → r'.list = [n] ∧ parted r' .vanished ∧ down.il = s.il) ∧
        (∀ tail next rest, r.list = tail :: next :: rest →
          r'.list = r.list.filter (· != n) ∧ secAt down n = some { st with occupant := .none } ∧
          (∀ m, m ≠ n → secAt down m = secAt s m) ∧
          (tail = n → r'.state = r.state ∧ r'.cause = r.cause) ∧ (tail ≠ n → parted r' .parted) ∧
          (∀ h u, (r.list.filter (· != n)).getLast? = some h → r.sup = some u → r'.sup.map (·.offset) = some
            (if r.list.getLast? = some n then secLength s h * 20 - 1 else u.offset)))) ∧
    (∀ occ, holdsChanges s = true → (secAt (occupancyChanged n occ s) n).map (fun y => (y.occ, y.occupant, y.disturbed)) =
      some (occ, st.occupant, true)) ∧
    (∀ slot i k x, routeHolder s n = some slot → instAt s slot = some i → sectionIndex s i n = some k →
      i.marks[k]? = some .locked →
      let t := instStep n x s
      let enters := k = 0 ∧ (i.state = .set ∨ (i.state = .releasing ∧ i.origin = some .set))
      RouteFrame s t ∧ (∀ j, j ≠ slot → instAt t j = instAt s j) ∧
      ((enters → st.occ = .occupied) → t.il.sections = s.il.sections ∧ t.il.points = s.il.points) ∧
      (¬ enters → instAt t slot = some (passedMark k x i)) ∧
      (enters → st.occ = .occupied → instAt t slot = some (if i.state = .set
        then { passedMark k x i with state := .occupied, entering := some x }
        else { passedMark k x i with state := .occupied, entering := some x, approach := .stopped, origin := none }))) ∧
    (∀ slot i r k, routeHolder s n = some slot → instAt s slot = some i → routeAt s i.route = some r →
      sectionIndex s i n = some k → r.sections.length ≤ 12 → ¬ (i.state = .releasing ∧ i.approach = .expired) →
      let t := offerRelease n s
      let turn := (i.state = .occupied ∨ i.state = .releasing) ∧ PassedAndClear s i r k ∧
        ∀ q, q < k → i.marks[q]? = some .released
      (¬ turn → t = s) ∧
      (turn → ∃ m, 0 < m ∧ (∀ q, q < m → PassedAndClear s i r (k + q)) ∧ ¬ PassedAndClear s i r (k + m) ∧
        ReleasedInOrder slot i r k m s t ∧ RouteFrame s t)) ∧
    (∀ x head out, (itemNumbers s.il.instances).Nodup → (desc s).params.overlapTime ≠ 0 →
      let t := reportToInstances x head out s
      (∀ slot, instAt t slot = (instAt s slot).map (fun i =>
        if i.entering = some x then overlapTimed s head out i else i)) ∧
      quiet (t.withIl s.il) = quiet s ∧ t.il.sections = s.il.sections ∧ t.il.points = s.il.points)

/-- THROTTLE: refused WRONG-MODE in CONFIG and REST, UNKNOWN-ITEM for an undescribed train, NOT-DRIVER for any sender but
the driver, whatever the direction code; an accepted one stores its value and whether a reversal is asked, gives no response,
and a value above 0 abandons a pending REST.  A direction code that names none is refused behind these checks with a reason
that no rule names, and changes nothing: the model's choice (log entry 3). -/
def Obligations.Throttle : Prop :=
  ∀ (p : PortId) (tag : Byte) (x v d : Nat) (s : State), (portAt s p).state = .online →
    let refused := fun (why : Reason) => exec (.throttle p tag x v d) s = .next (respond p tag (.refused why .none) (heard p s))
    (s.ctl.mode = .config ∨ s.ctl.mode = .rest → refused .wrongMode) ∧
    (s.ctl.mode = .waking ∨ s.ctl.mode = .inService →
      (trainAt s x = none → refused .unknownItem) ∧
      (∀ r, trainAt s x = some r → r.driver ≠ some (.port p) → refused .notDriver) ∧
      (∀ r, trainAt s x = some r → r.driver = some (.port p) → dirOfCode d = none → ∃ why, refused why) ∧
      (∀ r dir, trainAt s x = some r → r.driver = some (.port p) → dirOfCode d = some dir →
        ∃ t, exec (.throttle p tag x v d) s = .next t ∧
        trainAt t x = some { r with throttle := v, pendRev := requestedHeading r.heading dir != r.heading } ∧
        (∀ y, y ≠ x → trainAt t y = trainAt s y) ∧
        quiet (t.withTrains s.trains) = quiet ((heard p s).withCtl
          { s.ctl with pendingRest := if v = 0 then s.ctl.pendingRest else none })))

/-- The expiry of a supervised train's timer: the timer restarts at 50 ms; the head offset advances by the output in
force, up to the far end of the head section; the authority list is that of R104 and R105; the permitted speed is the
least of its terms (R110), of which each section's limit is that of R106 (`speedLimit`), and 0 when DISRUPTED; a SPEED
command sets the refresh count to 0; a reversal asked of a train at rest is made: the list and the direction are turned,
the head is taken to stand at the middle of the new head section, which is the whole authority, and the drive sense
toggles.  The output never exceeds the demanded or the permitted speed and rises by at most the acceleration step; it is 0
under the all-stop latch, outside IN-SERVICE, for a DISRUPTED train, without an ACTIVE traction module, and on a deck that
is not ALIGNED; and the intervention flag says whether the demand exceeds what is permitted.  That the floor of R109
(`ReleaseFloor`) asks the instance to hold its last section as ROUTE is the model's reading (log entry 15), and the expiry
is taken whatever is left on the timer (log entry 2).  The restart of the timer is of R103, the SPEED command of R115 and
the reversal of R90 and R117. -/
def Obligations.SupervisionExpiry : Prop :=
  ∀ (x head : Nat) (r : TrainRec) (u : Sup) (e : TrainEntry) (s : State), trainAt s x = some r → r.sup = some u →
    r.list.getLast? = some head → trainEntry s x = some e →
    ∃ t r' v, exec (.supervisionExpiry x) s = .next t ∧ trainAt t x = some r' ∧ r'.sup = some v ∧ v.timer = 50 ∧
      (let offset := min (u.offset + u.output) (secLength s head * 20 - 1)
       let reverses := r.pendRev = true ∧ v.output = 0
       (∃ start dir auth, AuthorityBegins s head r.heading start dir ∧ AuthorityRuns s start dir auth ∧
         (¬ reverses → v.auth = auth) ∧ (r.state ≠ .disrupted → PermittedIs s e head offset auth v.permitted)) ∧
       (r.state = .disrupted → v.permitted = 0) ∧
       (¬ reverses → v.offset = offset ∧ v.sense = u.sense ∧ r'.list = r.list ∧ r'.heading = r.heading ∧
         r'.pendRev = r.pendRev) ∧
       (reverses → r'.list = r.list.reverse ∧ r'.pendRev = false ∧
         r'.heading = (match r.heading with | .up => .down | .down => .up | .faceA => .faceB | .faceB => .faceA) ∧
         v.sense = (match u.sense with | .forward => .backward | .backward => .forward) ∧
         ∀ tail, r.list.head? = some tail →
           v.offset = secLength s tail * 10 ∧ v.auth = [{ sec := tail, route := none }]) ∧
       v.refresh = (if v.output ≠ u.output ∨ (20 ≤ u.refresh ∧ s.ctl.mode ≠ .config) then 0 else min 20 (u.refresh + 1))) ∧
      v.output ≤ v.demanded ∧ v.output ≤ v.permitted ∧ v.output ≤ u.output + max 1 (e.accel / 20) ∧
      v.demanded = (if r.driver = none ∨ r.pendRev = true then 0 else r.throttle * e.vmax / 255) ∧
      v.permitted ≤ e.vmax ∧ v.permitted ≤ 1023 ∧ v.permitted ≤ speedLimit s head ∧
      v.intervening = decide (v.permitted < v.demanded) ∧
      (let forced := s.ctl.allStop.isSome = true ∨ r.state = .disrupted ∨ s.ctl.mode ≠ .inService ∨ tractionActive s = false ∨
        (isDeckSection s head = true ∧ deckAligned s = none)
       (forced → v.output = 0) ∧
       (¬ forced → v.output =
        (let target := min v.demanded v.permitted
         if u.output < target then min target (u.output + max 1 (e.accel / 20)) else target))) ∧
      t.store = s.store ∧ t.deck = s.deck ∧ t.ctl = s.ctl

/-- The braking cap (R108) is the greatest speed, at most 1023, whose square does not exceed limit squared plus twice the
braking rate times the distance beyond the stop margin; and the integer square root is exact. -/
def Obligations.BrakingCap : Prop :=
  (∀ x : Nat, isqrt x * isqrt x ≤ x ∧ x < (isqrt x + 1) * (isqrt x + 1)) ∧
  (∀ limit brake margin dist : Nat,
    let room := limit * limit + 2 * brake * (if margin ≤ dist then dist - margin else 0)
    let cap := brakingCap limit brake margin dist
    cap ≤ 1023 ∧ cap * cap ≤ room ∧ (cap < 1023 → room < (cap + 1) * (cap + 1)))

/-! ### The turntable (chapter 7) -/

/-- The geometry of a move (R122): it starts at the road of an ALIGNED deck and at the reported index of an UNPROVEN one;
from f to t it has (t - f) mod N steps clockwise and (f - t) mod N counter-clockwise, so that it leads to t; SHORT is CW
when the CW count is no greater, and CCW otherwise; and the move timer is twice the time of the steps and the settling. -/
def Obligations.DeckMoveGeometry : Prop :=
  (∀ (n f t : Nat) (q : Params), f < n → t < n →
    (stepsOf n f t .cw : Int) = ((t : Int) - f) % n ∧ (stepsOf n f t .ccw : Int) = ((f : Int) - t) % n ∧
    (f + stepsOf n f t .cw) % n = t ∧ (t + stepsOf n f t .ccw) % n = f ∧
    resolveSense n f t .cw = .cw ∧ resolveSense n f t .ccw = .ccw ∧
    resolveSense n f t .short = (if stepsOf n f t .cw ≤ stepsOf n f t .ccw then .cw else .ccw) ∧
    (∀ k, moveTime q k = 2 * (k * q.deckStep + q.deckSettle))) ∧
  (∀ (d : DeckState) (j : Nat), d.pos = .aligned j → startIndex d = j) ∧
  (∀ (d : DeckState) (i : Nat), d.pos = .unproven → d.reported = some i → startIndex d = i)

/-- TURN-DECK and the move timer.  With no deck described, or a road not below N, it is UNKNOWN-ITEM, and a sender that
does not hold the deck's district is NOT-HOLDER.  A deck that is MOVING latches the first request (LATCHED) and refuses
the next (BUSY).  An ALIGNED or UNPROVEN deck answers DONE with no move at the road it is aligned to, ESTOP-ACTIVE under
the latch and the failing start condition otherwise; else the move starts with its timer, and the DECK TURN command is offered
to the ring: it then waits, or the command queue is full (`Offered`), and where no live instance's route has a deck requirement the ring
changes by that offer alone.  A sense code that names none is refused with a reason that no rule names, behind these checks,
and changes nothing: the model's choice (log entry 3).  The start conditions are, in
their order: no instance holds the deck section or a deck claim (DECK-LOCKED); the deck section is CLEAR, or one train
alone stands on it at output 0 (DECK-OCCUPIED); the DECK module is ACTIVE (MODULE-FAILED).  The expiry of the timer leaves
the deck UNPROVEN with no move and no latch, and of the instances it fails with DECK-LOST those in SETTING with a claim
and those in SET that hold the deck section; one in OCCUPIED or RELEASING that holds it as a route section stays, with
that section unlocked and its mark RELEASED; and an instance that neither holds it nor, in SETTING, has a claim stays as
it is (R63). -/
def Obligations.TurnDeckAndTimeout : Prop :=
  (∀ (s : State) (p : PortId) (tag : Byte) (k x : Nat), Heads s p tag (.turnDeck k x) →
    s.ctl.mode = .waking ∨ s.ctl.mode = .inService → (desc s).deck = none →
    exec (.turnDeck p) s = .next (answered p tag (.refused .unknownItem .none) s)) ∧
  (∀ (s : State) (e : DeckEntry) (why : Reason), startFails s e = some why ↔ FirstOf
    [((∃ st, secAt s e.sec = some st ∧ st.lock ≠ none) ∨ (∃ x ∈ s.il.instances, x.2.claim ≠ .none), Reason.deckLocked),
     (¬ ∃ st, secAt s e.sec = some st ∧ (st.occ = .clear ∨ ∃ y r, st.occupant = .train y ∧ trainAt s y = some r ∧
        r.list = [e.sec] ∧ outputOf s y = 0), .deckOccupied),
     (moduleActive s e.addr = false, .moduleFailed)] why) ∧
  ∀ (s : State) (d : DeckState) (e : DeckEntry), s.deck = some d → (desc s).deck = some e →
    (∀ p tag k x, Heads s p tag (.turnDeck k x) → s.ctl.mode = .waking ∨ s.ctl.mode = .inService →
      let refused := fun (r : Reason) => exec (.turnDeck p) s = .next (answered p tag (.refused r .none) s)
      (e.n ≤ k → refused .unknownItem) ∧
      (k < e.n → holds s p (deckDistrict s) = false → refused .notHolder) ∧
      (k < e.n → holds s p (deckDistrict s) = true →
        (deckMoving s = true → d.latch.isSome = true → refused .busy) ∧
        (deckMoving s = true → d.latch = none → senseOfCode x = none → ∃ why, refused why) ∧
        (∀ sn, deckMoving s = true → d.latch = none → senseOfCode x = some sn → ∃ t, exec (.turnDeck p) s = .next t ∧ quiet t = quiet (answered p tag
          .latched (s.withDeck (some { d with latch := some { road := k, sense := sn, port := p } })))) ∧
        (deckMoving s = false →
          (deckAligned s = some k → exec (.turnDeck p) s = .next (answered p tag (.done []) s)) ∧
          (deckAligned s ≠ some k → s.ctl.allStop.isSome = true → refused .estopActive) ∧
          (∀ why, deckAligned s ≠ some k → s.ctl.allStop = none → startFails s e = some why → refused why) ∧
          (deckAligned s ≠ some k → s.ctl.allStop = none → startFails s e = none → senseOfCode x = none →
            ∃ why, refused why) ∧
          (∀ sn, deckAligned s ≠ some k → s.ctl.allStop = none → startFails s e = none → senseOfCode x = some sn →
            let f := startIndex d
            let turn := resolveSense e.n f k sn
            ∃ t, exec (.turnDeck p) s = .next t ∧ t.deck = some { d with
                pos := .moving f k turn, req := some (.port p), doubt := 0,
                timer := some (moveTime (desc s).params (stepsOf e.n f k turn)) } ∧
              t.il.sections = s.il.sections ∧ t.il.points = s.il.points ∧ t.il.instances = s.il.instances ∧
              t.il.districts = s.il.districts ∧
              inner ((t.withDeck s.deck).withIl s.il) = inner (answered p tag (.done []) s) ∧
              Offered (.deckTurn k turn) s t ∧
              ((∀ i ∈ s.il.instances, ∀ r, routeAt s i.2.route = some r → r.deckReq = none) →
                t.ring = (offer (.deckTurn k turn) s).ring))))) ∧
    (deckMoving s = true → ∃ t, exec .deckMoveTimeout s = .next t ∧
      t.deck = some { d with pos := .unproven, req := none, timer := none, latch := none } ∧
      t.store = s.store ∧ t.ctl = s.ctl ∧
      (∀ n, (secAt t n).map (fun x => (x.occ, x.occupant)) = (secAt s n).map (fun x => (x.occ, x.occupant))) ∧
      (∀ slot i, instAt s slot = some i →
        let held := fun (role : LockRole) => lockedTo s slot role e.sec = true
        ((i.state = .setting ∧ i.claim ≠ .none) ∨ (i.state = .set ∧ (held .route ∨ held .overlap)) →
          instAt t slot = none) ∧
        (∀ r k x, i.state = .occupied ∨ i.state = .releasing → held .route → routeAt s i.route = some r →
          r.sections[k]? = some x → x.1 = e.sec → (∀ j y, r.sections[j]? = some y → y.1 = e.sec → j = k) →
          instAt t slot = some { i with marks := i.marks.set k .released } ∧ lockedTo t slot .route e.sec = false) ∧
        (¬ held .route → ¬ held .overlap → (i.state = .setting → i.claim = .none) → instAt t slot = some i)))

/-! ### Visitor demonstrations (chapter 8) -/

/-- The screening port's PASS-DEMO of a PENDING entry, and its screening timer, accept it: an accepted entry of the plan
stands in the queue or the plan runs, and every other entry stays, but for one that is admitted.  VETO-DEMO takes a
PENDING entry off the queue, and the admission timer its head; the others stay.  A VETO-DEMO of an ACCEPTED entry is
TOO-LATE and of the running plan aborts the run; another port is NOT-HOLDER.  An accepted head is tested: it is admitted
exactly when the service is OPEN, no run and no cancel stands, and its train is PLACED, undriven, at rest, with its head
in the plan's start section (R142, R143).  The run limit aborts a run that is not paused.  The run: a step into the final
section of a route of the plan raises the request for the next, and a supervision expiry completes the run (R144); a freed
instance leaves the record, and a failed one aborts the run.  The order in which an aborted run's instances join the
cancel list (`Aborted`) is the model's choice, and that a failed instance leaves that list as well is its inference (both
log entry 14).  That a step while the run is paused raises the request too, and leaves the next route index as it is, is the
model's choice (log entry 14).  The service has the three conditions of R136; its closing clears the queue, or pauses the run under
all-stop alone, and its opening resumes it (R145).  A lamp that changes is stored and its command offered, and shows what
R137 says. -/
def Obligations.DemoRequestsAndTimers : Prop :=
  (∀ (p : PortId) (tag : Byte) (n : Nat) (s : State), s.ctl.mode = .waking ∨ s.ctl.mode = .inService →
    (planEntry s n).isSome = true →
    let mine := (desc s).roles.screening = some p
    let answers := fun (t : State) => DemoFrame (answered p tag (.done []) s) t
    (Heads s p tag (.passDemo n) → ∃ t, exec (.passDemo p) s = .next t ∧
      (¬ mine → t = answered p tag (.refused .notHolder .none) s) ∧
      (mine → planPlace s n = .pending → EntryAccepted n s t ∧ Standing n t ∧ answers t) ∧
      (mine → planPlace s n = .accepted ∨ planPlace s n = .running → t = answered p tag (.done []) s) ∧
      (mine → planPlace s n = .nowhere → t = answered p tag (.refused .unknownItem .none) s)) ∧
    (Heads s p tag (.vetoDemo n) → ∃ t, exec (.vetoDemo p) s = .next t ∧
      (¬ mine → t = answered p tag (.refused .notHolder .none) s) ∧
      (mine → planPlace s n = .pending → EntryGone n s t ∧ answers t) ∧
      (mine → planPlace s n = .accepted → t = answered p tag (.refused .tooLate .none) s) ∧
      (∀ r, mine → s.demo.run = some r → r.plan = n → Aborted r s t ∧ answers t) ∧
      (mine → planPlace s n = .nowhere → t = answered p tag (.refused .unknownItem .none) s))) ∧
  (∀ (p : PortId) (tag : Byte) (n : Nat) (s : State), s.ctl.mode = .waking ∨ s.ctl.mode = .inService → planEntry s n = none →
    (Heads s p tag (.passDemo n) → exec (.passDemo p) s = .next (answered p tag (.refused .unknownItem .none) s)) ∧
    (Heads s p tag (.vetoDemo n) → exec (.vetoDemo p) s = .next (answered p tag (.refused .unknownItem .none) s))) ∧
  (∀ (n : Nat) (s : State), (∃ e ∈ s.demo.queue, e.plan = n ∧ e.screening.isSome = true) →
    ∃ t, exec (.screeningTimeout n) s = .next t ∧ EntryAccepted n s t ∧ Standing n t ∧ DemoFrame s t) ∧
  (∀ (e : DemoEntry) (l : List DemoEntry) (s : State), s.demo.queue = e :: l → e.admission.isSome = true →
    ∃ t, exec .admissionTimeout s = .next t ∧ EntryGone e.plan s t ∧ DemoFrame s (t.withSeed s.freeSeed)) ∧
  (∀ (r : Run) (s : State), s.demo.run = some r →
    (r.paused = false → ∃ t, exec .runLimitExpiry s = .next t ∧ Aborted r s t ∧ DemoFrame s t) ∧
    (r.paused = true → exec .runLimitExpiry s = .next s) ∧
    (∀ x head, let due := r.train = x ∧ r.hand = .none ∧ ∃ pl route, planEntry s r.plan = some pl ∧ 2 ≤ r.next ∧
        r.next ≤ pl.routes.length ∧ pl.routes[r.next - 2]? = some route ∧ finalSection s route = some head
      (due → demoStep x head s = s.withDemo { s.demo with run := some { r with hand := .fresh } }) ∧
      (¬ due → demoStep x head s = s)) ∧
    (∀ x, (r.train = x → Completes s r → Tested s.demo.queue (endedRun r s.demo.cancel s) (demoExpiry x s)) ∧
      (¬ (r.train = x ∧ Completes s r) → demoExpiry x s = s)) ∧
    (∀ slot, let left := s.withDemo { s.demo with cancel := s.demo.cancel.filter (· != slot) }
      demoFreed slot s = left.withDemo { left.demo with
        run := some { r with insts := r.insts.filter (fun e => e.1 != slot) } } ∧
      ((∃ k, (slot, k) ∈ r.insts) → Aborted r left (demoFailed slot s)) ∧
      ((∀ k, (slot, k) ∉ r.insts) → demoFailed slot s = left))) ∧
  (∀ (x : Nat) (s : State), s.demo.run = none →
    ((∃ e pl, s.demo.queue.head? = some e ∧ planEntry s e.plan = some pl ∧ pl.train = x) →
      Tested s.demo.queue s (demoExpiry x s)) ∧
    ((∀ e pl, s.demo.queue.head? = some e → planEntry s e.plan = some pl → pl.train ≠ x) → demoExpiry x s = s)) ∧
  (∀ s : State,
    let t := recomputeService s
    let changes := t.demo.failing ≠ s.demo.failing
    let closing := t.demo.failing.mode = true ∨ t.demo.failing.screening = true
    let added := (t.demo.failing.mode = true ∧ s.demo.failing.mode = false) ∨
      (t.demo.failing.screening = true ∧ s.demo.failing.screening = false) ∨
      (t.demo.failing.allStop = true ∧ s.demo.failing.allStop = false)
    let kept := t.demo.queue = s.demo.queue ∧ t.demo.cancel = s.demo.cancel ∧ t.trains = s.trains
    (t.demo.failing.mode = false ↔ s.ctl.mode = .inService) ∧
    (t.demo.failing.screening = false ↔ ∃ p, (desc s).roles.screening = some p ∧ (portAt s p).state = .online) ∧
    (t.demo.failing.allStop = false ↔ s.ctl.allStop = none) ∧ DemoFrame s t ∧
    (¬ changes → t = s) ∧
    (changes → ∀ n b, findItem t.demo.buttons n = some b → b.lamp = lampShown t.demo n) ∧
    (changes → closing → added → t.demo.queue = [] ∧ (s.demo.run = none → t.demo.run = none ∧ t.trains = s.trains) ∧
      ∀ r, s.demo.run = some r → Aborted r (s.withDemo { s.demo with queue := [] }) t) ∧
    (changes → closing → ¬ added → kept ∧ t.demo.run = s.demo.run) ∧
    (changes → ¬ closing → t.demo.failing.allStop = true →
      kept ∧ t.demo.run = s.demo.run.map (fun r => { r with paused := true })) ∧
    (changes → ¬ closing → t.demo.failing.allStop = false →
      let resumed := fun (r : Run) =>
        { r with paused := false, hand := if r.paused = true ∧ r.hand ≠ .none then Hand.fresh else r.hand }
      Tested s.demo.queue (s.withDemo { s.demo with failing := t.demo.failing, run := s.demo.run.map resumed }) t)) ∧
  (∀ (n : Nat) (b : Button) (s : State), findItem s.demo.buttons n = some b →
    let want := lampShown s.demo n
    recomputeLamp n s = (if b.lamp = want then s else offer (.lamp n want) (s.withDemo { s.demo with
      buttons := updateItem s.demo.buttons n (fun b => { b with lamp := want }) })))

/-! ### The field ring (chapter 9) -/

/-- The line of the ring: a poll frame leaves for the next address and opens its window; a good answer makes its module
ACTIVE with no misses and the payload as its data; a miss counts at an ACTIVE module and makes it FAILED at the third in a
row, and changes no other module; a failure leaves no command waiting for the module and gives its items their safe values
(`MadeSafe`; the traction module's is AllStopLatchSet); a command that may be sent leaves for the line, the stop run before
the queue.  The outcome that ends a whole sweep with no command waiting brings the boundary (`BoundaryWork`): WAKING ends,
disturbed sections are settled, a pending REST is entered or abandoned, and a pending setting becomes the running one.  When a
step of the ring may be taken is log entry 17.  A command offered is discarded when its module is not ACTIVE; it replaces the
one for its target in place, in the stop run, the queue or the overflow slot; it joins a queue of fewer than 32; and in a full
queue a LAMP is discarded, an ASPECT or SPEED takes the place of the oldest LAMP (with a command in the overflow slot that
place is the slot's, and the ASPECT or SPEED takes that of the next LAMP, or the slot when no LAMP is left: the model's
inference, log entry 17), and any other, or one that finds no LAMP, takes the overflow slot, where the command it displaces
is lost with COMMAND-LOST.  A SPEED is offered at an expiry that changes the output or has its refresh due, a POWER at the
entry to WAKING, when the traction module becomes ACTIVE, which also makes every refresh due, and at an answer that shows
another power with none waiting.  An all-stop takes the waiting SPEED commands of supervised trains out of the stop run, the
queue and the overflow slot, gives a place so freed to the slot's command, and, with the traction module ACTIVE, puts SPEED 0
for every one before what is left of the stop run (that place and that order are the model's inference, log entry 17). -/
def Obligations.RingPollsAnswersAndCommands : Prop :=
  (∀ (a : Nat) (l : List Nat) (s : State), pollDue s.ring = true → s.ring.todo = a :: l → exec .poll s = .next (s.withRing
    { s.ring with todo := l, window := some a, due := 0,
                  line := [byte a, 1#8, crc8 [byte a, 1#8]] })) ∧
  (∀ (a : Nat) (frame : List Byte) (m : Module) (s : State), s.ring.window = some a →
    findItem s.ring.modules a = some m → goodFrame a m.kind frame = true →
    ∃ t, exec (.goodAnswer frame) s = .next t ∧ t.ring.window = none ∧
      moduleView (moduleAt t a) = (m.kind, .active, 0, some (payloadOf frame)) ∧
      (∀ b, b ≠ a → moduleView (moduleAt t b) = moduleView (moduleAt s b)) ∧ t.store = s.store) ∧
  (∀ (a : Nat) (got : List Byte) (m : Module) (s : State), s.ring.window = some a → findItem s.ring.modules a = some m →
    goodFrame a m.kind got = false →
    ∃ t, exec (.miss got) s = .next t ∧ t.ring.window = none ∧ moduleView (moduleAt t a) =
        (if m.state = .active then (if m.misses < 2 then (m.kind, .active, m.misses + 1, m.data)
          else (m.kind, .failed, 3, m.data)) else moduleView m) ∧
      (∀ b, b ≠ a → moduleView (moduleAt t b) = moduleView (moduleAt s b)) ∧ t.store = s.store ∧
      (m.state = .active → 2 ≤ m.misses → s.ring.todo ≠ [] → MadeSafe a m.kind s t) ∧
      (m.state ≠ .active ∨ m.misses < 2 → s.ring.underWay = true → s.ring.todo = [] → s.ring.restTail = false →
        s.ring.stopRun = [] → s.ring.queue = [] → s.ring.group + 1 = groupsOf s.ring.running.mode → BoundaryWork s t)) ∧
  (∀ s : State, sendDue s.ring = true →
    (∀ c l, s.ring.stopRun = c :: l → ∃ t, exec .ringCommandSent s = .next t ∧ t.ring.line = cmdFrame (desc s) c ∧
      (s.ring.underWay = false ∨ s.ring.todo ≠ [] → t = s.withRing
        { s.ring with stopRun := l, due := s.ring.due - 1, line := cmdFrame (desc s) c })) ∧
    (∀ c l, s.ring.stopRun = [] → s.ring.queue = c :: l → ∃ t, exec .ringCommandSent s = .next t ∧
      t.ring.line = cmdFrame (desc s) c ∧
      (s.ring.underWay = false ∨ s.ring.todo ≠ [] → t = s.withRing (refillSlot
        { s.ring with queue := l, due := s.ring.due - 1, line := cmdFrame (desc s) c })))) ∧
  (∀ (c : RingCmd) (s : State),
    let r := s.ring
    let reaches := ∃ a, cmdModule (desc s) c = some a ∧ moduleActive s a = true
    let same := fun (x : RingCmd) => cmdTarget x = cmdTarget c
    let put := fun (l : List RingCmd) => l.map (fun x => if same x then c else x)
    let absent := (∀ x ∈ r.stopRun, ¬ same x) ∧ (∀ x ∈ r.queue, ¬ same x) ∧ ∀ x, r.slot = some x → ¬ same x
    let full := reaches ∧ absent ∧ 32 ≤ r.queue.length
    let slots := offer c s = (match r.slot with
      | none => s.withRing { r with slot := some c }
      | some x => raise (.module (.commandLost x)) (s.withRing { r with slot := some c }))
    (¬ reaches → offer c s = s) ∧
    (reaches → (∃ x ∈ r.stopRun, same x) → offer c s = s.withRing { r with stopRun := put r.stopRun }) ∧
    (reaches → (∀ x ∈ r.stopRun, ¬ same x) → (∃ x ∈ r.queue, same x) → offer c s = s.withRing { r with queue := put r.queue }) ∧
    (∀ x, reaches → (∀ y ∈ r.stopRun, ¬ same y) → (∀ y ∈ r.queue, ¬ same y) → r.slot = some x → same x →
      offer c s = s.withRing { r with slot := some c }) ∧
    (reaches → absent → r.queue.length < 32 → offer c s = s.withRing { r with queue := r.queue ++ [c] }) ∧
    (full → isLamp c = true → offer c s = s) ∧
    (∀ l1 x l2, full → (∃ g a, c = .aspect g a) ∨ (∃ t v sn, c = .speed t v sn) → r.queue = l1 ++ x :: l2 →
      isLamp x = true → (∀ y ∈ l1, isLamp y = false) → r.queue.length = 32 → r.slot = none →
      offer c s = s.withRing { r with queue := l1 ++ l2 ++ [c] }) ∧
    (∀ l1 x l2 w, full → (∃ g a, c = .aspect g a) ∨ (∃ t v sn, c = .speed t v sn) → r.queue = l1 ++ x :: l2 →
      isLamp x = true → (∀ y ∈ l1, isLamp y = false) → r.queue.length = 32 → r.slot = some w →
      let moved := l1 ++ l2 ++ [w]
      ((∀ y ∈ moved, isLamp y = false) → offer c s = s.withRing { r with queue := moved, slot := some c }) ∧
      (∀ l3 z l4, moved = l3 ++ z :: l4 → isLamp z = true → (∀ y ∈ l3, isLamp y = false) →
        offer c s = s.withRing { r with queue := l3 ++ l4 ++ [c], slot := none })) ∧
    (full → isLamp c = false → (∀ y ∈ r.queue, isLamp y = false) → slots) ∧
    (full → (∃ n pos, c = .pointMove n pos) ∨ (∃ k sn, c = .deckTurn k sn) ∨ (∃ on, c = .power on) → slots)) ∧
  (∀ (x old : Nat) (v : Sup) (s : State), speedStep x old v s =
    if v.output ≠ old ∨ (20 ≤ v.refresh ∧ s.ctl.mode ≠ .config)
    then offer (.speed x v.output v.sense) (updateSup s x (fun u => { u with refresh := 0 }))
    else updateSup s x (fun u => { u with refresh := min 20 (u.refresh + 1) })) ∧
  (∀ (on : Bool) (flags : Byte) (s : State), flags.getLsbD 1 = false → s.ring.power = some on →
    let t := tractionAnswer flags s
    let waits := (∃ c ∈ s.ring.queue, ∃ b, c = .power b) ∨ ∃ b, s.ring.slot = some (.power b)
    (flags.getLsbD 0 = on → t = s.withRing { s.ring with mismatch := false }) ∧
    (flags.getLsbD 0 ≠ on → waits → quiet t = quiet (s.withRing { s.ring with mismatch := true })) ∧
    (flags.getLsbD 0 ≠ on → ¬ waits →
      quiet t = quiet (offer (.power on) (s.withRing { s.ring with mismatch := true })))) ∧
  (∀ (cause : WakeCause) (s : State), quiet (enterWaking cause s) = quiet (offer (.power true)
    ((s.withCtl { s.ctl with mode := .waking, wakeBy := cause }).withRing { s.ring with power := some true }))) ∧
  (∀ (a : Nat) (on : Bool) (s : State), s.ring.power = some on →
    let t := ownerActive a .traction s
    t.ring = (offer (.power on) s).ring ∧ inner (t.withTrains s.trains) = inner s ∧
    ∀ x, trainAt t x = (trainAt s x).map (fun r => { r with sup := r.sup.map (fun u => { u with refresh := 20 }) })) ∧
  (∀ s : State,
    let others := fun (c : RingCmd) => match c with | .speed x _ _ => !(supervised s).contains x | _ => true
    let queue := s.ring.queue.filter others
    let slot := s.ring.slot.filter others
    let stops := (supervised s).filterMap (fun x => (trainAt s x).bind (fun r => r.sup.map (fun u => RingCmd.speed x 0 u.sense)))
    (stopTrains s).ring = { s.ring with
      stopRun := (if tractionActive s then stops else []) ++ s.ring.stopRun.filter others,
      queue := if queue.length < 32 then queue ++ slot.toList else queue,
      slot := if queue.length < 32 then none else slot })

/-- The sweeps: at the expiry of the sweep timer the next partial sweep begins on time, or is postponed and counted, with
the overload mark at 8 in a row; a postponed one begins when the one under way is done; a partial sweep of a group with no
address is done as it begins, and that of the last group brings the whole-sweep boundary (`BoundaryWork`), where no rest
sweep has its polls to end; and SET-SWEEP-MODE stores the nearest values it can as the pending setting and answers with
them. The bytes of the DONE answer are log entry 12. -/
def Obligations.RingSweeps : Prop :=
  ∀ s : State,
    let r := s.ring
    let begun : Ring := { r with
      group := r.nextGroup, nextGroup := (r.nextGroup + 1) % groupsOf r.running.mode, underWay := true,
      postponed := false, todo := groupAddresses r r.nextGroup, window := none }
    let passed : Ring := { begun with underWay := false, todo := [], due := 0 }
    let onTime : Ring := { passed with timer := some (sweepInterval r.running), postCount := 0, overloaded := false }
    let last := r.nextGroup + 1 = groupsOf r.running.mode
    let empty := groupAddresses r r.nextGroup = [] ∧ r.restTail = false
    (r.timer.isSome = true → r.underWay = false → r.postponed = false → groupAddresses r r.nextGroup ≠ [] →
      exec .sweepTimerExpiry s = .next (s.withRing { begun with
        timer := some (sweepInterval r.running), postCount := 0, overloaded := false })) ∧
    (r.timer.isSome = true → r.underWay = true ∨ r.postponed = true →
      ∃ t, exec .sweepTimerExpiry s = .next t ∧ quiet t = quiet (s.withRing { r with
        timer := some (sweepInterval r.running), postponed := true, postCount := min 255 (r.postCount + 1),
        overloaded := r.overloaded || decide (8 ≤ min 255 (r.postCount + 1)) })) ∧
    (r.postponed = true → r.underWay = false → groupAddresses r r.nextGroup ≠ [] →
      exec .postponedPartialSweep s = .next (s.withRing begun)) ∧
    (r.timer.isSome = true → r.underWay = false → r.postponed = false → empty →
      (¬ last → exec .sweepTimerExpiry s = .next (s.withRing onTime)) ∧
      (last → ∃ t, exec .sweepTimerExpiry s = .next t ∧ BoundaryWork (s.withRing onTime) t)) ∧
    (r.postponed = true → r.underWay = false → empty →
      (¬ last → exec .postponedPartialSweep s = .next (s.withRing passed)) ∧
      (last → ∃ t, exec .postponedPartialSweep s = .next t ∧ BoundaryWork (s.withRing passed) t)) ∧
    (∀ p tag m v, Heads s p tag (.setSweepMode m v) → s.ctl.mode = .waking ∨ s.ctl.mode = .inService →
      let period := if v < 40 then 40 else if 1000 < v then 1000 else v
      let mode : SweepMode := if m = 0 then .full else if m = 1 then .split2 else .split4
      exec (.setSweepMode p) s = .next (answered p tag
        (.done [byte (if m = 0 then 0 else if m = 1 then 1 else 2), byte (period / 256), byte period])
        (s.withRing { r with pendingSetting := some { mode := mode, period := period } })))

/-- What a good answer does with its data, once its address has work left in the sweep.  POINT: each point of the module
is proven, lost or left as R28 has it, and no other point's report changes.  DETECT: each section of the module passes the
filter of R23.  DECK: a MOVING deck at rest at its target, or anywhere but where it came from, is ALIGNED there with no
move; an ALIGNED deck not at rest there is in doubt, and UNPROVEN at the second such answer; an UNPROVEN deck at rest is
ALIGNED; a PENDING claim is LOCKED at its target and fails elsewhere.  BUTTON: the level shown is stored, and a press
(RELEASED seen before, PRESSED now) joins the queue when the service is OPEN, the plan is neither queued nor running and
there is room: PENDING with its screening timer, or ACCEPTED when the screening window is 0.  A latched deck move is
checked again once the deck has become ALIGNED (R127 step 5).  The changes reach the instances in SETTING: a point proven
where it is needed, or the deck at the target, brings the test of R61, and a point UNPROVEN or proven in the other
position fails the instance (R62). -/
def Obligations.GoodAnswerData : Prop :=
  (∀ (a : Nat) (frame : List Byte) (m : Module) (s : State), s.ring.window = some a →
    findItem s.ring.modules a = some m → goodFrame a m.kind frame = true → s.ring.todo ≠ [] →
    (∀ b, m.kind = .point → payloadOf frame = [b] → (itemNumbers (desc s).points).Nodup →
      ∃ t, exec (.goodAnswer frame) s = .next t ∧ t.ctl = s.ctl ∧ t.deck = s.deck ∧ t.il.districts = s.il.districts ∧
        (∀ n e st, findItem (desc s).points n = some e → ptAt s n = some st → e.addr ≠ a →
          (ptAt t n).map (fun x => (x.reported, x.commanded, x.timer)) = some (st.reported, st.commanded, st.timer)) ∧
        (∀ n e st, findItem (desc s).points n = some e → ptAt s n = some st → e.addr = a →
          (∀ k x, k ≠ n → findItem (desc s).points k = some x → x.addr = a → x.output ≠ e.output) →
          let normal := b.getLsbD (2 * e.output)
          let reverse := b.getLsbD (2 * e.output + 1)
          let shown := if normal ∧ ¬ reverse then some Position.normal
            else if reverse ∧ ¬ normal then some .reverse else none
          let reported := match st.reported, shown with
            | .moving, some pos => if st.commanded = some pos then provenIn pos else .moving
            | .moving, none => .moving
            | _, some pos => provenIn pos
            | .unproven, none => .unproven
            | x, none => if neitherOf s n = 0 then x else .unproven
          (ptAt t n).map (fun x => (x.reported, x.commanded, x.lockedPos, x.timer)) = some (reported, st.commanded,
            st.lockedPos, if st.reported = .moving ∧ reported ≠ .moving then none else st.timer))) ∧
    (∀ b, m.kind = .detect → payloadOf frame = [b] → (itemNumbers (desc s).sections).Nodup →
      ∃ t, exec (.goodAnswer frame) s = .next t ∧ t.ctl = s.ctl ∧ t.deck = s.deck ∧
        (∀ n e st, findItem (desc s).sections n = some e → secAt s n = some st → e.addr ≠ a →
          (secAt t n).map (·.occ) = some st.occ) ∧
        (∀ n e st, findItem (desc s).sections n = some e → secAt s n = some st → e.addr = a →
          (∀ k x, k ≠ n → findItem (desc s).sections k = some x → x.addr = a → x.input ≠ e.input) →
          (secAt t n).map (·.occ) = some (if b.getLsbD e.input then .occupied
            else if st.occ = .clear then .clear else if clearCountOf s n = 0 then .occupied else .clear))) ∧
    (∀ i f d e, m.kind = .deck → payloadOf frame = [i, f] → s.deck = some d → (desc s).deck = some e → d.latch = none →
      let rests := f.getLsbD 0 = true ∧ f.getLsbD 1 = false ∧ i.toNat < e.n
      let seen : DeckState := { d with reported := some i.toNat }
      let stands : DeckState := { seen with pos := .aligned i.toNat, req := none, timer := none, doubt := 0 }
      let doubtful : DeckState := if d.doubt = 0 then { seen with doubt := 1 } else { seen with pos := .unproven, doubt := 0 }
      ∃ t, exec (.goodAnswer frame) s = .next t ∧ t.ctl = s.ctl ∧ t.il.districts = s.il.districts ∧
        (∀ start target sn, d.pos = .moving start target sn → t.deck = some
          (if rests ∧ (i.toNat = target ∨ i.toNat ≠ start) then stands else seen)) ∧
        (∀ j, d.pos = .aligned j → t.deck = some
          (if rests ∧ i.toNat = j then { seen with doubt := 0 } else doubtful)) ∧
        (d.pos = .unproven → t.deck = some (if rests then stands else seen)) ∧
        (t.deck = some stands → (∀ j, d.pos ≠ .aligned j) → ∀ slot x, instAt s slot = some x → x.claim = .pending →
          ((routeAt s x.route).bind (routeTarget s) = some i.toNat → ∀ y, instAt t slot = some y → y.claim = .locked) ∧
          ((routeAt s x.route).bind (routeTarget s) ≠ some i.toNat → instAt t slot = none))) ∧
    (∀ i f d e l start target sn, m.kind = .deck → payloadOf frame = [i, f] → s.deck = some d → (desc s).deck = some e →
      d.latch = some l → d.pos = .moving start target sn → (i.toNat = target ∨ i.toNat ≠ start) → i.toNat < e.n →
      f.getLsbD 0 = true → f.getLsbD 1 = false → m.state = .active → (∀ x ∈ s.il.instances, x.2.claim = .none) →
      let stands : DeckState := { d with
        reported := some i.toNat, pos := .aligned i.toNat, req := none, timer := none, doubt := 0 }
      ∃ t, exec (.goodAnswer frame) s = .next t ∧
        t.deck = some (if s.ctl.allStop = none then latchTaken s stands e l i.toNat else stands))) ∧
  (∀ (slot : Nat) (i : Inst) (s : State), instAt s slot = some i → i.state = .setting →
    let others := fun (t : State) => t.deck = s.deck ∧ ∀ k, k ≠ slot → instAt t k = instAt s k
    SetTested slot i s (setTest slot s) ∧ RouteFrame s (setTest slot s) ∧ others (setTest slot s) ∧
    (∀ n h why, i.held.find? (fun g => g.point == n) = some h →
      (∀ k j, k ≠ slot → (k, j) ∈ s.il.instances → j.state = .setting → ∀ g ∈ j.held, g.point ≠ n) →
      let t := pointHandOn n why s
      others t ∧ (ptProven s n h.pos = true → SetTested slot i s t ∧ RouteFrame s t) ∧
      (ptProven s n h.pos = false → instAt t slot = none))) ∧
  (∀ (n : Nat) (b : Button) (pressed : Bool) (s : State), findItem s.demo.buttons n = some b →
    let t := buttonAnswer n pressed s
    let level := if pressed then Level.pressed else .released
    let seen := s.withDemo { s.demo with buttons := updateItem s.demo.buttons n (fun b => { b with level := some level }) }
    let ignored := isOpen s.demo.failing = false ∨ (∃ r, s.demo.run = some r ∧ r.plan = n) ∨
      (∃ e ∈ s.demo.queue, e.plan = n) ∨ 6 ≤ s.demo.queue.length
    let window := (desc s).params.screening
    (findItem t.demo.buttons n).map (·.level) = some (some level) ∧
    (¬ (pressed = true ∧ b.level = some .released) → t = seen) ∧
    (pressed = true → b.level = some .released →
      (ignored → quiet t = quiet seen) ∧
      (¬ ignored → window ≠ 0 → t.demo.run = s.demo.run ∧ t.trains = s.trains ∧ inner (t.withDemo s.demo) = inner s ∧
        t.demo.queue = s.demo.queue ++
          [{ plan := n, accepted := false, screening := some (window * 1000), admission := none }]) ∧
      (¬ ignored → window = 0 → inner ((t.withDemo s.demo).withTrains s.trains) = inner s ∧
        ((∃ e ∈ t.demo.queue, e.plan = n ∧ e.accepted = true) ∨ ∃ r, t.demo.run = some r ∧ r.plan = n))))

/-! ### Formats (chapter 12) -/

/-- For every well-formed command that a desk frame carries, decoding its frame gives the command back, with every operand
at every value its bytes admit. -/
def Obligations.DecodeOfEncode : Prop :=
  ∀ (c : Instr) (p : PortId) (frame : List Byte), c.wf = true → encodeFrame c = some (p, frame) →
    decodeFrame p frame = some c

/-- The ring's CRC-8 (R186): the register starts at 0; each byte is combined with it by exclusive-or, and then eight times
the register is shifted one place toward the most significant end and combined with 0x31 exactly when the bit shifted out is
set.  So a frame followed by its own CRC leaves the register at 0, and the POLL of address 5 carries 0x46.  An answer is good
exactly when it has 3 bytes and the STATUS payload of Table 12-6 for the module's kind, begins with the polled address and
ends with the CRC of the bytes before (R150), whatever its TYPE, which is not checked: the model's inference (log entry 17).
A STATUS answer built so is good and carries its payload. -/
def Obligations.RingFrameCheck : Prop :=
  let shift := fun (r : Byte) => if r.getLsbD 7 = true then (r <<< 1) ^^^ 0x31#8 else r <<< 1
  let payloadLength := fun (k : ModKind) => match k with
    | .detect | .point | .button | .traction => 1
    | .deck => 2
    | .signal | .absent => 0
  crc8 [] = 0#8 ∧ (∀ (l : List Byte) (b : Byte), crc8 (l ++ [b]) = shift^[8] (crc8 l ^^^ b)) ∧
  (∀ l : List Byte, crc8 (l ++ [crc8 l]) = 0#8) ∧ pollFrame 5 = [5#8, 1#8, 0x46#8] ∧
  (∀ (a : Nat) (kind : ModKind) (frame : List Byte), goodFrame a kind frame = true ↔
    frame.length = 3 + payloadLength kind ∧ frame.head? = some (byte a) ∧ frame.getLast? = some (crc8 frame.dropLast)) ∧
  (∀ (a : Nat) (kind : ModKind) (payload : List Byte), payload.length = payloadLength kind →
    goodFrame a kind (ringFrame a 2 payload) = true ∧ payloadOf (ringFrame a 2 payload) = payload)
end

