-- ==== Sys2Proof/Laws/State.lean ====
section
/-! SUPPORT. One lemma for each field of the state after each block's update, and the same for the smaller updates, so
that no proof unfolds a record update. -/

namespace Sys2Proof.Machine

open Sys2Proof

/-! ### After `withStore` -/

@[simp] theorem State.withStore_now (s : State) (v : Store) : (s.withStore v).now = s.now := rfl
@[simp] theorem State.withStore_freeSeed (s : State) (v : Store) : (s.withStore v).freeSeed = s.freeSeed := rfl
@[simp] theorem State.withStore_store (s : State) (v : Store) : (s.withStore v).store = v := rfl
@[simp] theorem State.withStore_ctl (s : State) (v : Store) : (s.withStore v).ctl = s.ctl := rfl
@[simp] theorem State.withStore_il (s : State) (v : Store) : (s.withStore v).il = s.il := rfl
@[simp] theorem State.withStore_engine (s : State) (v : Store) : (s.withStore v).engine = s.engine := rfl
@[simp] theorem State.withStore_trains (s : State) (v : Store) : (s.withStore v).trains = s.trains := rfl
@[simp] theorem State.withStore_deck (s : State) (v : Store) : (s.withStore v).deck = s.deck := rfl
@[simp] theorem State.withStore_demo (s : State) (v : Store) : (s.withStore v).demo = s.demo := rfl
@[simp] theorem State.withStore_ring (s : State) (v : Store) : (s.withStore v).ring = s.ring := rfl
@[simp] theorem State.withStore_ports (s : State) (v : Store) : (s.withStore v).ports = s.ports := rfl
@[simp] theorem State.withStore_counters (s : State) (v : Store) : (s.withStore v).counters = s.counters := rfl
@[simp] theorem State.withStore_pending (s : State) (v : Store) : (s.withStore v).pending = s.pending := rfl

/-! ### After `withCtl` -/

@[simp] theorem State.withCtl_now (s : State) (v : Control) : (s.withCtl v).now = s.now := rfl
@[simp] theorem State.withCtl_freeSeed (s : State) (v : Control) : (s.withCtl v).freeSeed = s.freeSeed := rfl
@[simp] theorem State.withCtl_store (s : State) (v : Control) : (s.withCtl v).store = s.store := rfl
@[simp] theorem State.withCtl_ctl (s : State) (v : Control) : (s.withCtl v).ctl = v := rfl
@[simp] theorem State.withCtl_il (s : State) (v : Control) : (s.withCtl v).il = s.il := rfl
@[simp] theorem State.withCtl_engine (s : State) (v : Control) : (s.withCtl v).engine = s.engine := rfl
@[simp] theorem State.withCtl_trains (s : State) (v : Control) : (s.withCtl v).trains = s.trains := rfl
@[simp] theorem State.withCtl_deck (s : State) (v : Control) : (s.withCtl v).deck = s.deck := rfl
@[simp] theorem State.withCtl_demo (s : State) (v : Control) : (s.withCtl v).demo = s.demo := rfl
@[simp] theorem State.withCtl_ring (s : State) (v : Control) : (s.withCtl v).ring = s.ring := rfl
@[simp] theorem State.withCtl_ports (s : State) (v : Control) : (s.withCtl v).ports = s.ports := rfl
@[simp] theorem State.withCtl_counters (s : State) (v : Control) : (s.withCtl v).counters = s.counters := rfl
@[simp] theorem State.withCtl_pending (s : State) (v : Control) : (s.withCtl v).pending = s.pending := rfl

/-! ### After `withIl` -/

@[simp] theorem State.withIl_now (s : State) (v : Interlock) : (s.withIl v).now = s.now := rfl
@[simp] theorem State.withIl_freeSeed (s : State) (v : Interlock) : (s.withIl v).freeSeed = s.freeSeed := rfl
@[simp] theorem State.withIl_store (s : State) (v : Interlock) : (s.withIl v).store = s.store := rfl
@[simp] theorem State.withIl_ctl (s : State) (v : Interlock) : (s.withIl v).ctl = s.ctl := rfl
@[simp] theorem State.withIl_il (s : State) (v : Interlock) : (s.withIl v).il = v := rfl
@[simp] theorem State.withIl_engine (s : State) (v : Interlock) : (s.withIl v).engine = s.engine := rfl
@[simp] theorem State.withIl_trains (s : State) (v : Interlock) : (s.withIl v).trains = s.trains := rfl
@[simp] theorem State.withIl_deck (s : State) (v : Interlock) : (s.withIl v).deck = s.deck := rfl
@[simp] theorem State.withIl_demo (s : State) (v : Interlock) : (s.withIl v).demo = s.demo := rfl
@[simp] theorem State.withIl_ring (s : State) (v : Interlock) : (s.withIl v).ring = s.ring := rfl
@[simp] theorem State.withIl_ports (s : State) (v : Interlock) : (s.withIl v).ports = s.ports := rfl
@[simp] theorem State.withIl_counters (s : State) (v : Interlock) : (s.withIl v).counters = s.counters := rfl
@[simp] theorem State.withIl_pending (s : State) (v : Interlock) : (s.withIl v).pending = s.pending := rfl

/-! ### After `withEngine` -/

@[simp] theorem State.withEngine_now (s : State) (v : Engine) : (s.withEngine v).now = s.now := rfl
@[simp] theorem State.withEngine_freeSeed (s : State) (v : Engine) : (s.withEngine v).freeSeed = s.freeSeed := rfl
@[simp] theorem State.withEngine_store (s : State) (v : Engine) : (s.withEngine v).store = s.store := rfl
@[simp] theorem State.withEngine_ctl (s : State) (v : Engine) : (s.withEngine v).ctl = s.ctl := rfl
@[simp] theorem State.withEngine_il (s : State) (v : Engine) : (s.withEngine v).il = s.il := rfl
@[simp] theorem State.withEngine_engine (s : State) (v : Engine) : (s.withEngine v).engine = v := rfl
@[simp] theorem State.withEngine_trains (s : State) (v : Engine) : (s.withEngine v).trains = s.trains := rfl
@[simp] theorem State.withEngine_deck (s : State) (v : Engine) : (s.withEngine v).deck = s.deck := rfl
@[simp] theorem State.withEngine_demo (s : State) (v : Engine) : (s.withEngine v).demo = s.demo := rfl
@[simp] theorem State.withEngine_ring (s : State) (v : Engine) : (s.withEngine v).ring = s.ring := rfl
@[simp] theorem State.withEngine_ports (s : State) (v : Engine) : (s.withEngine v).ports = s.ports := rfl
@[simp] theorem State.withEngine_counters (s : State) (v : Engine) : (s.withEngine v).counters = s.counters := rfl
@[simp] theorem State.withEngine_pending (s : State) (v : Engine) : (s.withEngine v).pending = s.pending := rfl

/-! ### After `withTrains` -/

@[simp] theorem State.withTrains_now (s : State) (v : Table TrainRec) : (s.withTrains v).now = s.now := rfl
@[simp] theorem State.withTrains_freeSeed (s : State) (v : Table TrainRec) : (s.withTrains v).freeSeed = s.freeSeed := rfl
@[simp] theorem State.withTrains_store (s : State) (v : Table TrainRec) : (s.withTrains v).store = s.store := rfl
@[simp] theorem State.withTrains_ctl (s : State) (v : Table TrainRec) : (s.withTrains v).ctl = s.ctl := rfl
@[simp] theorem State.withTrains_il (s : State) (v : Table TrainRec) : (s.withTrains v).il = s.il := rfl
@[simp] theorem State.withTrains_engine (s : State) (v : Table TrainRec) : (s.withTrains v).engine = s.engine := rfl
@[simp] theorem State.withTrains_trains (s : State) (v : Table TrainRec) : (s.withTrains v).trains = v := rfl
@[simp] theorem State.withTrains_deck (s : State) (v : Table TrainRec) : (s.withTrains v).deck = s.deck := rfl
@[simp] theorem State.withTrains_demo (s : State) (v : Table TrainRec) : (s.withTrains v).demo = s.demo := rfl
@[simp] theorem State.withTrains_ring (s : State) (v : Table TrainRec) : (s.withTrains v).ring = s.ring := rfl
@[simp] theorem State.withTrains_ports (s : State) (v : Table TrainRec) : (s.withTrains v).ports = s.ports := rfl
@[simp] theorem State.withTrains_counters (s : State) (v : Table TrainRec) : (s.withTrains v).counters = s.counters := rfl
@[simp] theorem State.withTrains_pending (s : State) (v : Table TrainRec) : (s.withTrains v).pending = s.pending := rfl

/-! ### After `withDeck` -/

@[simp] theorem State.withDeck_now (s : State) (v : Option DeckState) : (s.withDeck v).now = s.now := rfl
@[simp] theorem State.withDeck_freeSeed (s : State) (v : Option DeckState) : (s.withDeck v).freeSeed = s.freeSeed := rfl
@[simp] theorem State.withDeck_store (s : State) (v : Option DeckState) : (s.withDeck v).store = s.store := rfl
@[simp] theorem State.withDeck_ctl (s : State) (v : Option DeckState) : (s.withDeck v).ctl = s.ctl := rfl
@[simp] theorem State.withDeck_il (s : State) (v : Option DeckState) : (s.withDeck v).il = s.il := rfl
@[simp] theorem State.withDeck_engine (s : State) (v : Option DeckState) : (s.withDeck v).engine = s.engine := rfl
@[simp] theorem State.withDeck_trains (s : State) (v : Option DeckState) : (s.withDeck v).trains = s.trains := rfl
@[simp] theorem State.withDeck_deck (s : State) (v : Option DeckState) : (s.withDeck v).deck = v := rfl
@[simp] theorem State.withDeck_demo (s : State) (v : Option DeckState) : (s.withDeck v).demo = s.demo := rfl
@[simp] theorem State.withDeck_ring (s : State) (v : Option DeckState) : (s.withDeck v).ring = s.ring := rfl
@[simp] theorem State.withDeck_ports (s : State) (v : Option DeckState) : (s.withDeck v).ports = s.ports := rfl
@[simp] theorem State.withDeck_counters (s : State) (v : Option DeckState) : (s.withDeck v).counters = s.counters := rfl
@[simp] theorem State.withDeck_pending (s : State) (v : Option DeckState) : (s.withDeck v).pending = s.pending := rfl

/-! ### After `withDemo` -/

@[simp] theorem State.withDemo_now (s : State) (v : Demo) : (s.withDemo v).now = s.now := rfl
@[simp] theorem State.withDemo_freeSeed (s : State) (v : Demo) : (s.withDemo v).freeSeed = s.freeSeed := rfl
@[simp] theorem State.withDemo_store (s : State) (v : Demo) : (s.withDemo v).store = s.store := rfl
@[simp] theorem State.withDemo_ctl (s : State) (v : Demo) : (s.withDemo v).ctl = s.ctl := rfl
@[simp] theorem State.withDemo_il (s : State) (v : Demo) : (s.withDemo v).il = s.il := rfl
@[simp] theorem State.withDemo_engine (s : State) (v : Demo) : (s.withDemo v).engine = s.engine := rfl
@[simp] theorem State.withDemo_trains (s : State) (v : Demo) : (s.withDemo v).trains = s.trains := rfl
@[simp] theorem State.withDemo_deck (s : State) (v : Demo) : (s.withDemo v).deck = s.deck := rfl
@[simp] theorem State.withDemo_demo (s : State) (v : Demo) : (s.withDemo v).demo = v := rfl
@[simp] theorem State.withDemo_ring (s : State) (v : Demo) : (s.withDemo v).ring = s.ring := rfl
@[simp] theorem State.withDemo_ports (s : State) (v : Demo) : (s.withDemo v).ports = s.ports := rfl
@[simp] theorem State.withDemo_counters (s : State) (v : Demo) : (s.withDemo v).counters = s.counters := rfl
@[simp] theorem State.withDemo_pending (s : State) (v : Demo) : (s.withDemo v).pending = s.pending := rfl

/-! ### After `withRing` -/

@[simp] theorem State.withRing_now (s : State) (v : Ring) : (s.withRing v).now = s.now := rfl
@[simp] theorem State.withRing_freeSeed (s : State) (v : Ring) : (s.withRing v).freeSeed = s.freeSeed := rfl
@[simp] theorem State.withRing_store (s : State) (v : Ring) : (s.withRing v).store = s.store := rfl
@[simp] theorem State.withRing_ctl (s : State) (v : Ring) : (s.withRing v).ctl = s.ctl := rfl
@[simp] theorem State.withRing_il (s : State) (v : Ring) : (s.withRing v).il = s.il := rfl
@[simp] theorem State.withRing_engine (s : State) (v : Ring) : (s.withRing v).engine = s.engine := rfl
@[simp] theorem State.withRing_trains (s : State) (v : Ring) : (s.withRing v).trains = s.trains := rfl
@[simp] theorem State.withRing_deck (s : State) (v : Ring) : (s.withRing v).deck = s.deck := rfl
@[simp] theorem State.withRing_demo (s : State) (v : Ring) : (s.withRing v).demo = s.demo := rfl
@[simp] theorem State.withRing_ring (s : State) (v : Ring) : (s.withRing v).ring = v := rfl
@[simp] theorem State.withRing_ports (s : State) (v : Ring) : (s.withRing v).ports = s.ports := rfl
@[simp] theorem State.withRing_counters (s : State) (v : Ring) : (s.withRing v).counters = s.counters := rfl
@[simp] theorem State.withRing_pending (s : State) (v : Ring) : (s.withRing v).pending = s.pending := rfl

/-! ### After `withPorts` -/

@[simp] theorem State.withPorts_now (s : State) (v : Ports) : (s.withPorts v).now = s.now := rfl
@[simp] theorem State.withPorts_freeSeed (s : State) (v : Ports) : (s.withPorts v).freeSeed = s.freeSeed := rfl
@[simp] theorem State.withPorts_store (s : State) (v : Ports) : (s.withPorts v).store = s.store := rfl
@[simp] theorem State.withPorts_ctl (s : State) (v : Ports) : (s.withPorts v).ctl = s.ctl := rfl
@[simp] theorem State.withPorts_il (s : State) (v : Ports) : (s.withPorts v).il = s.il := rfl
@[simp] theorem State.withPorts_engine (s : State) (v : Ports) : (s.withPorts v).engine = s.engine := rfl
@[simp] theorem State.withPorts_trains (s : State) (v : Ports) : (s.withPorts v).trains = s.trains := rfl
@[simp] theorem State.withPorts_deck (s : State) (v : Ports) : (s.withPorts v).deck = s.deck := rfl
@[simp] theorem State.withPorts_demo (s : State) (v : Ports) : (s.withPorts v).demo = s.demo := rfl
@[simp] theorem State.withPorts_ring (s : State) (v : Ports) : (s.withPorts v).ring = s.ring := rfl
@[simp] theorem State.withPorts_ports (s : State) (v : Ports) : (s.withPorts v).ports = v := rfl
@[simp] theorem State.withPorts_counters (s : State) (v : Ports) : (s.withPorts v).counters = s.counters := rfl
@[simp] theorem State.withPorts_pending (s : State) (v : Ports) : (s.withPorts v).pending = s.pending := rfl

/-! ### After `withCounters` -/

@[simp] theorem State.withCounters_now (s : State) (v : Counters) : (s.withCounters v).now = s.now := rfl
@[simp] theorem State.withCounters_freeSeed (s : State) (v : Counters) : (s.withCounters v).freeSeed = s.freeSeed := rfl
@[simp] theorem State.withCounters_store (s : State) (v : Counters) : (s.withCounters v).store = s.store := rfl
@[simp] theorem State.withCounters_ctl (s : State) (v : Counters) : (s.withCounters v).ctl = s.ctl := rfl
@[simp] theorem State.withCounters_il (s : State) (v : Counters) : (s.withCounters v).il = s.il := rfl
@[simp] theorem State.withCounters_engine (s : State) (v : Counters) : (s.withCounters v).engine = s.engine := rfl
@[simp] theorem State.withCounters_trains (s : State) (v : Counters) : (s.withCounters v).trains = s.trains := rfl
@[simp] theorem State.withCounters_deck (s : State) (v : Counters) : (s.withCounters v).deck = s.deck := rfl
@[simp] theorem State.withCounters_demo (s : State) (v : Counters) : (s.withCounters v).demo = s.demo := rfl
@[simp] theorem State.withCounters_ring (s : State) (v : Counters) : (s.withCounters v).ring = s.ring := rfl
@[simp] theorem State.withCounters_ports (s : State) (v : Counters) : (s.withCounters v).ports = s.ports := rfl
@[simp] theorem State.withCounters_counters (s : State) (v : Counters) : (s.withCounters v).counters = v := rfl
@[simp] theorem State.withCounters_pending (s : State) (v : Counters) : (s.withCounters v).pending = s.pending := rfl

/-! ### After `withSeed` -/

@[simp] theorem State.withSeed_now (s : State) (v : Nat) : (s.withSeed v).now = s.now := rfl
@[simp] theorem State.withSeed_freeSeed (s : State) (v : Nat) : (s.withSeed v).freeSeed = v := rfl
@[simp] theorem State.withSeed_store (s : State) (v : Nat) : (s.withSeed v).store = s.store := rfl
@[simp] theorem State.withSeed_ctl (s : State) (v : Nat) : (s.withSeed v).ctl = s.ctl := rfl
@[simp] theorem State.withSeed_il (s : State) (v : Nat) : (s.withSeed v).il = s.il := rfl
@[simp] theorem State.withSeed_engine (s : State) (v : Nat) : (s.withSeed v).engine = s.engine := rfl
@[simp] theorem State.withSeed_trains (s : State) (v : Nat) : (s.withSeed v).trains = s.trains := rfl
@[simp] theorem State.withSeed_deck (s : State) (v : Nat) : (s.withSeed v).deck = s.deck := rfl
@[simp] theorem State.withSeed_demo (s : State) (v : Nat) : (s.withSeed v).demo = s.demo := rfl
@[simp] theorem State.withSeed_ring (s : State) (v : Nat) : (s.withSeed v).ring = s.ring := rfl
@[simp] theorem State.withSeed_ports (s : State) (v : Nat) : (s.withSeed v).ports = s.ports := rfl
@[simp] theorem State.withSeed_counters (s : State) (v : Nat) : (s.withSeed v).counters = s.counters := rfl
@[simp] theorem State.withSeed_pending (s : State) (v : Nat) : (s.withSeed v).pending = s.pending := rfl

end Sys2Proof.Machine
end

