-- ==== Sys2Proof/Laws/Tables.lean ====
section
/-! SUPPORT. What the table operations can do (R1), and what a left fold of operations keeps. -/

namespace Sys2Proof.Machine

open Sys2Proof

/-- After an entry is put, its item reads as that entry. -/
@[simp] theorem findItem_putItem_same {α : Type} (t : Table α) (k : Nat) (v : α) : findItem (putItem t k v) k = some v := by
  induction t with
  | nil => simp [putItem, findItem]
  | cons e t ih =>
    obtain ⟨i, a⟩ := e
    simp only [putItem]
    split
    · simp [findItem]
    · split
      · simp [findItem]
      · have h : ¬ i = k := by omega
        simp [findItem, h, ih]

/-- After an entry is put, every other item reads as before. -/
theorem findItem_putItem_other {α : Type} (t : Table α) (k j : Nat) (v : α) (h : j ≠ k) :
    findItem (putItem t k v) j = findItem t j := by
  induction t with
  | nil => simp [putItem, findItem, Ne.symm h]
  | cons e t ih =>
    obtain ⟨i, a⟩ := e
    simp only [putItem]
    split
    · simp [findItem, Ne.symm h]
    · split
      · rename_i h1 h2
        subst h2
        simp [findItem, Ne.symm h]
      · simp only [findItem, ih]

/-- Dropping an item from a table, entry by entry. -/
theorem dropItem_cons {α : Type} (i : Nat) (a : α) (t : Table α) (k : Nat) :
    dropItem ((i, a) :: t) k = if i = k then dropItem t k else (i, a) :: dropItem t k := by
  by_cases h : i = k <;> simp [dropItem, h]

/-- After an item is dropped, it reads as undescribed. -/
@[simp] theorem findItem_dropItem_same {α : Type} (t : Table α) (k : Nat) : findItem (dropItem t k) k = none := by
  induction t with
  | nil => rfl
  | cons e t ih =>
    obtain ⟨i, a⟩ := e
    rw [dropItem_cons]
    split
    · exact ih
    · rename_i h
      simp only [findItem, h, if_false, ih]

/-- After an item is dropped, every other item reads as before. -/
theorem findItem_dropItem_other {α : Type} (t : Table α) (k j : Nat) (h : j ≠ k) :
    findItem (dropItem t k) j = findItem t j := by
  induction t with
  | nil => rfl
  | cons e t ih =>
    obtain ⟨i, a⟩ := e
    rw [dropItem_cons]
    split
    · rename_i hk
      subst hk
      simp only [findItem, ih, Ne.symm h, if_false]
    · simp only [findItem, ih]

/-- After an item is updated, it reads as the update of what it read. -/
@[simp] theorem findItem_updateItem_same {α : Type} (t : Table α) (k : Nat) (f : α → α) :
    findItem (updateItem t k f) k = (findItem t k).map f := by
  induction t with
  | nil => rfl
  | cons e t ih =>
    obtain ⟨i, a⟩ := e
    simp only [updateItem]
    split
    · rename_i h
      simp [findItem, h]
    · rename_i h
      simp [findItem, h, ih]

/-- After an item is updated, every other item reads as before. -/
theorem findItem_updateItem_other {α : Type} (t : Table α) (k j : Nat) (f : α → α) (h : j ≠ k) :
    findItem (updateItem t k f) j = findItem t j := by
  induction t with
  | nil => rfl
  | cons e t ih =>
    obtain ⟨i, a⟩ := e
    simp only [updateItem]
    split
    · rename_i hk
      simp [findItem, hk, Ne.symm h]
    · simp only [findItem, ih]

/-- The items of a table are the same after one is updated. -/
@[simp] theorem itemNumbers_updateItem {α : Type} (t : Table α) (k : Nat) (f : α → α) :
    itemNumbers (updateItem t k f) = itemNumbers t := by
  induction t with
  | nil => rfl
  | cons e t ih =>
    obtain ⟨i, a⟩ := e
    simp only [updateItem, itemNumbers] at *
    split <;> simp_all

/-- A table keeps its length when one item is updated. -/
@[simp] theorem length_updateItem {α : Type} (t : Table α) (k : Nat) (f : α → α) :
    (updateItem t k f).length = t.length := by
  have h := congrArg List.length (itemNumbers_updateItem t k f)
  simpa [itemNumbers] using h

/-- What every operation of a fold keeps, the fold keeps. -/
theorem foldl_keeps {α β : Type} (P : β → Prop) (f : β → α → β) (h : ∀ b a, P b → P (f b a)) (l : List α) (b : β)
    (hb : P b) : P (l.foldl f b) := by
  induction l generalizing b with
  | nil => exact hb
  | cons a l ih => exact ih (f b a) (h b a hb)

/-- A reading that every operation of a fold leaves alone, the fold leaves alone. -/
theorem foldl_same {α β γ : Type} (g : β → γ) (f : β → α → β) (h : ∀ b a, g (f b a) = g b) (l : List α) (b : β) :
    g (l.foldl f b) = g b :=
  foldl_keeps (fun x => g x = g b) f (fun x a hx => (h x a).trans hx) l b rfl

end Sys2Proof.Machine
end

