-- ==== Sys2Proof/Laws/Ops.lean ====
section
/-! SUPPORT. What the shared operations of Machine/Ops.lean can do: one lemma per operation says it once. -/

namespace Sys2Proof.Machine

open Sys2Proof

/-! ### Ports -/

/-- A port replaced reads as the new port. -/
@[simp] theorem portAt_setPort_same (s : State) (p : PortId) (v : Port) : portAt (setPort s p v) p = v := by
  cases p <;> rfl

/-- The other ports read as before. -/
theorem portAt_setPort_other (s : State) (p q : PortId) (v : Port) (h : q ≠ p) :
    portAt (setPort s p v) q = portAt s q := by
  cases p <;> cases q <;> first | rfl | exact absurd rfl h

/-- A port changed reads as the change of what it read. -/
@[simp] theorem portAt_updatePort_same (s : State) (p : PortId) (f : Port → Port) :
    portAt (updatePort s p f) p = f (portAt s p) := by
  simp [updatePort]

/-- The other ports read as before. -/
theorem portAt_updatePort_other (s : State) (p q : PortId) (f : Port → Port) (h : q ≠ p) :
    portAt (updatePort s p f) q = portAt s q := by
  simp [updatePort, portAt_setPort_other _ _ _ _ h]

/-- Two states that differ only in their ports are equal when every port reads the same. -/
theorem ports_ext {x y : Ports} (s : State) (h : ∀ p, portAt (s.withPorts x) p = portAt (s.withPorts y) p) : x = y := by
  have ha := h .a
  have hb := h .b
  have hc := h .c
  have hd := h .d
  cases x
  cases y
  simp_all [portAt, State.withPorts]

/-- Replacing a port leaves every other block. -/
theorem setPort_eq (s : State) (p : PortId) (v : Port) : setPort s p v = s.withPorts (setPort s p v).ports := by
  rfl

/-- Replacing a port by one with the same quiet part leaves the quiet part of the state. -/
theorem quiet_setPort (s : State) (p : PortId) (v : Port) (h : quietPort v = quietPort (portAt s p)) :
    quiet (setPort s p v) = quiet s := by
  cases p <;> simp_all [quiet, setPort, State.withPorts, portAt]

/-! ### Raising notices -/

/-- A port offered a record keeps its quiet part (R175, R176). -/
@[simp] theorem quietPort_offerNotice (now : Nat) (n : Notice) (q : Port) :
    quietPort (offerNotice now n q).1 = quietPort q := by
  unfold offerNotice placeNotice appendLost recordLoss
  repeat' split
  all_goals simp_all [quietPort]

/-- One counter's part of an event keeps the selections (R179). -/
@[simp] theorem bumpOne_sel (ev : EventKind) (party : Option Party) (district : Option Nat) (c : Counters) (i : Nat) :
    (bumpOne ev party district c i).1.sel = c.sel := by
  unfold bumpOne
  split <;> rfl

/-- An event keeps the selections (R179). -/
@[simp] theorem bump_sel (c : Counters) (ev : EventKind) (party : Option Party) (district : Option Nat) :
    (bump c ev party district).1.sel = c.sel := by
  unfold bump
  exact foldl_same (fun acc : Counters × List CounterEvent => acc.1.sel) _
    (fun acc i => by simp) (List.range 12) (c, [])

/-- Counters with the same selections leave the quiet part. -/
theorem quiet_withCounters (s : State) (c : Counters) (h : c.sel = s.counters.sel) :
    quiet (s.withCounters c) = quiet s := by
  simp [quiet, State.withCounters, h]

/-- A record offered to every port keeps the quiet part of the state (R175). -/
@[simp] theorem quiet_offerAll (n : Notice) (s : State) : quiet (offerAll n s) = quiet s := by
  simp [quiet, offerAll, State.withPorts]

/-- Raising a notice changes nothing but notice queues, lost counts, counter values and half-full flags (R175, R176,
R184). -/
@[simp] theorem quiet_raiseAt (k : Nat) (n : Notice) (s : State) : quiet (raiseAt k n s) = quiet s := by
  induction k generalizing n s with
  | zero => rfl
  | succ k ih =>
    rw [raiseAt, foldl_same quiet, quiet_offerAll]
    intro b p
    dsimp only
    rw [foldl_same quiet _ (fun s ev => ih (.counter ev) s), quiet_withCounters _ _ (bump_sel _ _ _ _)]

/-- Raising a notice keeps the quiet part of the state (R175). -/
@[simp] theorem quiet_raise (n : Notice) (s : State) : quiet (raise n s) = quiet s := quiet_raiseAt 8 n s

/-- Reporting a counting event keeps the quiet part of the state (R179). -/
@[simp] theorem quiet_count (ev : EventKind) (party : Option Party) (district : Option Nat) (s : State) :
    quiet (count ev party district s) = quiet s := by
  unfold count
  rw [foldl_same quiet _ (fun s e => quiet_raise (.counter e) s), quiet_withCounters _ _ (bump_sel _ _ _ _)]

/-! ### What two states with the same quiet part share -/

section

variable {s t : State}

theorem quiet_now (h : quiet t = quiet s) : t.now = s.now := congrArg (fun x => x.now) h
theorem quiet_freeSeed (h : quiet t = quiet s) : t.freeSeed = s.freeSeed := congrArg (fun x => x.freeSeed) h
theorem quiet_store (h : quiet t = quiet s) : t.store = s.store := congrArg (fun x => x.store) h
theorem quiet_ctl (h : quiet t = quiet s) : t.ctl = s.ctl := congrArg (fun x => x.ctl) h
theorem quiet_il (h : quiet t = quiet s) : t.il = s.il := congrArg (fun x => x.il) h
theorem quiet_engine (h : quiet t = quiet s) : t.engine = s.engine := congrArg (fun x => x.engine) h
theorem quiet_trains (h : quiet t = quiet s) : t.trains = s.trains := congrArg (fun x => x.trains) h
theorem quiet_deck (h : quiet t = quiet s) : t.deck = s.deck := congrArg (fun x => x.deck) h
theorem quiet_demo (h : quiet t = quiet s) : t.demo = s.demo := congrArg (fun x => x.demo) h
theorem quiet_ring (h : quiet t = quiet s) : t.ring = s.ring := congrArg (fun x => x.ring) h
theorem quiet_pending (h : quiet t = quiet s) : t.pending = s.pending := congrArg (fun x => x.pending) h
theorem quiet_sel (h : quiet t = quiet s) : t.counters.sel = s.counters.sel :=
  congrArg (fun x => x.counters.sel) h
theorem quiet_port (h : quiet t = quiet s) (p : PortId) : quietPort (portAt t p) = quietPort (portAt s p) := by
  cases p
  · exact congrArg (fun x => x.ports.a) h
  · exact congrArg (fun x => x.ports.b) h
  · exact congrArg (fun x => x.ports.c) h
  · exact congrArg (fun x => x.ports.d) h

end

/-! ### The blocks after a notice or a counting event -/

@[simp] theorem raise_now (n : Notice) (s : State) : (raise n s).now = s.now := quiet_now (quiet_raise n s)
@[simp] theorem raise_freeSeed (n : Notice) (s : State) : (raise n s).freeSeed = s.freeSeed :=
  quiet_freeSeed (quiet_raise n s)
@[simp] theorem raise_store (n : Notice) (s : State) : (raise n s).store = s.store := quiet_store (quiet_raise n s)
@[simp] theorem raise_ctl (n : Notice) (s : State) : (raise n s).ctl = s.ctl := quiet_ctl (quiet_raise n s)
@[simp] theorem raise_il (n : Notice) (s : State) : (raise n s).il = s.il := quiet_il (quiet_raise n s)
@[simp] theorem raise_engine (n : Notice) (s : State) : (raise n s).engine = s.engine := quiet_engine (quiet_raise n s)
@[simp] theorem raise_trains (n : Notice) (s : State) : (raise n s).trains = s.trains := quiet_trains (quiet_raise n s)
@[simp] theorem raise_deck (n : Notice) (s : State) : (raise n s).deck = s.deck := quiet_deck (quiet_raise n s)
@[simp] theorem raise_demo (n : Notice) (s : State) : (raise n s).demo = s.demo := quiet_demo (quiet_raise n s)
@[simp] theorem raise_ring (n : Notice) (s : State) : (raise n s).ring = s.ring := quiet_ring (quiet_raise n s)
@[simp] theorem raise_pending (n : Notice) (s : State) : (raise n s).pending = s.pending :=
  quiet_pending (quiet_raise n s)
@[simp] theorem raise_sel (n : Notice) (s : State) : (raise n s).counters.sel = s.counters.sel :=
  quiet_sel (quiet_raise n s)
@[simp] theorem quietPort_raise (n : Notice) (s : State) (p : PortId) :
    quietPort (portAt (raise n s) p) = quietPort (portAt s p) := quiet_port (quiet_raise n s) p

@[simp] theorem count_now (e : EventKind) (q : Option Party) (d : Option Nat) (s : State) :
    (count e q d s).now = s.now := quiet_now (quiet_count e q d s)
@[simp] theorem count_freeSeed (e : EventKind) (q : Option Party) (d : Option Nat) (s : State) :
    (count e q d s).freeSeed = s.freeSeed := quiet_freeSeed (quiet_count e q d s)
@[simp] theorem count_store (e : EventKind) (q : Option Party) (d : Option Nat) (s : State) :
    (count e q d s).store = s.store := quiet_store (quiet_count e q d s)
@[simp] theorem count_ctl (e : EventKind) (q : Option Party) (d : Option Nat) (s : State) :
    (count e q d s).ctl = s.ctl := quiet_ctl (quiet_count e q d s)
@[simp] theorem count_il (e : EventKind) (q : Option Party) (d : Option Nat) (s : State) :
    (count e q d s).il = s.il := quiet_il (quiet_count e q d s)
@[simp] theorem count_engine (e : EventKind) (q : Option Party) (d : Option Nat) (s : State) :
    (count e q d s).engine = s.engine := quiet_engine (quiet_count e q d s)
@[simp] theorem count_trains (e : EventKind) (q : Option Party) (d : Option Nat) (s : State) :
    (count e q d s).trains = s.trains := quiet_trains (quiet_count e q d s)
@[simp] theorem count_deck (e : EventKind) (q : Option Party) (d : Option Nat) (s : State) :
    (count e q d s).deck = s.deck := quiet_deck (quiet_count e q d s)
@[simp] theorem count_demo (e : EventKind) (q : Option Party) (d : Option Nat) (s : State) :
    (count e q d s).demo = s.demo := quiet_demo (quiet_count e q d s)
@[simp] theorem count_ring (e : EventKind) (q : Option Party) (d : Option Nat) (s : State) :
    (count e q d s).ring = s.ring := quiet_ring (quiet_count e q d s)
@[simp] theorem count_pending (e : EventKind) (q : Option Party) (d : Option Nat) (s : State) :
    (count e q d s).pending = s.pending := quiet_pending (quiet_count e q d s)
@[simp] theorem quietPort_count (e : EventKind) (q : Option Party) (d : Option Nat) (s : State) (p : PortId) :
    quietPort (portAt (count e q d s) p) = quietPort (portAt s p) := quiet_port (quiet_count e q d s) p

/-! ### Responses -/

/-- A response produced changes only the list and the overrun count of its port (R172). -/
theorem pushResponse_eq (p : PortId) (r : Response) (s : State) :
    pushResponse p r s = s.withPorts (pushResponse p r s).ports := by rfl

/-- A single response that finds a free place joins the list (R172). -/
theorem respond_joins (p : PortId) (tag : Byte) (a : Answer) (s : State)
    (hone : responsesOf tag a = [{ tag := tag, answer := a }]) (hfree : hasPlace s p = true) :
    respond p tag a s =
      updatePort s p (fun q => { q with responses := q.responses ++ [{ tag := tag, answer := a }] }) := by
  have h : (portAt s p).responses.length < Config.responseCapacity := by simpa [hasPlace] using hfree
  simp [respond, hone, pushResponse, updatePort, h]

/-- A refusal is one response. -/
@[simp] theorem responsesOf_refused (tag : Byte) (r : Reason) (d : Detail) :
    responsesOf tag (.refused r d) = [{ tag := tag, answer := .refused r d }] := rfl
/-- DONE with no fields is one response. -/
@[simp] theorem responsesOf_done (tag : Byte) : responsesOf tag done = [{ tag := tag, answer := .done [] }] := rfl
/-- ACCEPTED is one response. -/
@[simp] theorem responsesOf_accepted (tag : Byte) (i : Nat) :
    responsesOf tag (.accepted i) = [{ tag := tag, answer := .accepted i }] := rfl

/-- The head's leaving keeps the response list, so a place that was free is free after it (R171). -/
@[simp] theorem hasPlace_popHead (s : State) (p q : PortId) : hasPlace (popHead p s) q = hasPlace s q := by
  by_cases h : q = p
  · subst h
    simp only [hasPlace, popHead, portAt_updatePort_same, leaveHead, makeHold]
    split <;> rfl
  · simp [hasPlace, popHead, portAt_updatePort_other _ _ _ _ h]

/-! ### Ring commands -/

/-- Offering a ring command changes nothing but the ring and what a notice of its loss changes (R159, R161). -/
@[simp] theorem inner_offer (c : RingCmd) (s : State) : inner (offer c s) = inner s := by
  unfold offer
  dsimp only
  repeat' split
  all_goals simp [inner, quiet_raise]
  all_goals rfl

/-- A command for a target that waits nowhere joins a queue that has a free place (R159 case 3). -/
theorem placeCmd_joins (r : Ring) (c : RingCmd) (h1 : waitsFor (cmdTarget c) r.stopRun = false)
    (h2 : waitsFor (cmdTarget c) r.queue = false) (h3 : r.slot = none) (h4 : r.queue.length < 32) :
    placeCmd r c = ({ r with queue := r.queue ++ [c] }, none) := by
  simp [placeCmd, h1, h2, h3, h4, Config.ringCapacity]

/-- A command that replaces one for its target leaves the number of commands (R159 case 2). -/
@[simp] theorem length_replaceCmd (c : RingCmd) (l : List RingCmd) : (replaceCmd c l).length = l.length := by
  simp [replaceCmd]

/-- A command for another target is no command that a replacement takes away (R159). -/
theorem mem_replaceCmd {c d : RingCmd} {l : List RingCmd} (ht : cmdTarget c ≠ cmdTarget d) (h : c ∈ l) :
    c ∈ replaceCmd d l := by
  simp only [replaceCmd, List.mem_map]
  exact ⟨c, h, by simp [ht]⟩

/-- The command that replaces one for its target is in the list after it (R159). -/
theorem mem_replaceCmd_self {c : RingCmd} {l : List RingCmd} (h : waitsFor (cmdTarget c) l = true) : c ∈ replaceCmd c l := by
  simp only [waitsFor, List.any_eq_true, beq_iff_eq] at h
  obtain ⟨x, hx, hc⟩ := h
  simp only [replaceCmd, List.mem_map]
  exact ⟨x, hx, by simp [hc]⟩

/-- An eviction takes one LAMP (R161). -/
theorem length_evictLamp {l : List RingCmd} (h : l.any isLamp = true) : (evictLamp l).length + 1 = l.length := by
  induction l with
  | nil => simp at h
  | cons a l ih =>
    by_cases ha : isLamp a = true
    · simp [evictLamp, ha]
    · simp only [List.any_cons, ha, Bool.false_or] at h
      simp [evictLamp, ha, ih h]

/-- An ASPECT or SPEED command that finds one place left fills the queue (R161). -/
theorem length_placeOver_place (k : Nat) (r : Ring) (d : RingCmd) (h : r.queue.length = 31) :
    (placeOver (k + 1) r d).1.queue.length = 32 := by
  simp [placeOver, h, Config.ringCapacity]

/-- With the overflow slot empty an ASPECT or SPEED command leaves a full queue full (R161). -/
theorem length_placeOver_empty (k : Nat) (r : Ring) (d : RingCmd) (h : r.queue.length = 32) (hs : r.slot = none) :
    (placeOver (k + 2) r d).1.queue.length = 32 := by
  unfold placeOver
  rw [if_neg (by simp [h, Config.ringCapacity])]
  split
  · rename_i hl
    have := length_evictLamp hl
    exact length_placeOver_place k _ d (by simp [evictOne, refillSlot, hs]; omega)
  · exact h

/-- An ASPECT or SPEED command leaves a full queue full (R161). -/
theorem length_placeOver (k : Nat) (r : Ring) (d : RingCmd) (h : r.queue.length = 32) :
    (placeOver (k + 3) r d).1.queue.length = 32 := by
  cases hs : r.slot with
  | none => exact length_placeOver_empty (k + 1) r d h hs
  | some w =>
    unfold placeOver
    rw [if_neg (by simp [h, Config.ringCapacity])]
    split
    · rename_i hl
      have h1 : (evictLamp r.queue).length = 31 := by have := length_evictLamp hl; omega
      exact length_placeOver_empty k _ d (by simp [evictOne, refillSlot, hs, h1, Config.ringCapacity])
        (by simp [evictOne, refillSlot, hs, h1, Config.ringCapacity])
    · exact h

/-- A command that finds a full queue leaves it full (R161). -/
theorem length_placeFull (r : Ring) (d : RingCmd) (h : r.queue.length = 32) : (placeFull r d).1.queue.length = 32 := by
  cases d <;> simp [placeFull, toSlot, length_placeOver 0, h]

/-- A command that waits goes on waiting when a command for another target is placed, unless the queue is full, and the
queue keeps its 32 places (R159, R161). -/
theorem placeCmd_keeps (r : Ring) (c d : RingCmd) (hq : r.queue.length ≤ 32) (ht : cmdTarget c ≠ cmdTarget d)
    (h : WaitsOrFull c r) : WaitsOrFull c (placeCmd r d).1 ∧ (placeCmd r d).1.queue.length ≤ 32 := by
  unfold placeCmd
  split
  · exact ⟨h.imp (mem_replaceCmd ht) id, hq⟩
  · split
    · refine ⟨?_, by simpa using hq⟩
      obtain h | h | h | h := h
      · exact .inl h
      · exact .inr (.inl (mem_replaceCmd ht h))
      · exact .inr (.inr (.inl h))
      · exact .inr (.inr (.inr (by simpa using h)))
    · split
      · rename_i hs
        refine ⟨?_, hq⟩
        obtain h | h | h | h := h
        · exact .inl h
        · exact .inr (.inl h)
        · rw [h] at hs; simp [ht] at hs
        · exact .inr (.inr (.inr h))
      · split
        · rename_i hl
          simp only [Config.ringCapacity] at hl
          refine ⟨?_, by simp; omega⟩
          obtain h | h | h | h := h
          · exact .inl h
          · exact .inr (.inl (by simp [h]))
          · exact .inr (.inr (.inl h))
          · omega
        · rename_i hl
          have e := length_placeFull r d (by simp only [Config.ringCapacity] at hl; omega)
          exact ⟨.inr (.inr (.inr e)), e.le⟩

/-- A command that is placed waits, unless the queue is full, and the queue keeps its 32 places (R159, R161). -/
theorem placeCmd_waits (r : Ring) (c : RingCmd) (hq : r.queue.length ≤ 32) :
    WaitsOrFull c (placeCmd r c).1 ∧ (placeCmd r c).1.queue.length ≤ 32 := by
  unfold placeCmd
  split
  · exact ⟨.inl (mem_replaceCmd_self ‹_›), hq⟩
  · split
    · exact ⟨.inr (.inl (mem_replaceCmd_self ‹_›)), by simpa using hq⟩
    · split
      · exact ⟨.inr (.inr (.inl rfl)), hq⟩
      · split
        · rename_i hl
          simp only [Config.ringCapacity] at hl
          exact ⟨.inr (.inl (by simp)), by simp; omega⟩
        · rename_i hl
          have e := length_placeFull r c (by simp only [Config.ringCapacity] at hl; omega)
          exact ⟨.inr (.inr (.inr e)), e.le⟩

/-- The ring after an offer is that after the placing, when the command's module is ACTIVE, and the same otherwise (R159). -/
theorem offer_ring (c : RingCmd) (s : State) :
    (offer c s).ring = if cmdReaches s c then (placeCmd s.ring c).1 else s.ring := by
  unfold offer
  split
  · dsimp only
    split <;> simp [State.withRing]
  · rfl

/-! ### Checks in order -/

/-- A check that holds leaves the request to the checks behind it. -/
@[simp] theorem checked_holds (a : Answer) (l : List (Bool × Answer)) (s : State) (ok : State → State × Answer) :
    checked ((true, a) :: l) s ok = checked l s ok := rfl

/-- A check that fails gives the refusal, and nothing changes. -/
@[simp] theorem checked_fails (a : Answer) (l : List (Bool × Answer)) (s : State) (ok : State → State × Answer) :
    checked ((false, a) :: l) s ok = (s, a) := rfl

/-- A code that names a value leaves the request to its work. -/
@[simp] theorem withCode_some {α : Type} (kind : Nat) (v : α) (s : State) (ok : α → State → State × Answer) :
    withCode kind (some v) s ok = ok v s := rfl

/-- A code that names none is refused with the free reason of its kind, and nothing changes (log entry 3). -/
@[simp] theorem withCode_none {α : Type} (kind : Nat) (s : State) (ok : α → State → State × Answer) :
    withCode kind none s ok = (s, refuseCode kind) := rfl

end Sys2Proof.Machine
end

