-- ==== Sys2Proof/Laws/PerInstr.lean ====
section
/-! SUPPORT. The per-instruction family `Codec`: the KIND of the frame that carries a command stands below the KINDs of the
messages the controller sends, its BODY keeps the LENGTH a frame may have, and it is taken at the command's own port. -/

open Sys2Proof Sys2Proof.Machine

/-- The frame of a command: its KIND is one of a request (Table 12-2, all below 0x50), and the BODY of a well-formed
command has at most 58 bytes, so that LENGTH is at most 60 (R164, R185). -/
def Sys2Proof.Laws.Codec.Statement (c : Instr) : Prop :=
  ∀ p kind tag body, encodeCommand c = some (p, kind, tag, body) →
    kind < 0x50 ∧ (c.wf = true → body.length ≤ 58)

/-- One byte is one byte. -/
theorem Sys2Proof.Laws.Codec.length_e1 (n : Nat) : (e1 n).length = 1 := rfl

/-- Two bytes are two bytes. -/
theorem Sys2Proof.Laws.Codec.length_e2 (n : Nat) : (e2 n).length = 2 := rfl

/-- Four bytes are four bytes. -/
theorem Sys2Proof.Laws.Codec.length_e4 (n : Nat) : (e4 n).length = 4 := rfl

/-- The body of a list of one-byte entries is as long as the list. -/
theorem Sys2Proof.Laws.Codec.length_ones (l : List Nat) : (l.flatMap e1).length = l.length := by
  induction l with
  | nil => rfl
  | cons x l ih => simp only [List.flatMap_cons, List.length_append, ih, List.length_cons, length_e1]; omega

/-- Two bytes for each entry of two fields. -/
theorem Sys2Proof.Laws.Codec.length_pairs (l : List (Nat × Nat)) :
    (l.flatMap (fun x => e1 x.1 ++ e1 x.2)).length = 2 * l.length := by
  induction l with
  | nil => rfl
  | cons x l ih => simp only [List.flatMap_cons, List.length_append, ih, List.length_cons, length_e1]; omega

/-- Three bytes for each entry of three fields. -/
theorem Sys2Proof.Laws.Codec.length_triples (l : List (Nat × Nat × Nat)) :
    (l.flatMap (fun x => e1 x.1 ++ e1 x.2.1 ++ e1 x.2.2)).length = 3 * l.length := by
  induction l with
  | nil => rfl
  | cons x l ih => simp only [List.flatMap_cons, List.length_append, ih, List.length_cons, length_e1]; omega

/-- The same of an ordered request: its KIND lies in 0x01 to 0x34. -/
theorem Sys2Proof.Laws.Codec.request (r : Request) (kind : Nat) (body : List Byte) (h : encodeRequest r = some (kind, body)) :
    1 ≤ kind ∧ kind ≤ 0x34 ∧ (r.wf = true → body.length ≤ 58) := by
  cases r <;> simp only [encodeRequest, Option.some.injEq, Prod.mk.injEq, reduceCtorEq] at h <;>
    obtain ⟨rfl, rfl⟩ := h <;> refine ⟨by omega, by omega, fun w => ?_⟩ <;>
    simp only [List.length_append, length_e1, length_e2, length_e4, length_ones, length_pairs, length_triples,
      List.length_nil, Request.wf, Bool.and_eq_true, decide_eq_true_eq] at w ⊢ <;> omega

/-- A command that no frame carries. -/
theorem Sys2Proof.Laws.Codec.uncarried {c : Instr} (h : encodeCommand c = none) : Statement c := by
  intro p kind tag body e
  rw [h] at e
  cases e

/-- A command whose frame has a KIND and a BODY in range. -/
theorem Sys2Proof.Laws.Codec.carried {c : Instr} {p : PortId} {kind : Nat} {tag : Byte} {body : List Byte}
    (h : encodeCommand c = some (p, kind, tag, body)) (hk : kind < 0x50) (hb : body.length ≤ 58) : Statement c := by
  intro p' kind' tag' body' e
  rw [h] at e
  cases e
  exact ⟨hk, fun _ => hb⟩

theorem Sys2Proof.Laws.Codec.powerOnReset (estopAsserted : Bool) : Statement (.powerOnReset estopAsserted) :=
  uncarried rfl

theorem Sys2Proof.Laws.Codec.emergencyStopAsserted : Statement .emergencyStopAsserted :=
  uncarried rfl

theorem Sys2Proof.Laws.Codec.emergencyStopReleased : Statement .emergencyStopReleased :=
  uncarried rfl

theorem Sys2Proof.Laws.Codec.breakLine (p : PortId) : Statement (.breakLine p) :=
  uncarried rfl

theorem Sys2Proof.Laws.Codec.malformedFrame (p : PortId) (chars : List RxChar) : Statement (.malformedFrame p chars) :=
  uncarried rfl

theorem Sys2Proof.Laws.Codec.frameGapTimeout (p : PortId) (chars : List RxChar) (next : RxChar) : Statement (.frameGapTimeout p chars next) :=
  uncarried rfl

theorem Sys2Proof.Laws.Codec.silenceTimeout (p : PortId) : Statement (.silenceTimeout p) :=
  uncarried rfl

theorem Sys2Proof.Laws.Codec.orderedRequest (p : PortId) (tag : Byte) (req : Request) : Statement (.orderedRequest p tag req) := by
  rintro p' kind tag' body h
  simp only [encodeCommand, Option.map_eq_some_iff] at h
  obtain ⟨⟨k, b⟩, e, h⟩ := h
  simp only [Prod.mk.injEq] at h
  obtain ⟨-, rfl, -, rfl⟩ := h
  have := request req _ _ e
  exact ⟨by omega, this.2.2⟩

theorem Sys2Proof.Laws.Codec.holdTimerExpiry (p : PortId) : Statement (.holdTimerExpiry p) :=
  uncarried rfl

theorem Sys2Proof.Laws.Codec.holdOffExpiry (p : PortId) : Statement (.holdOffExpiry p) :=
  uncarried rfl

theorem Sys2Proof.Laws.Codec.transmitHold (p : PortId) : Statement (.transmitHold p) :=
  uncarried rfl

theorem Sys2Proof.Laws.Codec.transmitResponse (p : PortId) : Statement (.transmitResponse p) :=
  uncarried rfl

theorem Sys2Proof.Laws.Codec.transmitNotice (p : PortId) : Statement (.transmitNotice p) :=
  uncarried rfl

theorem Sys2Proof.Laws.Codec.beginConfig (p : PortId) : Statement (.beginConfig p) :=
  uncarried rfl

theorem Sys2Proof.Laws.Codec.loadSection (p : PortId) : Statement (.loadSection p) :=
  uncarried rfl

theorem Sys2Proof.Laws.Codec.loadPoint (p : PortId) : Statement (.loadPoint p) :=
  uncarried rfl

theorem Sys2Proof.Laws.Codec.loadSignal (p : PortId) : Statement (.loadSignal p) :=
  uncarried rfl

theorem Sys2Proof.Laws.Codec.loadRoute (p : PortId) : Statement (.loadRoute p) :=
  uncarried rfl

theorem Sys2Proof.Laws.Codec.loadRoutePoints (p : PortId) : Statement (.loadRoutePoints p) :=
  uncarried rfl

theorem Sys2Proof.Laws.Codec.loadDistrict (p : PortId) : Statement (.loadDistrict p) :=
  uncarried rfl

theorem Sys2Proof.Laws.Codec.loadDeck (p : PortId) : Statement (.loadDeck p) :=
  uncarried rfl

theorem Sys2Proof.Laws.Codec.loadDeckRoad (p : PortId) : Statement (.loadDeckRoad p) :=
  uncarried rfl

theorem Sys2Proof.Laws.Codec.loadTrain (p : PortId) : Statement (.loadTrain p) :=
  uncarried rfl

theorem Sys2Proof.Laws.Codec.loadPlan (p : PortId) : Statement (.loadPlan p) :=
  uncarried rfl

theorem Sys2Proof.Laws.Codec.loadTraction (p : PortId) : Statement (.loadTraction p) :=
  uncarried rfl

theorem Sys2Proof.Laws.Codec.loadPortRoles (p : PortId) : Statement (.loadPortRoles p) :=
  uncarried rfl

theorem Sys2Proof.Laws.Codec.loadParameter (p : PortId) : Statement (.loadParameter p) :=
  uncarried rfl

theorem Sys2Proof.Laws.Codec.commitConfig (p : PortId) : Statement (.commitConfig p) :=
  uncarried rfl

theorem Sys2Proof.Laws.Codec.abandonConfig (p : PortId) : Statement (.abandonConfig p) :=
  uncarried rfl

theorem Sys2Proof.Laws.Codec.readDescription (p : PortId) (tag : Byte) (table item : Nat) : Statement (.readDescription p tag table item) :=
  carried rfl (by decide) (Nat.le_of_ble_eq_true rfl)

theorem Sys2Proof.Laws.Codec.rest (p : PortId) : Statement (.rest p) :=
  uncarried rfl

theorem Sys2Proof.Laws.Codec.wake (p : PortId) : Statement (.wake p) :=
  uncarried rfl

theorem Sys2Proof.Laws.Codec.reconfigure (p : PortId) : Statement (.reconfigure p) :=
  uncarried rfl

theorem Sys2Proof.Laws.Codec.allStop (p : PortId) (tag : Byte) : Statement (.allStop p tag) :=
  carried rfl (by decide) (Nat.le_of_ble_eq_true rfl)

theorem Sys2Proof.Laws.Codec.resume (p : PortId) (tag : Byte) : Statement (.resume p tag) :=
  carried rfl (by decide) (Nat.le_of_ble_eq_true rfl)

theorem Sys2Proof.Laws.Codec.readMode (p : PortId) (tag : Byte) : Statement (.readMode p tag) :=
  carried rfl (by decide) (Nat.le_of_ble_eq_true rfl)

theorem Sys2Proof.Laws.Codec.present (p : PortId) (tag : Byte) : Statement (.present p tag) :=
  carried rfl (by decide) (Nat.le_of_ble_eq_true rfl)

theorem Sys2Proof.Laws.Codec.setSilence (p : PortId) (tag : Byte) (ms : Nat) : Statement (.setSilence p tag ms) :=
  carried rfl (by decide) (Nat.le_of_ble_eq_true rfl)

theorem Sys2Proof.Laws.Codec.holdOff (p : PortId) (tag : Byte) (quanta : Nat) : Statement (.holdOff p tag quanta) :=
  carried rfl (by decide) (Nat.le_of_ble_eq_true rfl)

theorem Sys2Proof.Laws.Codec.setSubscription (p : PortId) (tag : Byte) (mask : Nat) : Statement (.setSubscription p tag mask) :=
  carried rfl (by decide) (Nat.le_of_ble_eq_true rfl)

theorem Sys2Proof.Laws.Codec.setTrigger (p : PortId) (tag : Byte) (value : Nat) : Statement (.setTrigger p tag value) :=
  carried rfl (by decide) (Nat.le_of_ble_eq_true rfl)

theorem Sys2Proof.Laws.Codec.takeDistrict (p : PortId) : Statement (.takeDistrict p) :=
  uncarried rfl

theorem Sys2Proof.Laws.Codec.giveDistrict (p : PortId) : Statement (.giveDistrict p) :=
  uncarried rfl

theorem Sys2Proof.Laws.Codec.setDistrictFlags (p : PortId) : Statement (.setDistrictFlags p) :=
  uncarried rfl

theorem Sys2Proof.Laws.Codec.movePoint (p : PortId) : Statement (.movePoint p) :=
  uncarried rfl

theorem Sys2Proof.Laws.Codec.setRoute (p : PortId) : Statement (.setRoute p) :=
  uncarried rfl

theorem Sys2Proof.Laws.Codec.cancelRoute (p : PortId) : Statement (.cancelRoute p) :=
  uncarried rfl

theorem Sys2Proof.Laws.Codec.retryEntryEvaluation : Statement .retryEntryEvaluation :=
  uncarried rfl

theorem Sys2Proof.Laws.Codec.demoSetRoute : Statement .demoSetRoute :=
  uncarried rfl

theorem Sys2Proof.Laws.Codec.demoCancelRoute : Statement .demoCancelRoute :=
  uncarried rfl

theorem Sys2Proof.Laws.Codec.placeTrain (p : PortId) : Statement (.placeTrain p) :=
  uncarried rfl

theorem Sys2Proof.Laws.Codec.removeTrain (p : PortId) : Statement (.removeTrain p) :=
  uncarried rfl

theorem Sys2Proof.Laws.Codec.takeTrain (p : PortId) : Statement (.takeTrain p) :=
  uncarried rfl

theorem Sys2Proof.Laws.Codec.giveTrain (p : PortId) : Statement (.giveTrain p) :=
  uncarried rfl

theorem Sys2Proof.Laws.Codec.throttle (p : PortId) (tag : Byte) (train value direction : Nat) : Statement (.throttle p tag train value direction) :=
  carried rfl (by decide) (Nat.le_of_ble_eq_true rfl)

theorem Sys2Proof.Laws.Codec.restoreTrain (p : PortId) : Statement (.restoreTrain p) :=
  uncarried rfl

theorem Sys2Proof.Laws.Codec.turnDeck (p : PortId) : Statement (.turnDeck p) :=
  uncarried rfl

theorem Sys2Proof.Laws.Codec.passDemo (p : PortId) : Statement (.passDemo p) :=
  uncarried rfl

theorem Sys2Proof.Laws.Codec.vetoDemo (p : PortId) : Statement (.vetoDemo p) :=
  uncarried rfl

theorem Sys2Proof.Laws.Codec.setSweepMode (p : PortId) : Statement (.setSweepMode p) :=
  uncarried rfl

theorem Sys2Proof.Laws.Codec.selectCounter (p : PortId) : Statement (.selectCounter p) :=
  uncarried rfl

theorem Sys2Proof.Laws.Codec.decrementCounter (p : PortId) : Statement (.decrementCounter p) :=
  uncarried rfl

theorem Sys2Proof.Laws.Codec.readCounters (p : PortId) (tag : Byte) : Statement (.readCounters p tag) :=
  carried rfl (by decide) (Nat.le_of_ble_eq_true rfl)

theorem Sys2Proof.Laws.Codec.readSection (p : PortId) (tag : Byte) (section_ : Nat) : Statement (.readSection p tag section_) :=
  carried rfl (by decide) (Nat.le_of_ble_eq_true rfl)

theorem Sys2Proof.Laws.Codec.readPoint (p : PortId) (tag : Byte) (point : Nat) : Statement (.readPoint p tag point) :=
  carried rfl (by decide) (Nat.le_of_ble_eq_true rfl)

theorem Sys2Proof.Laws.Codec.readSignal (p : PortId) (tag : Byte) (signal : Nat) : Statement (.readSignal p tag signal) :=
  carried rfl (by decide) (Nat.le_of_ble_eq_true rfl)

theorem Sys2Proof.Laws.Codec.readDistricts (p : PortId) (tag : Byte) : Statement (.readDistricts p tag) :=
  carried rfl (by decide) (Nat.le_of_ble_eq_true rfl)

theorem Sys2Proof.Laws.Codec.readInstance (p : PortId) (tag : Byte) (slot : Nat) : Statement (.readInstance p tag slot) :=
  carried rfl (by decide) (Nat.le_of_ble_eq_true rfl)

theorem Sys2Proof.Laws.Codec.readRouteEngine (p : PortId) (tag : Byte) : Statement (.readRouteEngine p tag) :=
  carried rfl (by decide) (Nat.le_of_ble_eq_true rfl)

theorem Sys2Proof.Laws.Codec.readTrain (p : PortId) (tag : Byte) (train : Nat) : Statement (.readTrain p tag train) :=
  carried rfl (by decide) (Nat.le_of_ble_eq_true rfl)

theorem Sys2Proof.Laws.Codec.readSupervision (p : PortId) (tag : Byte) (train : Nat) : Statement (.readSupervision p tag train) :=
  carried rfl (by decide) (Nat.le_of_ble_eq_true rfl)

theorem Sys2Proof.Laws.Codec.readDeck (p : PortId) (tag : Byte) : Statement (.readDeck p tag) :=
  carried rfl (by decide) (Nat.le_of_ble_eq_true rfl)

theorem Sys2Proof.Laws.Codec.readDemo (p : PortId) (tag : Byte) : Statement (.readDemo p tag) :=
  carried rfl (by decide) (Nat.le_of_ble_eq_true rfl)

theorem Sys2Proof.Laws.Codec.readModule (p : PortId) (tag : Byte) (addr : Nat) : Statement (.readModule p tag addr) :=
  carried rfl (by decide) (Nat.le_of_ble_eq_true rfl)

theorem Sys2Proof.Laws.Codec.readRing (p : PortId) (tag : Byte) : Statement (.readRing p tag) :=
  carried rfl (by decide) (Nat.le_of_ble_eq_true rfl)

theorem Sys2Proof.Laws.Codec.readPort (p : PortId) (tag : Byte) (named : Nat) : Statement (.readPort p tag named) :=
  carried rfl (by decide) (Nat.le_of_ble_eq_true rfl)

theorem Sys2Proof.Laws.Codec.sweepTimerExpiry : Statement .sweepTimerExpiry :=
  uncarried rfl

theorem Sys2Proof.Laws.Codec.postponedPartialSweep : Statement .postponedPartialSweep :=
  uncarried rfl

theorem Sys2Proof.Laws.Codec.poll : Statement .poll :=
  uncarried rfl

theorem Sys2Proof.Laws.Codec.goodAnswer (frame : List Byte) : Statement (.goodAnswer frame) :=
  uncarried rfl

theorem Sys2Proof.Laws.Codec.miss (received : List Byte) : Statement (.miss received) :=
  uncarried rfl

theorem Sys2Proof.Laws.Codec.ringCommandSent : Statement .ringCommandSent :=
  uncarried rfl

theorem Sys2Proof.Laws.Codec.supervisionExpiry (train : Nat) : Statement (.supervisionExpiry train) :=
  uncarried rfl

theorem Sys2Proof.Laws.Codec.pointMoveTimeout (point : Nat) : Statement (.pointMoveTimeout point) :=
  uncarried rfl

theorem Sys2Proof.Laws.Codec.approachReleaseExpirySet (slot : Nat) : Statement (.approachReleaseExpirySet slot) :=
  uncarried rfl

theorem Sys2Proof.Laws.Codec.approachReleaseExpiryOccupied (slot : Nat) : Statement (.approachReleaseExpiryOccupied slot) :=
  uncarried rfl

theorem Sys2Proof.Laws.Codec.overlapReleaseTimeout (slot : Nat) : Statement (.overlapReleaseTimeout slot) :=
  uncarried rfl

theorem Sys2Proof.Laws.Codec.retryLifetimeExpiry (route : Nat) : Statement (.retryLifetimeExpiry route) :=
  uncarried rfl

theorem Sys2Proof.Laws.Codec.deckMoveTimeout : Statement .deckMoveTimeout :=
  uncarried rfl

theorem Sys2Proof.Laws.Codec.screeningTimeout (plan : Nat) : Statement (.screeningTimeout plan) :=
  uncarried rfl

theorem Sys2Proof.Laws.Codec.admissionTimeout : Statement .admissionTimeout :=
  uncarried rfl

theorem Sys2Proof.Laws.Codec.runLimitExpiry : Statement .runLimitExpiry :=
  uncarried rfl
end

