-- ==== Sys2Proof/Tests/Slice0.lean ====
section
/-! SUPPORT. The model's own tests: ill-formed commands refused by the well-formedness check, desk frames written out byte by
byte from the tables of chapter 12, one step of a small layout for the commands, and for every obligation with hypotheses a
state and operands that meet them. -/

namespace Sys2Proof.Tests

open Sys2Proof Sys2Proof.Machine

-- One theorem at a time: many kernel evaluations at once would hold a thread each.
set_option Elab.async false

/-! ### Well-formedness: an ill-formed term for each check -/

theorem test_wf_load_section :
    Request.wf (.loadSection 256 0 0 0 0 0 0 0 0 0) = false ∧ Request.wf (.loadSection 0 256 0 0 0 0 0 0 0 0) = false ∧
    Request.wf (.loadSection 0 0 65536 0 0 0 0 0 0 0) = false ∧ Request.wf (.loadSection 0 0 0 65536 0 0 0 0 0 0) = false ∧
    Request.wf (.loadSection 0 0 0 0 256 0 0 0 0 0) = false ∧ Request.wf (.loadSection 0 0 0 0 0 256 0 0 0 0) = false ∧
    Request.wf (.loadSection 0 0 0 0 0 0 256 0 0 0) = false ∧ Request.wf (.loadSection 0 0 0 0 0 0 0 65536 0 0) = false ∧
    Request.wf (.loadSection 0 0 0 0 0 0 0 0 65536 0) = false ∧ Request.wf (.loadSection 0 0 0 0 0 0 0 0 0 256) = false := by
  decide

theorem test_wf_load_point :
    Request.wf (.loadPoint 256 0 0 0 0 0) = false ∧ Request.wf (.loadPoint 0 256 0 0 0 0) = false ∧
    Request.wf (.loadPoint 0 0 256 0 0 0) = false ∧ Request.wf (.loadPoint 0 0 0 256 0 0) = false ∧
    Request.wf (.loadPoint 0 0 0 0 256 0) = false ∧ Request.wf (.loadPoint 0 0 0 0 0 256) = false := by
  decide

theorem test_wf_load_signal :
    Request.wf (.loadSignal 256 0 0 0 0 0 0 0) = false ∧ Request.wf (.loadSignal 0 256 0 0 0 0 0 0) = false ∧
    Request.wf (.loadSignal 0 0 256 0 0 0 0 0) = false ∧ Request.wf (.loadSignal 0 0 0 256 0 0 0 0) = false ∧
    Request.wf (.loadSignal 0 0 0 0 256 0 0 0) = false ∧ Request.wf (.loadSignal 0 0 0 0 0 256 0 0) = false ∧
    Request.wf (.loadSignal 0 0 0 0 0 0 256 0) = false ∧ Request.wf (.loadSignal 0 0 0 0 0 0 0 256) = false := by
  decide

theorem test_wf_load_route :
    Request.wf (.loadRoute 256 0 0 0 0 [] [] [] 0 0) = false ∧ Request.wf (.loadRoute 0 256 0 0 0 [] [] [] 0 0) = false ∧
    Request.wf (.loadRoute 0 0 256 0 0 [] [] [] 0 0) = false ∧ Request.wf (.loadRoute 0 0 0 65536 0 [] [] [] 0 0) = false ∧
    Request.wf (.loadRoute 0 0 0 0 256 [] [] [] 0 0) = false ∧ Request.wf (.loadRoute 0 0 0 0 0 [(256, 0)] [] [] 0 0) = false ∧
    Request.wf (.loadRoute 0 0 0 0 0 [(0, 256)] [] [] 0 0) = false ∧
    Request.wf (.loadRoute 0 0 0 0 0 (List.replicate 13 (0, 0)) [] [] 0 0) = false ∧
    Request.wf (.loadRoute 0 0 0 0 0 [] [256] [] 0 0) = false ∧ Request.wf (.loadRoute 0 0 0 0 0 [] [0, 0, 0] [] 0 0) = false ∧
    Request.wf (.loadRoute 0 0 0 0 0 [] [] [256] 0 0) = false ∧
    Request.wf (.loadRoute 0 0 0 0 0 [] [] [0, 0, 0, 0] 0 0) = false ∧
    Request.wf (.loadRoute 0 0 0 0 0 [] [] [] 65536 0) = false ∧ Request.wf (.loadRoute 0 0 0 0 0 [] [] [] 0 256) = false := by
  decide

theorem test_wf_load_route_points :
    Request.wf (.loadRoutePoints 256 [] []) = false ∧ Request.wf (.loadRoutePoints 0 [(256, 0, 0)] []) = false ∧
    Request.wf (.loadRoutePoints 0 [(0, 256, 0)] []) = false ∧ Request.wf (.loadRoutePoints 0 [(0, 0, 256)] []) = false ∧
    Request.wf (.loadRoutePoints 0 (List.replicate 9 (0, 0, 0)) []) = false ∧
    Request.wf (.loadRoutePoints 0 [] [(256, 0)]) = false ∧ Request.wf (.loadRoutePoints 0 [] [(0, 256)]) = false ∧
    Request.wf (.loadRoutePoints 0 [] (List.replicate 5 (0, 0))) = false := by
  decide

theorem test_wf_load_plan :
    Request.wf (.loadPlan 256 0 0 0 [] 0 0 0) = false ∧ Request.wf (.loadPlan 0 256 0 0 [] 0 0 0) = false ∧
    Request.wf (.loadPlan 0 0 256 0 [] 0 0 0) = false ∧ Request.wf (.loadPlan 0 0 0 256 [] 0 0 0) = false ∧
    Request.wf (.loadPlan 0 0 0 0 [256] 0 0 0) = false ∧ Request.wf (.loadPlan 0 0 0 0 (List.replicate 7 0) 0 0 0) = false ∧
    Request.wf (.loadPlan 0 0 0 0 [] 256 0 0) = false ∧ Request.wf (.loadPlan 0 0 0 0 [] 0 256 0) = false ∧
    Request.wf (.loadPlan 0 0 0 0 [] 0 0 256) = false := by
  decide

theorem test_wf_other_loads :
    Request.wf (.loadDistrict 256 0) = false ∧ Request.wf (.loadDistrict 0 256) = false ∧
    Request.wf (.loadDeck 256 0 0 0) = false ∧ Request.wf (.loadDeck 0 256 0 0) = false ∧
    Request.wf (.loadDeck 0 0 256 0) = false ∧ Request.wf (.loadDeck 0 0 0 256) = false ∧
    Request.wf (.loadDeckRoad 256 0 0 0) = false ∧ Request.wf (.loadDeckRoad 0 256 0 0) = false ∧
    Request.wf (.loadDeckRoad 0 0 65536 0) = false ∧ Request.wf (.loadDeckRoad 0 0 0 256) = false ∧
    Request.wf (.loadTrain 256 0 0 0 0 0) = false ∧ Request.wf (.loadTrain 0 256 0 0 0 0) = false ∧
    Request.wf (.loadTrain 0 0 65536 0 0 0) = false ∧ Request.wf (.loadTrain 0 0 0 65536 0 0) = false ∧
    Request.wf (.loadTrain 0 0 0 0 65536 0) = false ∧ Request.wf (.loadTrain 0 0 0 0 0 65536) = false ∧
    Request.wf (.loadTraction 256 0) = false ∧ Request.wf (.loadTraction 0 256) = false ∧
    Request.wf (.loadPortRoles 256 0 0 0 0) = false ∧ Request.wf (.loadPortRoles 0 256 0 0 0) = false ∧
    Request.wf (.loadPortRoles 0 0 256 0 0) = false ∧ Request.wf (.loadPortRoles 0 0 0 256 0) = false ∧
    Request.wf (.loadPortRoles 0 0 0 0 256) = false ∧ Request.wf (.loadParameter 256 0) = false ∧
    Request.wf (.loadParameter 0 65536) = false ∧ Request.wf (.loadMisfit .route 256) = false := by
  decide

theorem test_wf_running_requests :
    Request.wf (.takeDistrict 256) = false ∧ Request.wf (.giveDistrict 256) = false ∧
    Request.wf (.setDistrictFlags 256 0) = false ∧ Request.wf (.setDistrictFlags 0 256) = false ∧
    Request.wf (.movePoint 256 0) = false ∧ Request.wf (.movePoint 0 256) = false ∧
    Request.wf (.setRoute 256 0) = false ∧ Request.wf (.setRoute 0 256) = false ∧ Request.wf (.cancelRoute 256) = false ∧
    Request.wf (.placeTrain 256 0 0) = false ∧ Request.wf (.placeTrain 0 256 0) = false ∧
    Request.wf (.placeTrain 0 0 256) = false ∧ Request.wf (.removeTrain 256) = false ∧ Request.wf (.takeTrain 256) = false ∧
    Request.wf (.giveTrain 256) = false ∧ Request.wf (.restoreTrain 256) = false ∧ Request.wf (.turnDeck 256 0) = false ∧
    Request.wf (.turnDeck 0 256) = false ∧ Request.wf (.passDemo 256) = false ∧ Request.wf (.vetoDemo 256) = false ∧
    Request.wf (.setSweepMode 256 0) = false ∧ Request.wf (.setSweepMode 0 65536) = false ∧
    Request.wf (.selectCounter 256 0 0) = false ∧ Request.wf (.selectCounter 0 256 0) = false ∧
    Request.wf (.selectCounter 0 0 256) = false ∧ Request.wf (.decrementCounter 256 0) = false ∧
    Request.wf (.decrementCounter 0 4294967296) = false := by
  decide

theorem test_wf_commands :
    Instr.wf (.orderedRequest .a 0 (.takeTrain 256)) = false ∧ Instr.wf (.readDescription .a 0 256 0) = false ∧
    Instr.wf (.readDescription .a 0 0 65536) = false ∧ Instr.wf (.setSilence .a 0 65536) = false ∧
    Instr.wf (.holdOff .a 0 65536) = false ∧ Instr.wf (.setSubscription .a 0 65536) = false ∧
    Instr.wf (.setTrigger .a 0 256) = false ∧ Instr.wf (.throttle .a 0 256 0 0) = false ∧
    Instr.wf (.throttle .a 0 0 256 0) = false ∧ Instr.wf (.throttle .a 0 0 0 256) = false ∧
    Instr.wf (.readSection .a 0 256) = false ∧ Instr.wf (.readPoint .a 0 256) = false ∧
    Instr.wf (.readSignal .a 0 256) = false ∧ Instr.wf (.readInstance .a 0 256) = false ∧
    Instr.wf (.readTrain .a 0 256) = false ∧ Instr.wf (.readSupervision .a 0 256) = false ∧
    Instr.wf (.readModule .a 0 256) = false ∧ Instr.wf (.readPort .a 0 256) = false ∧
    Instr.wf (.supervisionExpiry 48) = false ∧ Instr.wf (.pointMoveTimeout 128) = false ∧
    Instr.wf (.approachReleaseExpirySet 32) = false ∧ Instr.wf (.approachReleaseExpiryOccupied 32) = false ∧
    Instr.wf (.overlapReleaseTimeout 32) = false ∧ Instr.wf (.retryLifetimeExpiry 192) = false ∧
    Instr.wf (.screeningTimeout 16) = false := by
  decide

/-! ### Desk frames, written out from Tables 12-1 to 12-3 -/

theorem test_decode_configuration :
    decodeFrame .b [0xA5#8, 2#8, 0x01#8, 9#8] = some (.orderedRequest .b 9#8 .beginConfig) ∧
    decodeFrame .b [0xA5#8, 16#8, 0x02#8, 9#8, 3#8, 0#8, 0x03#8, 0xE8#8, 0x01#8, 0x90#8, 1#8, 5#8, 2#8, 0x00#8, 0x04#8, 0xFF#8,
      0xFF#8, 1#8] = some (.orderedRequest .b 9#8 (.loadSection 3 0 1000 400 1 5 2 4 65535 1)) ∧
    decodeFrame .b [0xA5#8, 16#8, 0x05#8, 9#8, 7#8, 0#8, 1#8, 0x00#8, 0x02#8, 1#8, 1#8, 3#8, 1#8, 0#8, 0#8, 0xFF#8, 0xFF#8,
      0xFF#8] = some (.orderedRequest .b 9#8 (.loadRoute 7 0 1 2 1 [(3, 1)] [] [] 65535 255)) ∧
    decodeFrame .b [0xA5#8, 5#8, 0x0E#8, 9#8, 6#8, 0x0B#8, 0xB8#8] = some (.orderedRequest .b 9#8 (.loadParameter 6 3000)) := by
  decide

theorem test_decode_modes_and_districts :
    decodeFrame .a [0xA5#8, 2#8, 0x18#8, 1#8] = some (.orderedRequest .a 1#8 .rest) ∧
    decodeFrame .a [0xA5#8, 2#8, 0x1B#8, 1#8] = some (.allStop .a 1#8) ∧
    decodeFrame .a [0xA5#8, 2#8, 0x41#8, 1#8] = some (.readMode .a 1#8) ∧
    decodeFrame .a [0xA5#8, 3#8, 0x20#8, 1#8, 7#8] = some (.orderedRequest .a 1#8 (.takeDistrict 7)) ∧
    decodeFrame .a [0xA5#8, 4#8, 0x23#8, 1#8, 127#8, 1#8] = some (.orderedRequest .a 1#8 (.movePoint 127 1)) := by
  decide

theorem test_decode_routes_and_trains :
    decodeFrame .c [0xA5#8, 4#8, 0x24#8, 0#8, 191#8, 1#8] = some (.orderedRequest .c 0#8 (.setRoute 191 1)) ∧
    decodeFrame .c [0xA5#8, 3#8, 0x25#8, 0#8, 191#8] = some (.orderedRequest .c 0#8 (.cancelRoute 191)) ∧
    decodeFrame .c [0xA5#8, 5#8, 0x28#8, 0#8, 47#8, 255#8, 1#8] = some (.orderedRequest .c 0#8 (.placeTrain 47 255 1)) ∧
    decodeFrame .c [0xA5#8, 5#8, 0x2C#8, 0#8, 47#8, 200#8, 1#8] = some (.throttle .c 0#8 47 200 1) ∧
    decodeFrame .c [0xA5#8, 4#8, 0x2E#8, 0#8, 23#8, 2#8] = some (.orderedRequest .c 0#8 (.turnDeck 23 2)) := by
  decide

theorem test_decode_demo_ring_counters_port :
    decodeFrame .d [0xA5#8, 3#8, 0x31#8, 0#8, 15#8] = some (.orderedRequest .d 0#8 (.vetoDemo 15)) ∧
    decodeFrame .d [0xA5#8, 5#8, 0x32#8, 0#8, 2#8, 0x01#8, 0x2C#8] = some (.orderedRequest .d 0#8 (.setSweepMode 2 300)) ∧
    decodeFrame .d [0xA5#8, 7#8, 0x34#8, 0#8, 11#8, 0x00#8, 0x01#8, 0x00#8, 0x02#8] =
      some (.orderedRequest .d 0#8 (.decrementCounter 11 65538)) ∧
    decodeFrame .d [0xA5#8, 4#8, 0x38#8, 0#8, 0x01#8, 0xF4#8] = some (.setSilence .d 0#8 500) ∧
    decodeFrame .d [0xA5#8, 4#8, 0x3A#8, 0#8, 0x1F#8, 0xFF#8] = some (.setSubscription .d 0#8 8191) := by
  decide

/-- R165: an unknown KIND, a LENGTH that KIND does not allow, a LENGTH that does not count the frame, and no SYNC. -/
theorem test_decode_malformed :
    decodeFrame .a [0xA5#8, 2#8, 0x11#8, 0#8] = none ∧ decodeFrame .a [0xA5#8, 3#8, 0x18#8, 0#8, 0#8] = none ∧
    decodeFrame .a [0xA5#8, 3#8, 0x18#8, 0#8] = none ∧ decodeFrame .a [0xA4#8, 2#8, 0x18#8, 0#8] = none := by
  decide

/-- R165 and R185: a list whose count does not fit the LENGTH makes a valid request that R4 refuses. -/
theorem test_decode_misfit :
    decodeFrame .a [0xA5#8, 5#8, 0x06#8, 0#8, 4#8, 1#8, 0#8] = some (.orderedRequest .a 0#8 (.loadMisfit .routePoints 4)) := by
  decide

/-- No row of the table gives bits. -/
theorem test_no_word_spells_a_command (s : State) (n w : Nat) : s.withFetchWord n w = s := rfl

/-! ### A small layout and its states -/

/-- A plain section entry of module 0. -/
def plain (input : Nat) (deckFlag : Bool) : SectionEntry :=
  { length := 1000, limit := 400, district := 0, addr := 0, input := input, upSignal := none, downSignal := none,
    deckFlag := deckFlag }

/-- Route 0 from signal 1 over section 2, with point 0 and overlap section 4. -/
def mainRoute : RouteEntry :=
  { entry := 1, exit := none, cls := .main, sections := [(2, .up)], points := [{ point := 0, pos := .normal, idx := 0 }],
    flanks := [], overlap := [4], approach := [1], deckReq := none }

/-- Four sections, a point, a signal, a route, a deck of 12 roads, a train and a plan; port A screens. -/
def yard : Desc :=
  { Desc.blank with
    sections := [(1, { plain 0 false with upSignal := some 1 }), (2, plain 1 false), (3, plain 2 true), (4, plain 3 false)],
    points := [(0, { addr := 2, output := 0, sec := 2, district := 0 })],
    signals := [(1, { sec := 1, stands := .up, kind := .main, addr := 1, output := 0, district := 0 })],
    routes := [(0, mainRoute)],
    deck := some { n := 12, sec := 3, addr := 4, roads := [] },
    trains := [(5, { addr := 55, vmax := 600, accel := 200, brake := 300 })],
    plans := [(0, { train := 5, start := 1, routes := [0], throttle := 128, addr := 5, input := 0 })],
    traction := some 3,
    roles := { Desc.blank.roles with screening := some .a } }

/-- A module that has answered. -/
def active (k : ModKind) (data : List Byte) : Module :=
  { kind := k, state := .active, misses := 0, data := some data, clearCounts := List.replicate 8 0,
    neitherCounts := List.replicate 4 0 }

/-- A section CLEAR, empty and unlocked. -/
def clearSec : SecState := { occ := .clear, occupant := .none, lock := none, disturbed := false }

/-- The yard IN-SERVICE, every module ACTIVE, every section CLEAR, point 0 REVERSE, the deck ALIGNED at road 2; port A is
ONLINE and holds district 0. -/
def running : State :=
  { State.reset with
    store := { committed := yard, session := none },
    ctl := { State.reset.ctl with mode := .inService },
    il := { sections := [(1, clearSec), (2, clearSec), (3, clearSec), (4, clearSec)],
            points := [(0, { reported := .reverse, commanded := some .reverse, locks := 0, lockedPos := .normal, timer := none })],
            signals := [(1, .stop)],
            districts := { holder := some .a, demoOk := false } :: List.replicate 7 { holder := none, demoOk := false },
            instances := [] },
    trains := [(5, { state := .absent, list := [], heading := .up, driver := none, throttle := 0, pendRev := false,
                     cause := none, sup := none })],
    deck := some { pos := .aligned 2, req := none, timer := none, latch := none, reported := some 2, doubt := 0 },
    ring := { Ring.reset with
      modules := [(0, active .detect [0#8]), (1, active .signal []), (2, active .point [2#8]), (3, active .traction [1#8]),
                  (4, active .deck [2#8, 1#8]), (5, active .button [0#8])],
      timer := some 100, power := some true },
    demo := { State.reset.demo with
      failing := { mode := false, screening := false, allStop := false },
      buttons := [(0, { level := some .released, lamp := .ready })] },
    ports := { State.reset.ports with a := { Port.reset with state := .online, silenceTimer := some 500 } } }

/-- A request with TAG 7 at the head of port A's queue. -/
def asked (r : Request) (s : State) : State :=
  updatePort s .a (fun q => { q with state := .online, queue := { tag := 7#8, req := r } :: q.queue })

/-- The state after a command. -/
def after (c : Instr) (s : State) : State :=
  match exec c s with
  | .next t => t
  | _ => s

/-- The latest response of port A. -/
def told (s : State) : Option Response := (portAt s .a).responses.getLast?

/-- A response with the TAG of `asked`. -/
def tagged (a : Answer) : Option Response := some { tag := 7#8, answer := a }

/-- CONFIG with a session of port A on a working description. -/
def editing (d : Desc) : State :=
  { State.reset with
    store := { committed := Desc.blank, session := some { port := .a, working := d } },
    ports := running.ports }

/-- The yard with the all-stop latch set by the input, which is released again. -/
def halted : State := running.withCtl { running.ctl with allStop := some .emergency }

/-- Train 5 PLACED on section 1, driven by port A, with supervision state. -/
def driven : State :=
  { running with
    trains := [(5, { state := .placed, list := [1], heading := .up, driver := some (.port .a), throttle := 255,
                     pendRev := false, cause := none,
                     sup := some { offset := 0, auth := [{ sec := 1, route := none }], permitted := 0, term := .eoa,
                                   demanded := 0, output := 0, intervening := false, sense := .forward, refresh := 0,
                                   notified := 0, settled := 0, timer := 1 } })],
    il := { running.il with sections := [(1, { clearSec with occ := .occupied, occupant := .train 5 }), (2, clearSec),
                                         (3, clearSec), (4, clearSec)] } }

/-- An instance of route 0 in slot 0, for port A. -/
def instOf (state : InstState) : Inst :=
  { route := 0, requester := .port .a, state := state, marks := [.locked], overlap := [4],
    held := [{ point := 0, pos := .normal, idx := some 0 }], claim := .none, entering := none, firstPassing := none,
    origin := none, approach := .stopped, overlapTimer := .stopped }

/-- The yard with that instance, its sections and its point locked to it. -/
def withInst (i : Inst) (s : State) : State :=
  { s with
    il := { s.il with
      sections := updateItem (updateItem s.il.sections 2 (fun x => { x with lock := some { slot := 0, role := .route } })) 4
        (fun x => { x with lock := some { slot := 0, role := .overlap } }),
      points := [(0, { reported := .normal, commanded := some .normal, locks := 1, lockedPos := .normal, timer := none })],
      instances := [(0, i)] } }

/-- The deck turning from road 2 to road 5. -/
def turning : State :=
  running.withDeck (some { pos := .moving 2 5 .cw, req := some (.port .a), timer := some 13000, latch := none,
                           reported := some 2, doubt := 0 })

/-- Section 4, the overlap of route 0, is locked elsewhere. -/
def contested : State := updateSec running 4 (fun x => { x with lock := some { slot := 9, role := .route } })

/-- A demonstration entry of plan 0. -/
def entryOf (accepted : Bool) : DemoEntry :=
  { plan := 0, accepted := accepted, screening := if accepted then none else some 100,
    admission := if accepted then some 100 else none }

/-- A run of plan 0 whose first route request is presented. -/
def runOf (hand : Hand) : Run :=
  { plan := 0, train := 5, next := 1, hand := hand, insts := [], left := 1000, paused := false }

/-- The window of a module is open and the partial sweep has nothing more to poll. -/
def polled (a : Nat) : State := running.withRing { running.ring with underWay := true, window := some a }

/-! ### One step of the small layout, with values worked out from the rules -/

theorem test_step_takes_the_front :
    step { State.reset with pending := [.emergencyStopAsserted, .poll] } =
      .next { State.reset with ctl := { State.reset.ctl with estop := true, allStop := some .emergency },
                               demo := { State.reset.demo with failing := { mode := true, screening := true, allStop := true } },
                               pending := [.poll] } := by
  rfl

/-- R22. -/
theorem test_power_on : after (.powerOnReset true) halted =
    { State.reset with ctl := { State.reset.ctl with estop := true, allStop := some .emergency },
                       demo := { State.reset.demo with failing := { mode := true, screening := true, allStop := true } } } := by
  decide +kernel

/-- R20. -/
theorem test_all_stop :
    (after (.allStop .a 7#8) driven).ctl.allStop = some (.port .a) ∧ outputOf (after (.allStop .a 7#8) driven) 5 = 0 ∧
    told (after (.allStop .a 7#8) driven) = tagged (.done []) := by
  decide +kernel

/-- R21. -/
theorem test_resume :
    (after (.resume .a 7#8) halted).ctl.allStop = none ∧
    told (after (.resume .a 7#8) (after .emergencyStopAsserted running)) = tagged (.refused .estopActive .none) ∧
    (after .emergencyStopReleased (after .emergencyStopAsserted running)).ctl.estop = false := by
  decide +kernel

/-- R167, R174, R175, R177: the values stored. -/
theorem test_port_settings :
    told (after (.setSilence .a 7#8 99) running) = tagged (.done [0#8, 100#8]) ∧
    told (after (.holdOff .a 7#8 6001) running) = tagged (.done [0x17#8, 0x70#8]) ∧
    (portAt (after (.setSubscription .a 7#8 4096) running) .a).subs = 4096#13 ∧
    told (after (.setTrigger .a 7#8 3) running) = tagged (.done [4#8]) ∧
    told (after (.present .a 7#8) running) = none := by
  decide +kernel

/-- R170, R173: the sixth request makes the port hold the board, the ninth is refused. -/
theorem test_ordered_request :
    (portAt (after (.orderedRequest .a 1#8 .rest)
      (updatePort running .a (fun q => { q with queue := List.replicate 5 { tag := 0#8, req := .wake } }))) .a).pendingHold =
        some 200 ∧
    told (after (.orderedRequest .a 7#8 .rest)
      (updatePort running .a (fun q => { q with queue := List.replicate 8 { tag := 0#8, req := .wake } }))) =
        tagged (.refused .queueFull .none) := by
  decide +kernel

/-- R172, R173: HOLD goes before the responses; the frame of HOLD(200). -/
theorem test_transmit :
    (portAt (after (.transmitHold .a) (updatePort running .a (fun q => { q with pendingHold := some 200 }))) .a).tx =
      [0xA5#8, 4#8, 0x91#8, 0#8, 0#8, 200#8] ∧
    (portAt (after (.transmitResponse .a) (updatePort running .a (fun q => { q with responses := [{ tag := 9#8, answer := .accepted 3 }] }))) .a).tx =
      [0xA5#8, 3#8, 0x81#8, 9#8, 3#8] ∧
    (portAt (after (.transmitNotice .a) (updatePort running .a (fun q => { q with notices := [{ entered := 0, notice := .signal 1 .stop }] }))) .a).notices = [] := by
  decide +kernel

/-- R165, R167 to R169. -/
theorem test_port_states :
    (portAt (after (.silenceTimeout .a) running) .a).state = .lost ∧
    (districtAt (after (.silenceTimeout .a) running) 0).holder = none ∧
    (portAt (after (.breakLine .a) running) .a).state = .offline ∧
    (portAt (after (.malformedFrame .a [⟨0xA5#8, false⟩, ⟨1#8, false⟩])
      (updatePort running .a (fun q => { q with malformed := 7 }))) .a).state = .isolated ∧
    (portAt (after (.frameGapTimeout .a [⟨0xA5#8, false⟩] ⟨0xA5#8, false⟩) running) .a).assembler = .collecting [0xA5#8] ∧
    (portAt (after (.holdOffExpiry .a) running) .a).holdOff = none ∧
    (portAt (after (.holdTimerExpiry .a) (updatePort running .a (fun q => { q with
      holding := true, holdTimer := some 0, queue := List.replicate 3 { tag := 0#8, req := .wake } }))) .a).pendingHold =
        some 200 := by
  decide +kernel

/-- R3, R8. -/
theorem test_session :
    ((after (.beginConfig .a) (asked .beginConfig State.reset)).store.session.map (·.port)) = some .a ∧
    told (after (.beginConfig .a) (asked .beginConfig (editing yard))) = tagged (.refused .sessionOpen .none) ∧
    (after (.abandonConfig .a) (asked .abandonConfig (editing yard))).store.session = none := by
  decide +kernel

/-- R4: an entry stored, a field out of range, and an undescribed route's points. -/
theorem test_loads :
    (findItem ((after (.loadSection .a) (asked (.loadSection 255 0 50 1023 7 63 7 65535 127 1) (editing Desc.blank))).store.session.map
      (·.working.sections)).get! 255).map (·.downSignal) = some (some 127) ∧
    told (after (.loadSection .a) (asked (.loadSection 1 0 49 0 0 0 0 65535 65535 0) (editing Desc.blank))) =
      tagged (.refused .validation (.validation .fieldRange .sec 1)) ∧
    told (after (.loadRoutePoints .a) (asked (.loadRoutePoints 0 [] []) (editing Desc.blank))) =
      tagged (.refused .validation (.validation .refMissing .route 0)) := by
  decide +kernel

/-- R5: 255 above the table's limit of the parameter is stored as the limit; 15 names no parameter. -/
theorem test_load_parameter :
    told (after (.loadParameter .a) (asked (.loadParameter 0 5000) (editing Desc.blank))) = tagged (.done [0x03#8, 0xE8#8]) ∧
    told (after (.loadParameter .a) (asked (.loadParameter 15 0) (editing Desc.blank))) =
      tagged (.refused .unknownItem .none) := by
  decide +kernel

/-- R6, R7, R11. -/
theorem test_commit :
    (after (.commitConfig .a) (asked .commitConfig (editing { Desc.blank with traction := some 3 }))).ctl.mode = .waking ∧
    ((moduleAt (after (.commitConfig .a) (asked .commitConfig (editing { Desc.blank with traction := some 3 }))) 3).kind) =
      .traction ∧
    told (after (.commitConfig .a) (asked .commitConfig (editing { Desc.blank with trains := yard.trains }))) =
      tagged (.refused .validation (.validation .noTraction .traction 65535)) := by
  decide +kernel

/-- R12, R16, R18. -/
theorem test_modes :
    (after (.rest .a) (asked .rest running)).ctl.pendingRest = some .a ∧
    told (after (.rest .a) (asked .rest turning)) = tagged (.refused .notQuiet .none) ∧
    (after (.wake .a) (asked .wake (running.withCtl { running.ctl with mode := .rest }))).ctl.mode = .waking ∧
    (after (.reconfigure .a) (asked .reconfigure running)).ctl.mode = .config := by
  decide +kernel

/-- R38 to R40. -/
theorem test_districts :
    (districtAt (after (.takeDistrict .a) (asked (.takeDistrict 7) running)) 7).holder = some .a ∧
    (districtAt (after (.giveDistrict .a) (asked (.giveDistrict 0) running)) 0).holder = none ∧
    (districtAt (after (.setDistrictFlags .a) (asked (.setDistrictFlags 0 1) running)) 0).demoOk = true ∧
    told (after (.takeDistrict .a) (asked (.takeDistrict 8) running)) = tagged (.refused .unknownItem .none) := by
  decide +kernel

/-- R31, R32: the move is commanded and the point is MOVING for the time of the parameter; at the expiry UNPROVEN. -/
theorem test_move_point :
    (ptAt (after (.movePoint .a) (asked (.movePoint 0 0) running)) 0).map (fun x => (x.reported, x.timer)) =
      some (.moving, some 3000) ∧
    (after (.movePoint .a) (asked (.movePoint 0 0) running)).ring.queue = [.pointMove 0 .normal] ∧
    (ptAt (after (.pointMoveTimeout 0) (after (.movePoint .a) (asked (.movePoint 0 0) running))) 0).map (·.reported) =
      some .unproven := by
  decide +kernel

/-- R55: the lowest slot, the locks of the route and its overlap, the point commanded. -/
theorem test_set_route :
    told (after (.setRoute .a) (asked (.setRoute 0 0) running)) = tagged (.accepted 0) ∧
    (secAt (after (.setRoute .a) (asked (.setRoute 0 0) running)) 4).bind (·.lock) =
      some { slot := 0, role := .overlap } ∧
    (after (.setRoute .a) (asked (.setRoute 0 0) running)).ring.queue = [.pointMove 0 .normal] ∧
    (instAt (after (.setRoute .a) (asked (.setRoute 0 0) running)) 0).map (·.state) = some .setting := by
  decide +kernel

/-- R56: a blocked request with QUEUE-IF-BLOCKED joins the retry list; its lifetime ends it. -/
theorem test_queued_route :
    told (after (.setRoute .a) (asked (.setRoute 0 1)
      contested)) = tagged .queued ∧
    (after (.retryLifetimeExpiry 0) (running.withEngine { running.engine with
      retry := [{ route := 0, port := .a, left := 0, reason := .conflict, eligible := false }] })).engine.retry = [] := by
  decide +kernel

/-- R74 to R80, R73. -/
theorem test_cancel_and_release :
    told (after (.cancelRoute .a) (asked (.cancelRoute 0) (withInst (instOf .set) running))) =
      tagged (.done [0#8, 0#8]) ∧
    (instAt (after (.cancelRoute .a) (asked (.cancelRoute 0) (withInst (instOf .occupied) running))) 0).map (·.approach) =
      some (.running 30000) ∧
    instAt (after (.approachReleaseExpirySet 0)
      (withInst { instOf .releasing with origin := some .set, approach := .running 0 } running)) 0 = none ∧
    instAt (after (.approachReleaseExpiryOccupied 0)
      (withInst { instOf .releasing with origin := some .occupied, approach := .running 0 } running)) 0 = none ∧
    (secAt (after (.overlapReleaseTimeout 0) (withInst { instOf .occupied with overlapTimer := .running 0 } running)) 4).bind
      (·.lock) = none := by
  decide +kernel

/-- R59, R144, R147: the level-2 group's grants. -/
theorem test_level_two :
    (instAt (after .retryEntryEvaluation (running.withEngine { running.engine with
      retry := [{ route := 0, port := .a, left := 5, reason := .conflict, eligible := true }] })) 0).map (·.requester) =
        some (.port .a) ∧
    (instAt (after .demoSetRoute (running.withIl { running.il with districts := List.replicate 8 { holder := none, demoOk := false } }
      |>.withDemo { running.demo with run := some (runOf .fresh) })) 0).map (·.requester) = some .demo ∧
    (after .demoCancelRoute ((withInst { instOf .occupied with requester := .demo } running).withDemo
      { running.demo with cancel := [0] })).demo.cancel = [] := by
  decide +kernel

/-- R85 to R90, R99. -/
theorem test_trains :
    (trainAt (after (.placeTrain .a) (asked (.placeTrain 5 1 0) running)) 5).map (fun r => (r.state, r.list)) =
      some (.placed, [1]) ∧
    (trainAt (after (.takeTrain .a) (asked (.takeTrain 5) running)) 5).map (·.driver) = some (some (.port .a)) ∧
    (trainAt (after (.giveTrain .a) (asked (.giveTrain 5) driven)) 5).map (fun r => (r.driver, r.throttle)) =
      some (none, 0) ∧
    (trainAt (after (.removeTrain .a) (asked (.removeTrain 5) driven)) 5).map (·.state) = some .absent ∧
    (trainAt (after (.restoreTrain .a) (asked (.restoreTrain 5)
      (updateTrain driven 5 (fun r => { r with state := .disrupted, cause := some .parted })))) 5).map (·.state) =
      some .placed ∧
    (trainAt (after (.throttle .a 7#8 5 64 1) driven) 5).map (fun r => (r.throttle, r.pendRev)) = some (64, true) := by
  decide +kernel

/-- R102 to R114: the demand is 600 of 600, the line limit 400, and the output rises by 10 in a period. -/
theorem test_supervision :
    ((trainAt (after (.supervisionExpiry 5) driven) 5).bind (·.sup)).map (fun u => (u.demanded, u.output, u.timer)) =
      some (600, 10, 50) := by
  decide +kernel

/-- R33, R40, R85, R89, R123, R125, R50: a check of the rule that fails gives its own reason, whatever the code (value 9
names nothing in any of the six). -/
theorem test_checks_before_codes :
    told (after (.movePoint .a) (asked (.movePoint 1 9) running)) = tagged (.refused .unknownItem .none) ∧
    told (after (.setDistrictFlags .a) (asked (.setDistrictFlags 1 9) running)) = tagged (.refused .notHolder .none) ∧
    told (after (.placeTrain .a) (asked (.placeTrain 6 1 9) running)) = tagged (.refused .unknownItem .none) ∧
    told (after (.throttle .a 7#8 5 0 9) running) = tagged (.refused .notDriver .none) ∧
    told (after (.turnDeck .a) (asked (.turnDeck 12 9) running)) = tagged (.refused .unknownItem .none) ∧
    told (after (.setRoute .a) (asked (.setRoute 191 9) running)) = tagged (.refused .unknownItem .none) := by
  decide +kernel

/-- R122 to R128: from road 2 to road 5 is 3 steps clockwise: 2 × (3 × 1500 + 2000) ms. -/
theorem test_turn_deck :
    (after (.turnDeck .a) (asked (.turnDeck 5 2) running)).ring.queue = [.deckTurn 5 .cw] ∧
    (after (.turnDeck .a) (asked (.turnDeck 5 2) running)).deck.map (fun d => (d.pos, d.timer)) =
      some (.moving 2 5 .cw, some 13000) ∧
    told (after (.turnDeck .a) (asked (.turnDeck 8 1) turning)) = tagged .latched ∧
    (after .deckMoveTimeout turning).deck.map (·.pos) = some .unproven := by
  decide +kernel

/-- R140 to R147. -/
theorem test_demonstrations :
    (after (.passDemo .a) (asked (.passDemo 0) (running.withDemo { running.demo with queue := [entryOf false] }))).demo.queue.map
      (·.accepted) = [true] ∧
    (after (.vetoDemo .a) (asked (.vetoDemo 0) (running.withDemo { running.demo with queue := [entryOf false] }))).demo.queue = [] ∧
    (after (.screeningTimeout 0) (running.withDemo { running.demo with queue := [entryOf false] })).demo.queue.map
      (·.accepted) = [true] ∧
    (after .admissionTimeout (running.withDemo { running.demo with queue := [entryOf true] })).demo.queue = [] ∧
    (after .runLimitExpiry (running.withDemo { running.demo with run := some (runOf .fresh) })).demo.run = none := by
  decide +kernel

/-- R150 to R152, R162: the bytes of the poll of address 5 are those of the worked example of R186. -/
theorem test_ring :
    (after .poll (running.withRing { running.ring with underWay := true, todo := [5] })).ring.line = [0x05#8, 0x01#8, 0x46#8] ∧
    (moduleAt (after (.goodAnswer (ringFrame 0 2 [2#8])) (polled 0)) 0).data = some [2#8] ∧
    (secAt (after (.goodAnswer (ringFrame 0 2 [2#8])) (polled 0)) 2).map (·.occ) = some .occupied ∧
    (moduleAt (after (.miss []) (polled 0)) 0).misses = 1 ∧
    (after .ringCommandSent (running.withRing { running.ring with queue := [.power true] })).ring.line.take 3 =
      [3#8, 0x15#8, 1#8] := by
  decide +kernel

/-- R154 to R157. -/
theorem test_sweeps :
    (after .sweepTimerExpiry running).ring.todo = [0, 1, 2, 3, 4, 5] ∧
    (after .sweepTimerExpiry (polled 0)).ring.postponed = true ∧
    (after .postponedPartialSweep (running.withRing { running.ring with postponed := true })).ring.underWay = true ∧
    told (after (.setSweepMode .a) (asked (.setSweepMode 2 39) running)) = tagged (.done [2#8, 0#8, 40#8]) := by
  decide +kernel

/-- R181, R183. -/
theorem test_counters :
    (after (.selectCounter .a) (asked (.selectCounter 8 4 15) running)).counters.sel[0]? =
      some { event := .interventions, qual := .district 7 } ∧
    told (after (.decrementCounter .a) (asked (.decrementCounter 0 5) running)) = tagged (.done [0#8, 0#8, 0#8, 0#8]) := by
  decide +kernel

/-- The read requests on the small layout: R9, R19, R42, R65, R100, R119, R134, R148, R163, R178, R182. -/
theorem test_reads :
    told (after (.readDescription .a 7#8 4 0) running) = tagged (.done [1#8, 0#8]) ∧
    told (after (.readMode .a 7#8) running) = tagged (.done [2#8, 255#8, 255#8, 0#8, 255#8, 255#8, 1#8]) ∧
    told (after (.readSection .a 7#8 1) driven) = tagged (.done [1#8, 5#8, 255#8, 255#8, 255#8, 0#8]) ∧
    told (after (.readPoint .a 7#8 0) running) = tagged (.done [1#8, 1#8, 0#8, 0#8, 0#8, 0#8]) ∧
    told (after (.readSignal .a 7#8 2) running) = tagged (.refused .unknownItem .none) ∧
    told (after (.readInstance .a 7#8 31) running) = tagged (.done [0#8]) ∧
    told (after (.readTrain .a 7#8 6) running) = tagged (.refused .unknownItem .none) ∧
    told (after (.readSupervision .a 7#8 6) running) = tagged (.refused .unknownItem .none) ∧
    told (after (.readModule .a 7#8 4) running) = tagged (.done [5#8, 1#8, 0#8, 1#8, 2#8, 1#8]) ∧
    told (after (.readPort .a 7#8 4) running) = tagged (.refused .unknownItem .none) := by
  decide +kernel

/-- R42, R182: the eight districts' holders and flags; a READ of more than 58 bytes is answered in parts (R185). -/
theorem test_long_reads :
    ((told (after (.readDistricts .a 7#8) running)).map (fun r => match r.answer with | .done l => l.length | _ => 0)) = some 16 ∧
    (portAt (after (.readCounters .a 7#8) running) .a).responses.length = 2 ∧
    (portAt (after (.readRouteEngine .a 7#8) running) .a).responses.length = 1 ∧
    (portAt (after (.readDeck .a 7#8) running) .a).responses.length = 1 ∧
    (portAt (after (.readDemo .a 7#8) running) .a).responses.length = 1 ∧
    (portAt (after (.readRing .a 7#8) running) .a).responses.length = 1 := by
  decide +kernel

/-! ### Witnesses: for every obligation with hypotheses, a state and operands that meet them -/

/-- What `asked` puts at the head of the queue stands there, with a free place in the list. -/
theorem asked_heads (r : Request) (s : State) (h : hasPlace s .a = true) : Heads (asked r s) .a 7#8 r := ⟨rfl, h⟩

theorem witness_EmptyQueueLetsOneMillisecondPass : running.pending = [] := rfl

/-- R142, R146: of the timers that fire in one tick those of the demonstrations come first, so that no expiry of the same tick
ends a run or admits an entry before they are taken (log entry 2). -/
theorem test_expiries_of_one_tick :
    (tick ((turning.withDeck (turning.deck.map (fun d => { d with timer := some 1 }))).withDemo { running.demo with
      queue := [{ entryOf true with admission := some 1 }, { entryOf false with plan := 1, screening := some 1 }],
      run := some { runOf .fresh with left := 1 } })).pending =
        [.admissionTimeout, .screeningTimeout 1, .runLimitExpiry, .deckMoveTimeout] := by
  decide +kernel

theorem witness_StepKeepsCapacities : Capacities running ∧ step running = .next (tick running) := by
  refine ⟨⟨fun p => ?_, ⟨rfl, rfl, rfl⟩, ?_, ⟨?_, ?_⟩, ?_, ?_⟩, rfl⟩
  · cases p <;> (unfold PortFits; decide +kernel)
  · unfold ListsFit; decide +kernel
  · intro a h; cases h; decide
  · intro x a h; cases h
  · intro k p h
    match k with
    | 0 => cases h; rfl
    | 1 | 2 | 3 | 4 | 5 | 6 | 7 => cases h
    | k + 8 => cases h
  · decide +kernel

theorem witness_AllStopLatchSet :
    running.ctl.allStop = none ∧ running.ctl.estop = false ∧ (portAt running .a).state = .online ∧
    hasPlace running .a = true ∧ halted.ctl.allStop = some .emergency ∧ (portAt halted .a).state = .online ∧
    ((polled 3).ring.window = some 3 ∧ (findItem (polled 3).ring.modules 3).map (·.kind) = some .traction ∧
      (polled 3).ctl.allStop = none ∧ goodFrame 3 .traction (ringFrame 3 2 [3#8]) = true ∧
      payloadOf (ringFrame 3 2 [3#8]) = [3#8] ∧ (3#8).getLsbD 1 = true) ∧
    (goodFrame 3 .traction [] = false ∧
      (findItem (updateModule (polled 3) 3 (fun m => { m with misses := 2 })).ring.modules 3).map (fun m =>
        (m.state, m.misses)) = some (.active, 2)) := by
  decide +kernel

theorem witness_ResumeClearsTheLatch :
    ((portAt running .a).state = .online ∧ hasPlace running .a = true ∧ running.ctl.allStop = none) ∧
    ((portAt halted .a).state = .online ∧ hasPlace halted .a = true ∧ halted.ctl.allStop.isSome = true ∧
      halted.ctl.estop = false ∧ tractionActive halted = true ∧ tractionOverload halted = false) ∧
    (after .emergencyStopAsserted running).ctl.estop = true := by
  decide +kernel

/-- The all-stop latch set and a deck move of port A latched: to road 5 of the deck that stands at 2. -/
def latched : State := halted.withDeck (running.deck.map (fun d => { d with
  latch := some { road := 5, sense := .short, port := .a } }))

/-- R131: the latched move is there at RESUME, and it starts. -/
theorem witness_ResumeClearsTheLatch_latched :
    ((portAt latched .a).state = .online ∧ hasPlace latched .a = true ∧ latched.ctl.allStop.isSome = true ∧
      latched.ctl.estop = false ∧ tractionActive latched = true ∧ tractionOverload latched = false) ∧
    (latched.deck.bind (·.latch)).isSome = true ∧ (latched.deck.map (·.pos)) = some (.aligned 2) ∧
    (desc latched).deck.isSome = true ∧
    (after (.resume .a 7#8) latched).deck.map (·.pos) = some (.moving 2 5 .cw) := by
  decide +kernel

theorem witness_PortSettings : (portAt running .a).state = .online ∧ hasPlace running .a = true := by decide +kernel

theorem witness_ValidFrameBringsOnline :
    (portAt running .b).state = .offline ∧ (portAt (after (.silenceTimeout .a) running) .a).state = .lost ∧
    encodeCommand (.readMode .b 7#8) = some (.b, 0x41, 7#8, []) ∧
    encodeCommand (.setSilence .b 7#8 0) = some (.b, 0x38, 7#8, [0#8, 0#8]) := by
  decide +kernel

theorem witness_IsolatedPortIgnoresFrames :
    (portAt (updatePort running .a (fun q => { q with state := .isolated })) .a).state = .isolated ∧
    encodeCommand (.readMode .a 7#8) = some (.a, 0x41, 7#8, []) := by
  decide +kernel

/-- Port A with a queue of requests. -/
def queued (n : Nat) (hold : Bool) : State :=
  updatePort running .a (fun q => { q with
    queue := List.replicate n { tag := 7#8, req := .wake }, holding := hold, holdTimer := if hold then some 0 else none })

theorem witness_OrderedRequestJoinsTheQueue :
    ((portAt (queued 0 false) .a).state = .online ∧ (portAt (queued 0 false) .a).queue.length < 8) ∧
    ((portAt (queued 5 false) .a).state = .online ∧ (portAt (queued 5 false) .a).queue.length = 5 ∧
      (portAt (queued 5 false) .a).holding = false) ∧
    ((portAt (queued 7 true) .a).state = .online ∧ (portAt (queued 7 true) .a).queue.length < 8) ∧
    ((portAt (queued 8 true) .a).state = .online ∧ 8 ≤ (portAt (queued 8 true) .a).queue.length) := by
  decide +kernel

theorem witness_HeadOfTheQueue :
    (Heads (queued 3 true) .a 7#8 .wake ∧ responsesOf 7#8 (.done []) = [{ tag := 7#8, answer := .done [] }] ∧
      (portAt (queued 3 true) .a).queue.length = 3 ∧ (portAt (queued 3 true) .a).holding = true) ∧
    Heads (queued 1 false) .a 7#8 .wake ∧
    hasPlace (updatePort running .a (fun q => { q with responses := List.replicate 16 { tag := 0#8, answer := .done [] } })) .a =
      false :=
  ⟨⟨⟨rfl, rfl⟩, rfl, rfl, rfl⟩, ⟨rfl, rfl⟩, rfl⟩

/-- Port A with a HOLD frame pending, or a response to send. -/
def sending (hold : Option Nat) : State :=
  updatePort running .a (fun q => { q with pendingHold := hold, responses := [{ tag := 7#8, answer := .queued }] })

theorem witness_FlowControlAndTransmitter :
    ((portAt (queued 3 true) .a).holding = true ∧ (portAt (queued 3 true) .a).holdTimer.isSome = true ∧
      3 ≤ (portAt (queued 3 true) .a).queue.length) ∧
    ((portAt (sending (some 0)) .a).state = .online ∧ (portAt (sending (some 0)) .a).pendingHold = some 0) ∧
    ((portAt (sending none) .a).state = .online ∧ (portAt (sending none) .a).pendingHold = none ∧
      (portAt (sending none) .a).responses = { tag := 7#8, answer := .queued } :: []) := by
  decide +kernel

/-- Port A with `n` records in its notice queue. -/
def noticed (n : Nat) : State :=
  { updatePort running .a (fun q => { q with notices := List.replicate n { entered := 0, notice := .signal 1 .stop } }) with now := 20 }

theorem witness_TransmitNoticeFrame :
    ∃ l, (portAt (noticed 7) .a).state = .online ∧ (portAt (noticed 7) .a).pendingHold = none ∧
      (portAt (noticed 7) .a).responses = [] ∧ (portAt (noticed 7) .a).holdOff = none ∧
      (portAt (noticed 7) .a).notices = { entered := 0, notice := .signal 1 .stop } :: l ∧
      (portAt (noticed 7) .a).trigger ≤ l.length + 1 ∧ 0 + 20 ≤ (noticed 7).now :=
  ⟨List.replicate 6 { entered := 0, notice := .signal 1 .stop }, by decide +kernel⟩

theorem witness_SilenceTimeoutMakesLost :
    (portAt running .a).state = .online ∧ (portAt running .a).silenceTimer.isSome = true := by
  decide +kernel

theorem witness_BreakResetsThePort : (portAt running .a).state = .online ∧ (portAt running .b).state ≠ .online := by
  decide +kernel

/-- What port B holds when port A leaves ONLINE: district 1, train 5 and a retry entry. -/
theorem witness_OthersKeep :
    (districtAt (setDistrict running 1 { holder := some .b, demoOk := false }) 1).holder = some .b ∧
    (itemNumbers driven.trains).Nodup ∧
    (trainAt (updateTrain driven 5 (fun r => { r with driver := some (.port .b) })) 5).map (·.driver) = some (some (.port .b)) ∧
    driven.demo.run = none ∧
    (∃ e ∈ (running.withEngine { running.engine with
      retry := [{ route := 0, port := .b, left := 5, reason := .conflict, eligible := false }] }).engine.retry, e.port ≠ .a) :=
  ⟨rfl, by decide +kernel, by decide +kernel, rfl, _, List.mem_singleton_self _, by decide⟩

theorem witness_MalformedFrameCounts :
    (portAt running .a).state ≠ .isolated ∧ (portAt running .a).assembler = .idle ∧ (portAt running .a).malformed < 7 ∧
    Collecting [⟨0xA5#8, false⟩] ∧ Collecting [⟨0xA5#8, false⟩, ⟨60#8, false⟩] ∧
    MalformedChars .a [⟨0xA5#8, false⟩, ⟨2#8, true⟩] ∧ MalformedChars .a [⟨0xA5#8, false⟩, ⟨61#8, false⟩] ∧
    MalformedChars .a [⟨0xA5#8, false⟩, ⟨2#8, false⟩, ⟨0x11#8, false⟩, ⟨0#8, false⟩] ∧
    7 ≤ (portAt (updatePort running .a (fun q => { q with malformed := 7 })) .a).malformed := by
  have one : Collecting [⟨0xA5#8, false⟩] := ⟨by decide, .inl rfl⟩
  refine ⟨by decide +kernel, rfl, by decide +kernel, one, ⟨by decide, .inr ⟨60#8, [], rfl, by decide, by decide, by decide⟩⟩,
    ⟨[⟨0xA5#8, false⟩], ⟨2#8, true⟩, rfl, one, .inl rfl⟩,
    ⟨[⟨0xA5#8, false⟩], ⟨61#8, false⟩, rfl, one, .inr (.inl ⟨rfl, by decide⟩)⟩,
    ⟨[⟨0xA5#8, false⟩, ⟨2#8, false⟩, ⟨0x11#8, false⟩], ⟨0#8, false⟩, rfl,
      ⟨by decide, .inr ⟨2#8, [0x11#8], rfl, by decide, by decide, by decide⟩⟩,
      .inr (.inr ⟨2#8, [0x11#8], rfl, rfl, by decide⟩)⟩, by decide +kernel⟩

/-- Every LOAD clause asks for CONFIG, a session of the sender and its request at the head. -/
theorem witness_loads (r : Request) (d : Desc) :
    (asked r (editing d)).ctl.mode = .config ∧ (asked r (editing d)).store.session = some { port := .a, working := d } ∧
    Heads (asked r (editing d)) .a 7#8 r := ⟨rfl, rfl, rfl, rfl⟩

theorem witness_LoadsOfFixedEntries :
    Heads (asked (.loadSection 255 0 20000 1023 7 63 7 127 65535 1) (editing yard)) .a 7#8
      (.loadSection 255 0 20000 1023 7 63 7 127 65535 1) ∧
    Heads (asked (.loadPoint 127 0 63 3 255 7) (editing yard)) .a 7#8 (.loadPoint 127 0 63 3 255 7) ∧
    (Heads (asked (.loadSignal 127 0 255 1 2 63 7 7) (editing yard)) .a 7#8 (.loadSignal 127 0 255 1 2 63 7 7) ∧
      dirOfCode 1 = some .down ∧ kindOfCode 2 = some .deck) ∧
    Heads (asked (.loadTrain 47 0 9999 1023 2000 2000) (editing yard)) .a 7#8 (.loadTrain 47 0 9999 1023 2000 2000) ∧
    Heads (asked (.loadSection 255 1 0 0 0 0 0 0 0 0) (editing yard)) .a 7#8 (.loadSection 255 1 0 0 0 0 0 0 0 0) ∧
    Heads (asked (.loadPoint 127 1 0 0 0 0) (editing yard)) .a 7#8 (.loadPoint 127 1 0 0 0 0) ∧
    Heads (asked (.loadSignal 127 1 0 0 0 0 0 0) (editing yard)) .a 7#8 (.loadSignal 127 1 0 0 0 0 0 0) ∧
    Heads (asked (.loadTrain 47 1 0 0 0 0) (editing yard)) .a 7#8 (.loadTrain 47 1 0 0 0 0) :=
  ⟨⟨rfl, rfl⟩, ⟨rfl, rfl⟩, ⟨⟨rfl, rfl⟩, rfl, rfl⟩, ⟨rfl, rfl⟩, ⟨rfl, rfl⟩, ⟨rfl, rfl⟩, ⟨rfl, rfl⟩, ⟨rfl, rfl⟩⟩

/-- The refusals: the numbers just beyond their tables, and one field beyond its range. -/
theorem witness_LoadsOfFixedEntries_refused :
    Heads (asked (.loadSection 256 0 50 0 0 0 0 0 0 0) (editing yard)) .a 7#8 (.loadSection 256 0 50 0 0 0 0 0 0 0) ∧
    Heads (asked (.loadSection 255 0 20001 0 0 0 0 0 0 0) (editing yard)) .a 7#8 (.loadSection 255 0 20001 0 0 0 0 0 0 0) ∧
    Heads (asked (.loadPoint 128 0 0 0 0 0) (editing yard)) .a 7#8 (.loadPoint 128 0 0 0 0 0) ∧
    Heads (asked (.loadPoint 127 2 0 0 0 0) (editing yard)) .a 7#8 (.loadPoint 127 2 0 0 0 0) ∧
    Heads (asked (.loadSignal 128 0 0 0 0 0 0 0) (editing yard)) .a 7#8 (.loadSignal 128 0 0 0 0 0 0 0) ∧
    Heads (asked (.loadSignal 127 0 0 2 0 0 0 0) (editing yard)) .a 7#8 (.loadSignal 127 0 0 2 0 0 0 0) ∧
    Heads (asked (.loadTrain 48 0 1 50 10 10) (editing yard)) .a 7#8 (.loadTrain 48 0 1 50 10 10) ∧
    Heads (asked (.loadTrain 47 0 1 50 10 2001) (editing yard)) .a 7#8 (.loadTrain 47 0 1 50 10 2001) :=
  ⟨⟨rfl, rfl⟩, ⟨rfl, rfl⟩, ⟨rfl, rfl⟩, ⟨rfl, rfl⟩, ⟨rfl, rfl⟩, ⟨rfl, rfl⟩, ⟨rfl, rfl⟩, ⟨rfl, rfl⟩⟩

theorem witness_LoadsOfRoutesAndPlans :
    (Heads (asked (.loadRoute 191 0 127 65535 1 [(255, 1)] [255] [255] 23 1) (editing yard)) .a 7#8
      (.loadRoute 191 0 127 65535 1 [(255, 1)] [255] [255] 23 1) ∧ classOfCode 1 = some .shunt) ∧
    (Heads (asked (.loadRoutePoints 0 [(127, 1, 11)] [(127, 1)]) (editing yard)) .a 7#8
      (.loadRoutePoints 0 [(127, 1, 11)] [(127, 1)]) ∧ (findItem yard.routes 0).isSome = true) ∧
    (Heads (asked (.loadRoutePoints 191 [] []) (editing yard)) .a 7#8 (.loadRoutePoints 191 [] []) ∧
      findItem yard.routes 191 = none) ∧
    Heads (asked (.loadPlan 15 0 47 255 [191] 255 63 7) (editing yard)) .a 7#8 (.loadPlan 15 0 47 255 [191] 255 63 7) ∧
    Heads (asked (.loadRoute 191 1 0 0 0 [] [] [] 0 0) (editing yard)) .a 7#8 (.loadRoute 191 1 0 0 0 [] [] [] 0 0) ∧
    Heads (asked (.loadPlan 15 1 0 0 [] 0 0 0) (editing yard)) .a 7#8 (.loadPlan 15 1 0 0 [] 0 0 0) :=
  ⟨⟨⟨rfl, rfl⟩, rfl⟩, ⟨⟨rfl, rfl⟩, rfl⟩, ⟨⟨rfl, rfl⟩, rfl⟩, ⟨rfl, rfl⟩, ⟨rfl, rfl⟩, ⟨rfl, rfl⟩⟩

/-- The refusals: the numbers just beyond their tables, lists one entry too long, and counts that do not fit. -/
theorem witness_LoadsOfRoutesAndPlans_refused :
    Heads (asked (.loadRoute 192 0 0 0 0 [] [] [] 0 0) (editing yard)) .a 7#8 (.loadRoute 192 0 0 0 0 [] [] [] 0 0) ∧
    Heads (asked (.loadRoute 191 0 0 0 0 [] [0, 1, 2] [] 0 0) (editing yard)) .a 7#8
      (.loadRoute 191 0 0 0 0 [] [0, 1, 2] [] 0 0) ∧
    Heads (asked (.loadRoutePoints 192 [] []) (editing yard)) .a 7#8 (.loadRoutePoints 192 [] []) ∧
    Heads (asked (.loadRoutePoints 0 [(0, 0, 12)] []) (editing yard)) .a 7#8 (.loadRoutePoints 0 [(0, 0, 12)] []) ∧
    Heads (asked (.loadPlan 16 0 0 0 [] 1 0 0) (editing yard)) .a 7#8 (.loadPlan 16 0 0 0 [] 1 0 0) ∧
    Heads (asked (.loadPlan 15 0 0 0 [] 0 0 0) (editing yard)) .a 7#8 (.loadPlan 15 0 0 0 [] 0 0 0) ∧
    Heads (asked (.loadMisfit .route 191) (editing yard)) .a 7#8 (.loadMisfit .route 191) ∧
    Heads (asked (.loadMisfit .routePoints 191) (editing yard)) .a 7#8 (.loadMisfit .routePoints 191) ∧
    Heads (asked (.loadMisfit .plan 15) (editing yard)) .a 7#8 (.loadMisfit .plan 15) :=
  ⟨⟨rfl, rfl⟩, ⟨rfl, rfl⟩, ⟨rfl, rfl⟩, ⟨rfl, rfl⟩, ⟨rfl, rfl⟩, ⟨rfl, rfl⟩, ⟨rfl, rfl⟩, ⟨rfl, rfl⟩, ⟨rfl, rfl⟩⟩

theorem witness_LoadsOfSingleEntries :
    Heads (asked (.loadDistrict 7 255) (editing yard)) .a 7#8 (.loadDistrict 7 255) ∧
    Heads (asked (.loadDeck 0 24 255 63) (editing yard)) .a 7#8 (.loadDeck 0 24 255 63) ∧
    Heads (asked (.loadDeck 1 0 0 0) (editing yard)) .a 7#8 (.loadDeck 1 0 0 0) ∧
    (Heads (asked (.loadDeckRoad 23 0 65535 1) (editing yard)) .a 7#8 (.loadDeckRoad 23 0 65535 1) ∧
      dirOfCode 1 = some .down ∧ yard.deck.isSome = true) ∧
    Heads (asked (.loadTraction 0 63) (editing yard)) .a 7#8 (.loadTraction 0 63) ∧
    Heads (asked (.loadTraction 1 0) (editing yard)) .a 7#8 (.loadTraction 1 0) ∧
    Heads (asked (.loadPortRoles 255 1 1 1 1) (editing yard)) .a 7#8 (.loadPortRoles 255 1 1 1 1) :=
  ⟨⟨rfl, rfl⟩, ⟨rfl, rfl⟩, ⟨rfl, rfl⟩, ⟨⟨rfl, rfl⟩, rfl, rfl⟩, ⟨rfl, rfl⟩, ⟨rfl, rfl⟩, ⟨rfl, rfl⟩⟩

/-- The refusals: a district and a road just beyond their numbers, a field beyond its range, and no deck. -/
theorem witness_LoadsOfSingleEntries_refused :
    Heads (asked (.loadDistrict 8 0) (editing yard)) .a 7#8 (.loadDistrict 8 0) ∧
    Heads (asked (.loadDistrict 7 256) (editing yard)) .a 7#8 (.loadDistrict 7 256) ∧
    Heads (asked (.loadDeck 0 12 256 0) (editing yard)) .a 7#8 (.loadDeck 0 12 256 0) ∧
    Heads (asked (.loadDeckRoad 24 0 0 0) (editing yard)) .a 7#8 (.loadDeckRoad 24 0 0 0) ∧
    Heads (asked (.loadDeckRoad 23 0 256 0) (editing yard)) .a 7#8 (.loadDeckRoad 23 0 256 0) ∧
    (Heads (asked (.loadDeckRoad 23 1 0 0) (editing yard)) .a 7#8 (.loadDeckRoad 23 1 0 0) ∧ yard.deck.isSome = true) ∧
    (Heads (asked (.loadDeckRoad 23 0 0 0) (editing Desc.blank)) .a 7#8 (.loadDeckRoad 23 0 0 0) ∧ Desc.blank.deck = none) ∧
    Heads (asked (.loadTraction 0 64) (editing yard)) .a 7#8 (.loadTraction 0 64) ∧
    Heads (asked (.loadPortRoles 4 0 0 0 0) (editing yard)) .a 7#8 (.loadPortRoles 4 0 0 0 0) :=
  ⟨⟨rfl, rfl⟩, ⟨rfl, rfl⟩, ⟨rfl, rfl⟩, ⟨rfl, rfl⟩, ⟨rfl, rfl⟩, ⟨⟨rfl, rfl⟩, rfl⟩, ⟨⟨rfl, rfl⟩, rfl⟩, ⟨rfl, rfl⟩, ⟨rfl, rfl⟩⟩

theorem witness_LoadParameterStoresTheNearestLimit :
    Heads (asked (.loadParameter 0 39) (editing yard)) .a 7#8 (.loadParameter 0 39) ∧
    Heads (asked (.loadParameter 14 65535) (editing yard)) .a 7#8 (.loadParameter 14 65535) ∧
    Heads (asked (.loadParameter 15 0) (editing yard)) .a 7#8 (.loadParameter 15 0) ∧
    (asked (.loadParameter 15 0) (editing yard)).ctl.mode = .config :=
  ⟨⟨rfl, rfl⟩, ⟨rfl, rfl⟩, ⟨rfl, rfl⟩, rfl⟩

theorem witness_ConfigurationRequestsAreGuarded :
    (Heads (asked .commitConfig running) .a 7#8 .commitConfig ∧ (asked .commitConfig running).ctl.mode ≠ .config) ∧
    (Heads (asked (.loadDistrict 0 0) State.reset) .a 7#8 (.loadDistrict 0 0) ∧
      (asked (.loadDistrict 0 0) State.reset).ctl.mode = .config ∧
      ∀ x, (asked (.loadDistrict 0 0) State.reset).store.session = some x → x.port ≠ .a) :=
  ⟨⟨⟨rfl, rfl⟩, by decide +kernel⟩, ⟨rfl, rfl⟩, rfl, fun _ h => by cases h⟩

theorem witness_CommitOfASoundDescription :
    Heads (asked .commitConfig (editing { Desc.blank with traction := some 3, trains := yard.trains })) .a 7#8 .commitConfig ∧
    validate { Desc.blank with traction := some 3, trains := yard.trains } = none ∧
    StoreFits (asked .commitConfig (editing { Desc.blank with traction := some 3, trains := yard.trains })) := by
  refine ⟨⟨rfl, rfl⟩, by decide +kernel, ⟨fun a h => ?_, fun x a h g => ?_⟩⟩
  · cases h
  · cases h
    cases g
    decide

/-- CONFIG with train 5 standing on the yard, and a working description. -/
def standing (d : Desc) : State :=
  { driven with
    ctl := State.reset.ctl, il := { driven.il with instances := [] },
    store := { committed := yard, session := some { port := .a, working := d } } }

theorem witness_CommitOfASoundDescription_trains :
    (Heads (asked .commitConfig (standing yard)) .a 7#8 .commitConfig ∧ (standing yard).ctl.mode = .config ∧
      validate yard = none ∧ StoreFits (asked .commitConfig (standing yard))) ∧
    (∃ r, trainAt (standing yard) 5 = some r ∧ r.state ≠ .absent ∧ r.list = [1] ∧ r.sup.isSome = true) ∧
    findItem yard.trains 5 = findItem (standing yard).store.committed.trains 5 ∧
    (trainAt running 5).map (·.state) = some .absent ∧
    (SecUses yard 0 ∧ SignalUses yard 1 ∧ PointUses yard 2 ∧ yard.traction = some 3 ∧ DeckUses yard 4 ∧ PlanUses yard 5) :=
  ⟨⟨⟨rfl, rfl⟩, rfl, by decide +kernel, ⟨fun a h => by cases h; decide, fun x a h g => by cases h; cases g; decide⟩⟩,
    ⟨_, rfl, by decide, rfl, rfl⟩, rfl, rfl,
    ⟨⟨_, .head _, rfl⟩, ⟨_, .head _, rfl⟩, ⟨_, .head _, rfl⟩, rfl, ⟨_, rfl, rfl⟩, ⟨_, .head _, rfl⟩⟩⟩

/-- R2, R149: each address of the yard has the kind of the entries that name it. -/
theorem test_commit_kinds :
    [0, 1, 2, 3, 4, 5, 6, 64].map (fun a =>
      (moduleAt (after (.commitConfig .a) (asked .commitConfig (standing yard))) a).kind) =
      [.detect, .signal, .point, .traction, .deck, .button, .absent, .absent] := by
  decide +kernel

/-- R7, R84: the train that stands keeps its record, and its section has it as occupant. -/
theorem test_commit_keeps_train :
    (trainAt (after (.commitConfig .a) (asked .commitConfig (standing yard))) 5).map (fun r => (r.state, r.list, r.driver)) =
      some (.placed, [1], none) ∧
    (secAt (after (.commitConfig .a) (asked .commitConfig (standing yard))) 1).map (·.occupant) = some (.train 5) := by
  decide +kernel

theorem witness_SessionOpensAndCloses :
    (Heads (asked .beginConfig State.reset) .a 7#8 .beginConfig ∧ (asked .beginConfig State.reset).ctl.mode = .config ∧
      (asked .beginConfig State.reset).store.session = none) ∧
    (Heads (asked .beginConfig (editing yard)) .a 7#8 .beginConfig ∧
      (asked .beginConfig (editing yard)).store.session.isSome = true) ∧
    (Heads (asked .commitConfig (editing { Desc.blank with trains := yard.trains })) .a 7#8 .commitConfig ∧
      validate { Desc.blank with trains := yard.trains } = some (.noTraction, .traction, 65535)) ∧
    Heads (asked .abandonConfig (editing yard)) .a 7#8 .abandonConfig :=
  ⟨⟨⟨rfl, rfl⟩, rfl, rfl⟩, ⟨⟨rfl, rfl⟩, rfl⟩, ⟨⟨rfl, rfl⟩, by decide +kernel⟩, ⟨rfl, rfl⟩⟩

/-- R6, Table 1-8: the first fault of the walk, one for each kind. -/
theorem test_walk :
    validate { yard with points := [(0, { addr := 2, output := 0, sec := 200, district := 0 })] } =
      some (.refMissing, .point, 0) ∧
    validate { yard with sections := yard.sections ++ [(9, plain 0 false)] } = some (.dupModuleInput, .sec, 9) ∧
    validate { yard with deck := none } = some (.deckShape, .sec, 3) ∧
    validate { yard with routes := [(0, { mainRoute with sections := [] })] } = some (.routeShape, .route, 0) ∧
    validate { yard with plans := [(0, { train := 5, start := 2, routes := [0], throttle := 1, addr := 5, input := 0 })] } =
      some (.planShape, .plan, 0) ∧
    validate { yard with traction := none } = some (.noTraction, .traction, 65535) ∧ validate yard = none := by
  decide +kernel

theorem witness_RestMarksItselfPending :
    (Heads (asked .rest running) .a 7#8 .rest ∧ (asked .rest running).ctl.mode = .inService ∧
      (asked .rest running).ctl.pendingRest = none ∧ (asked .rest running).il.instances = [] ∧
      (∀ e ∈ (asked .rest running).trains, ∀ u, e.2.sup = some u → u.output = 0) ∧
      deckMoving (asked .rest running) = false ∧ (asked .rest running).demo.run = none) ∧
    (Heads (asked .rest (running.withCtl { running.ctl with pendingRest := some .b })) .a 7#8 .rest) ∧
    (Heads (asked .rest turning) .a 7#8 .rest ∧ deckMoving (asked .rest turning) = true) := by
  refine ⟨⟨⟨rfl, rfl⟩, rfl, rfl, rfl, ?_, rfl, rfl⟩, ⟨rfl, rfl⟩, ⟨rfl, rfl⟩, rfl⟩
  intro e he u hu
  simp only [asked, running, updatePort, setPort, State.withPorts, List.mem_singleton] at he
  subst he
  cases hu

/-- The yard in another mode. -/
def inModeOf (m : Mode) : State := running.withCtl { running.ctl with mode := m }

theorem witness_WakeEntersWaking :
    Heads (asked .wake (inModeOf .rest)) .a 7#8 .wake ∧ (asked .wake (inModeOf .rest)).ctl.mode = .rest ∧
    (asked .wake (inModeOf .rest)).ring.modules ≠ [] :=
  ⟨⟨rfl, rfl⟩, rfl, by decide +kernel⟩

theorem witness_ReconfigureEntersConfig :
    (Heads (asked .reconfigure running) .a 7#8 .reconfigure ∧ (asked .reconfigure running).ctl.mode = .inService ∧
      (asked .reconfigure running).il.instances = [] ∧ (∀ e ∈ (asked .reconfigure running).trains, e.2.driver = none) ∧
      (asked .reconfigure running).demo.queue = [] ∧ (asked .reconfigure running).demo.run = none ∧
      deckMoving (asked .reconfigure running) = false) ∧
    (Heads (asked .reconfigure turning) .a 7#8 .reconfigure ∧ deckMoving (asked .reconfigure turning) = true) :=
  ⟨⟨⟨rfl, rfl⟩, rfl, rfl, by decide +kernel, rfl, rfl, rfl⟩, ⟨rfl, rfl⟩, rfl⟩

theorem witness_WrongModeHasNoOtherEffect :
    (Heads (asked .beginConfig running) .a 7#8 .beginConfig ∧ (asked .beginConfig running).ctl.mode ≠ .config) ∧
    (Heads (asked .rest (inModeOf .waking)) .a 7#8 .rest ∧ (asked .rest (inModeOf .waking)).ctl.mode ≠ .inService) ∧
    (Heads (asked .wake running) .a 7#8 .wake ∧ (asked .wake running).ctl.mode ≠ .rest) ∧
    (Heads (asked .reconfigure (inModeOf .waking)) .a 7#8 .reconfigure ∧
      (asked .reconfigure (inModeOf .waking)).ctl.mode = .waking) ∧
    (∀ r, Heads (asked r (inModeOf .rest)) .a 7#8 r ∧ (asked r (inModeOf .rest)).ctl.mode = .rest) ∧
    (∀ r, Heads (asked r (inModeOf .config)) .a 7#8 r ∧ (asked r (inModeOf .config)).ctl.mode = .config) :=
  ⟨⟨⟨rfl, rfl⟩, by decide +kernel⟩, ⟨⟨rfl, rfl⟩, by decide +kernel⟩, ⟨⟨rfl, rfl⟩, by decide +kernel⟩, ⟨⟨rfl, rfl⟩, rfl⟩,
    fun _ => ⟨⟨rfl, rfl⟩, rfl⟩, fun _ => ⟨⟨rfl, rfl⟩, rfl⟩⟩

theorem witness_TakeDistrict :
    Heads (asked (.takeDistrict 8) running) .a 7#8 (.takeDistrict 8) ∧
    (Heads (asked (.takeDistrict 7) running) .a 7#8 (.takeDistrict 7) ∧
      (districtAt (asked (.takeDistrict 7) running) 7).holder = none) ∧
    (Heads (asked (.takeDistrict 0) running) .a 7#8 (.takeDistrict 0) ∧
      (districtAt (asked (.takeDistrict 0) running) 0).holder = some .a) ∧
    (Heads (asked (.takeDistrict 1) (setDistrict running 1 { holder := some .b, demoOk := false })) .a 7#8 (.takeDistrict 1) ∧
      (districtAt (asked (.takeDistrict 1) (setDistrict running 1 { holder := some .b, demoOk := false })) 1).holder = some .b) :=
  ⟨⟨rfl, rfl⟩, ⟨⟨rfl, rfl⟩, rfl⟩, ⟨⟨rfl, rfl⟩, rfl⟩, ⟨⟨rfl, rfl⟩, rfl⟩⟩

theorem witness_GiveDistrictAndFlags :
    (∀ k, Heads (asked (.giveDistrict k) running) .a 7#8 (.giveDistrict k) ∧
      ∀ v, Heads (asked (.setDistrictFlags k v) running) .a 7#8 (.setDistrictFlags k v)) ∧
    (districtAt (asked (.giveDistrict 0) running) 0).holder = some .a ∧
    (districtAt (asked (.giveDistrict 7) running) 7).holder ≠ some .a :=
  ⟨fun _ => ⟨⟨rfl, rfl⟩, fun _ => ⟨rfl, rfl⟩⟩, rfl, by decide +kernel⟩

/-- The yard with point 0 in a state. -/
def pointIs (st : PtState) : State := running.withIl { running.il with points := [(0, st)] }

/-- Point 0 REVERSE and unlocked. -/
def reverse : PtState := { reported := .reverse, commanded := some .reverse, locks := 0, lockedPos := .normal, timer := none }

theorem witness_MovePoint :
    (∀ s, s ∈ [running, pointIs { reverse with locks := 1 }, pointIs { reverse with reported := .moving, commanded := some .normal },
        updateSec running 2 (fun x => { x with occ := .occupied }), updateModule running 2 (fun m => { m with state := .failed })] →
      Heads (asked (.movePoint 0 0) s) .a 7#8 (.movePoint 0 0) ∧ (asked (.movePoint 0 0) s).ctl.mode = .inService ∧
      holds (asked (.movePoint 0 0) s) .a (some 0) = true) ∧
    posOfCode 0 = some .normal ∧ findItem (desc running).points 1 = none ∧ (findItem (desc running).points 0).isSome = true ∧
    secAt running 2 = some clearSec ∧ moduleActive running 2 = true ∧
    moduleActive (updateModule running 2 (fun m => { m with state := .failed })) 2 = false ∧
    holds running .b (some 0) = false ∧ posOfCode 1 = some .reverse ∧ posOfCode 2 = none ∧ running.ring.queue.length ≤ 32 ∧
    running.il.instances = [] ∧ ∀ x, Heads (asked (.movePoint 0 x) running) .a 7#8 (.movePoint 0 x) := by
  refine ⟨fun s hs => ?_, by decide +kernel, by decide +kernel, by decide +kernel, by decide +kernel, by decide +kernel,
    by decide +kernel, by decide +kernel, rfl, rfl, by decide, rfl, fun _ => ⟨rfl, rfl⟩⟩
  simp only [List.mem_cons, List.not_mem_nil, or_false] at hs
  obtain rfl | rfl | rfl | rfl | rfl := hs <;> exact ⟨⟨rfl, rfl⟩, rfl, rfl⟩

/-- Route 0 in SETTING, its point still MOVING. -/
def awaiting : State :=
  updatePt (withInst (instOf .setting) running) 0 (fun x => { x with reported := .moving, timer := some 0 })

theorem witness_PointMoveTimeout :
    ptAt (pointIs { reverse with reported := .moving, timer := some 0 }) 0 =
      some { reverse with reported := .moving, timer := some 0 } ∧
    (pointIs { reverse with reported := .moving, timer := some 0 }).il.instances = [] ∧
    ((ptAt awaiting 0).map (·.timer) = some (some 0) ∧ instAt awaiting 0 = some (instOf .setting) ∧
      (∃ h ∈ (instOf .setting).held, h.point = 0) ∧ itemNumbers awaiting.il.instances = [0]) := by
  decide +kernel

/-- R62, R64: the instance in SETTING that holds the point fails. -/
theorem test_route_fails :
    instAt (after (.pointMoveTimeout 0) awaiting) 0 = none ∧
    (secAt (after (.pointMoveTimeout 0) awaiting) 2).bind (·.lock) = none ∧
    (ptAt (after (.pointMoveTimeout 0) awaiting) 0).map (fun x => (x.reported, x.locks)) = some (.unproven, 0) := by
  decide +kernel

theorem witness_OccupancyFilter :
    secAt running 1 = some clearSec ∧ (secEntry running 1).isSome = true ∧ (findItem running.ring.modules 0).isSome = true ∧
    0 < (moduleAt running 0).clearCounts.length ∧ (secAt driven 1).map (·.occ) = some .occupied ∧
    clearCountOf driven 1 = 0 := by
  decide +kernel

/-- Both parts: a signal computed as proceed, and one whose stored aspect the computation changes. -/
theorem witness_ProceedAspectIsVouchedFor :
    aspectOf (withInst (instOf .set) running) 1 = .caution ∧
    findItem (withInst (instOf .set) running).il.signals 1 = some .stop ∧
    aspectOf running 1 = .stop ∧ findItem running.il.signals 1 = some .stop := by
  decide +kernel

/-- A MAIN signal that is vouched for, by instances of one route without an exit signal. -/
theorem witness_ProceedAspectIsVouchedFor_second :
    Vouched (withInst (instOf .set) running) 1 ∧
    (∃ g, findItem (desc (withInst (instOf .set) running)).signals 1 = some g ∧ g.kind = .main) ∧
    (∀ slot i r, VouchedBy (withInst (instOf .set) running) 1 slot i r → r.exit = none) := by
  refine ⟨⟨0, instOf .set, mainRoute, List.mem_singleton_self _, rfl, rfl, rfl, ⟨_, rfl, rfl⟩, by decide +kernel,
    by decide +kernel, by decide +kernel, fun h => by cases h⟩, ⟨_, rfl, rfl⟩, fun slot i r h => ?_⟩
  obtain ⟨hm, hr, -⟩ := h
  cases List.mem_singleton.mp hm
  cases hr
  rfl

theorem witness_SelectCounter :
    (∀ c ev q, Heads (asked (.selectCounter c ev q) running) .a 7#8 (.selectCounter c ev q)) ∧
    eventOfCode 16 = some .sweepOverrun ∧ eventOfCode 17 = none ∧ qualifierOfCode 15 = some (.district 7) ∧
    qualifierOfCode 7 = none ∧ CountersFit running :=
  ⟨fun _ _ _ => ⟨rfl, rfl⟩, by decide, by decide, by decide, by decide, rfl, rfl, rfl⟩

theorem witness_DecrementCounter :
    (∀ c d, Heads (asked (.decrementCounter c d) running) .a 7#8 (.decrementCounter c d)) ∧
    running.counters.values[11]? = some 0#32 ∧ running.counters.half[11]? = some false ∧
    Takes running.counters .routesSet none none 0 ∧ Takes running.counters .routesSet none none 11 :=
  ⟨fun _ _ => ⟨rfl, rfl⟩, rfl, rfl, .inl rfl, .inr ⟨by decide, _, rfl, rfl, .inl rfl⟩⟩

/-- The counters with another selection of programmable counter 8. -/
def selecting (e : EventKind) (q : Qualifier) : Counters :=
  { running.counters with sel := running.counters.sel.set 0 { event := e, qual := q } }

theorem witness_CountingEvent :
    (running.counters.values[0]? = some 0#32 ∧ running.counters.half[0]? = some false ∧
      running.counters.values[8]? = some 0#32 ∧ running.counters.half[8]? = some false) ∧
    Takes running.counters .routesSet none none 0 ∧ Takes running.counters .routesSet none none 8 ∧
    Takes (selecting .sectionSteps (.port .d)) .sectionSteps (some (.port .d)) none 8 ∧
    Takes (selecting .sectionSteps .demo) .sectionSteps (some .demo) none 8 ∧
    Takes (selecting .sectionSteps (.district 7)) .sectionSteps none (some 7) 8 ∧
    ¬ Takes (selecting .sectionSteps (.port .d)) .sectionSteps none (some 3) 8 ∧
    ¬ Takes running.counters .routesSet none none 7 := by
  refine ⟨⟨rfl, rfl, rfl, rfl⟩, .inl rfl, .inr ⟨by decide, _, rfl, rfl, .inl rfl⟩,
    .inr ⟨by decide, _, rfl, rfl, .inr (.inl ⟨_, rfl, rfl⟩)⟩, .inr ⟨by decide, _, rfl, rfl, .inr (.inr (.inl ⟨rfl, rfl⟩))⟩,
    .inr ⟨by decide, _, rfl, rfl, .inr (.inr (.inr ⟨_, rfl, rfl⟩))⟩, ?_, ?_⟩
  · rintro (h | ⟨-, sel, h, -, hq⟩)
    · cases h
    · cases h
      simp at hq
  · rintro (h | ⟨h, -⟩)
    · cases h
    · omega

/-- R180: counter 8 under each kind of qualifier, met and not met. -/
theorem test_qualifiers :
    (bump (selecting .sectionSteps (.port .d)) .sectionSteps (some (.port .d)) none).1.values[8]? = some 1#32 ∧
    (bump (selecting .sectionSteps (.port .d)) .sectionSteps none (some 3)).1.values[8]? = some 0#32 ∧
    (bump (selecting .sectionSteps .demo) .sectionSteps (some .demo) none).1.values[8]? = some 1#32 ∧
    (bump (selecting .sectionSteps (.district 7)) .sectionSteps none (some 7)).1.values[8]? = some 1#32 ∧
    (bump (selecting .sectionSteps (.district 7)) .sectionSteps none (some 6)).1.values[8]? = some 0#32 := by
  decide

/-- A port with `n` records of signal 1 to `n`, and a lost count. -/
def holdingRecords (n lost : Nat) : Port :=
  { Port.reset with
    state := .online, notices := (List.range n).map (fun k => { entered := 0, notice := .signal k .stop }), lost := lost }

theorem witness_NoticePlacement :
    subscribes { Port.reset with subs := 0#13 } (.signal 5 .clear) = false ∧
    (subscribes (holdingRecords 1 0) (.signal 40 .clear) = true ∧ (holdingRecords 1 0).state = .online) ∧
    ((holdingRecords 2 0).notices = [{ entered := 0, notice := .signal 0 .stop }] ++
      { entered := 0, notice := .signal 1 .stop } :: [] ∧ (coalesceKey (.signal 1 .clear)).isSome = true ∧
      coalesceKey (.signal 1 .stop) = coalesceKey (.signal 1 .clear) ∧
      coalesceKey (.signal 0 .stop) ≠ coalesceKey (.signal 1 .clear)) ∧
    ((∀ x ∈ (holdingRecords 32 255).notices, coalesceKey x.notice ≠ coalesceKey (.signal 40 .clear)) ∧
      32 ≤ (holdingRecords 32 255).notices.length) ∧
    ((holdingRecords 31 1).notices.length = 31 ∧ 0 < (holdingRecords 31 1).lost) ∧
    ((holdingRecords 30 1).notices.length < 31 ∧ 0 < (holdingRecords 30 1).lost) ∧
    ((holdingRecords 31 0).notices.length < 32 ∧ (holdingRecords 31 0).lost = 0) := by
  decide +kernel

theorem witness_ReadsChangeNothingElse : (portAt running .a).state = .online := rfl

theorem witness_ReadAnswers :
    secAt running 0 = none ∧ ptAt running 1 = none ∧ findItem running.il.signals 0 = none ∧ trainAt running 6 = none ∧
    State.reset.deck = none ∧ instAt running 31 = none ∧ secAt running 1 = some clearSec ∧ ptAt running 0 = some reverse ∧
    findItem running.il.signals 1 = some .stop ∧ instAt (withInst (instOf .set) running) 0 = some (instOf .set) ∧
    (findItem (desc running).trains 5).isSome = true ∧ (trainAt running 5).map (·.sup) = some none ∧
    (trainAt driven 5).map (fun r => (r.list.getLast?, (r.sup.map (·.auth)).map (·.map (·.sec)))) = some (some 1, some [1]) ∧
    turning.deck.isSome = true ∧ (desc turning).deck.isSome = true := by
  decide +kernel

/-- Train 5 with a list and an authority, on sections that it occupies. -/
def standsOn (l : List Nat) (auth : List AuthSec) (s : State) : State :=
  updateSup (updateTrain s 5 (fun r => { r with list := l })) 5 (fun u => { u with auth := auth })

/-- Train 5 on sections 1 and 2, its head in 2. -/
def spread : State := updateSec (standsOn [1, 2] [{ sec := 2, route := none }] driven) 2 (fun x => { x with
  occ := .occupied, occupant := .train 5 })

/-- Train 5 after the loss of its head section 2: it stands at the far end of section 1, before its kept list (R97). -/
def fallenBack : State := updateSup (standsOn [1] [{ sec := 2, route := none }] driven) 5 (fun u => { u with offset := 19999 })

/-- Train 5 on section 1 with a kept authority that runs over section 2, which a commit has left described or undescribed. -/
def keptAuthority (sections : Table SectionEntry) : State :=
  let s := standsOn [1] [{ sec := 1, route := none }, { sec := 2, route := some 0 }] driven
  s.withStore { s.store with committed := { yard with sections := sections } }

theorem witness_ReadAnswers_distance :
    (trainAt (keptAuthority yard.sections) 5).map (fun r => (r.list.getLast?, r.sup.map (fun u => u.auth.map (·.sec)))) =
      some (some 1, some [1, 2]) ∧
    (findItem (desc (keptAuthority yard.sections)).sections 2).isSome = true ∧
    (trainAt spread 5).map (fun r => (r.list.getLast?, r.sup.map (fun u => u.auth.map (·.sec)))) = some (some 2, some [2]) ∧
    (trainAt fallenBack 5).map (fun r => (r.list.getLast?, r.sup.map (fun u => (u.auth.map (·.sec), u.offset)))) =
      some (some 1, some ([2], 19999)) ∧
    (findItem (desc fallenBack).sections 2).isSome = true := by
  decide +kernel

/-- R107, R119: 200 twentieths into a head section of 1000 mm, and a section of 1000 mm after it. -/
theorem test_distance_to_end_of_authority :
    reportedDistance (keptAuthority yard.sections) 1 200 [{ sec := 1, route := none }, { sec := 2, route := some 0 }] = 1990 := by
  decide +kernel

/-- R7, R119: a section that counts and is undescribed leaves the distance free (log entry 4). -/
theorem test_distance_free_where_undescribed :
    reportedDistance (keptAuthority [(1, plain 0 false)]) 1 200 [{ sec := 1, route := none }, { sec := 2, route := some 0 }] =
      Config.unstatedDistance 0 := rfl

/-- The description each port reads: with no session, the configuring port's, and another port's. -/
theorem witness_ReadAnswers_descriptions :
    Reads running .a yard ∧ Reads (editing yard) .a yard ∧ Reads (editing yard) .b Desc.blank :=
  ⟨⟨fun _ => rfl, fun _ h => by cases h⟩, ⟨fun h => (by cases h), fun _ h => by cases h; rfl⟩,
    ⟨fun h => (by cases h), fun _ h => by cases h; rfl⟩⟩

/-- R9, R66, R134: the port roles under a port, under the whole set and under no port; a live instance; the turning deck,
whose timer has 13000 ms left; and the mode with the latch set. -/
theorem test_read_contents :
    told (after (.readDescription .a 7#8 9 0) running) = tagged (.done [1#8, 0#8, 0#8]) ∧
    told (after (.readDescription .a 7#8 9 65535) running) = tagged (.done [1#8, 0#8, 0#8, 0#8, 0#8, 0#8]) ∧
    told (after (.readDescription .a 7#8 9 4) running) = tagged (.refused .unknownItem .none) ∧
    readInstance 0 (withInst (instOf .set) running) = .done [1#8, 0#8, 0#8, 1#8, 0#8, 2#8, 2#8, 0#8, 0#8, 4#8, 1#8, 255#8,
      1#8, 0#8, 255#8, 255#8, 255#8, 255#8, 0#8, 255#8, 255#8] ∧
    readSignal 1 (withInst (instOf .set) running) = .done [0#8, 0#8, 0#8] ∧
    (match readDeck turning with | .done l => l.take 16 | _ => []) =
      [1#8, 2#8, 5#8, 0#8, 255#8, 255#8, 0#8, 0#8, 0x32#8, 0xC8#8, 255#8, 255#8, 255#8, 255#8, 2#8, 0#8] ∧
    readMode halted = .done [2#8, 255#8, 255#8, 1#8, 0#8, 255#8, 1#8] := by
  decide +kernel

theorem witness_ArbiterGrants :
    grantOf (asked (.setRoute 0 0) running) = some (.port .a) ∧ grantOf running = none ∧
    batchFlag (running.withStore { running.store with committed := { yard with roles := { yard.roles with batchA := true } } }) .a =
      true ∧ batchFlag running .a = false := by
  decide +kernel

/-- The yard with a retry list. -/
def retrying (l : List Nat) (eligible : Bool) (s : State) : State :=
  s.withEngine { s.engine with
    retry := l.map (fun n => { route := n, port := .a, left := 5, reason := .conflict, eligible := eligible }) }

theorem witness_SetRouteFails :
    (Heads (asked (.setRoute 0 2) running) .a 7#8 (.setRoute 0 2) ∧ (asked (.setRoute 0 2) running).ctl.mode = .inService ∧
      (asked (.setRoute 0 2) running).ctl.pendingRest = none ∧ grantOf (asked (.setRoute 0 2) running) = some (.port .a)) ∧
    (Heads (asked (.setRoute 191 0) running) .a 7#8 (.setRoute 191 0) ∧
      grantOf (asked (.setRoute 191 0) running) = some (.port .a) ∧
      checkRoute (asked (.setRoute 191 0) running) (.port .a) 191 = some (.final .unknownItem)) ∧
    (Heads (asked (.setRoute 0 0) contested) .a 7#8 (.setRoute 0 0) ∧
      checkRoute (asked (.setRoute 0 0) contested) (.port .a) 0 = some (.blocking .conflict)) ∧
    (Heads (asked (.setRoute 0 1) contested) .a 7#8 (.setRoute 0 1) ∧ (asked (.setRoute 0 1) contested).engine.retry = [] ∧
      checkRoute (asked (.setRoute 0 1) contested) (.port .a) 0 = some (.blocking .conflict)) ∧
    (Heads (asked (.setRoute 0 1) (retrying [0] false contested)) .a 7#8 (.setRoute 0 1) ∧
      checkRoute (asked (.setRoute 0 1) (retrying [0] false contested)) (.port .a) 0 = some (.blocking .conflict)) ∧
    (Heads (asked (.setRoute 0 1) (retrying [1, 2, 3, 4, 5, 6, 7, 8] false contested)) .a 7#8 (.setRoute 0 1) ∧
      checkRoute (asked (.setRoute 0 1) (retrying [1, 2, 3, 4, 5, 6, 7, 8] false contested)) (.port .a) 0 =
        some (.blocking .conflict)) :=
  ⟨⟨⟨rfl, rfl⟩, by decide +kernel⟩, ⟨⟨rfl, rfl⟩, by decide +kernel⟩, ⟨⟨rfl, rfl⟩, by decide +kernel⟩, ⟨⟨rfl, rfl⟩, by decide +kernel⟩,
    ⟨⟨rfl, rfl⟩, by decide +kernel⟩, ⟨⟨rfl, rfl⟩, by decide +kernel⟩⟩

/-- The yard with a run of plan 0 whose SET-ROUTE is presented; every district is free, so that the run may ask. -/
def demonstrating (s : State) : State :=
  (s.withIl { s.il with districts := List.replicate 8 { holder := none, demoOk := false } }).withDemo
    { s.demo with run := some (runOf .fresh) }

/-- The same with the route's district held by port A and not DEMO-OK. -/
def refusing (s : State) : State := s.withDemo { s.demo with run := some (runOf .fresh) }

theorem witness_GrantsOfTheRouteEngine :
    (Heads (asked (.setRoute 0 1) running) .a 7#8 (.setRoute 0 1) ∧ (asked (.setRoute 0 1) running).ctl.mode = .inService ∧
      (asked (.setRoute 0 1) running).ctl.pendingRest = none ∧ grantOf (asked (.setRoute 0 1) running) = some (.port .a) ∧
      routeAt (asked (.setRoute 0 1) running) 0 = some mainRoute ∧
      checkRoute (asked (.setRoute 0 1) running) (.port .a) 0 = none) ∧
    (grantOf (retrying [0] true running) = some .g ∧ (oldestEligible (retrying [0] true running)).isSome = true ∧
      checkRoute (retrying [0] true running) (.port .a) 0 = none) ∧
    (grantOf (retrying [0] true contested) = some .g ∧
      checkRoute (retrying [0] true contested) (.port .a) 0 = some (.blocking .conflict)) ∧
    (grantOf (retrying [191] true running) = some .g ∧
      checkRoute (retrying [191] true running) (.port .a) 191 = some (.final .unknownItem)) ∧
    (grantOf (demonstrating running) = some .g ∧ oldestEligible (demonstrating running) = none ∧
      (demonstrating running).demo.run = some (runOf .fresh) ∧
      ((planEntry (demonstrating running) 0).bind (·.routes[0]?)) = some 0 ∧ checkRoute (demonstrating running) .demo 0 = none) ∧
    (grantOf (demonstrating contested) = some .g ∧
      checkRoute (demonstrating contested) .demo 0 = some (.blocking .conflict)) ∧
    (grantOf (refusing running) = some .g ∧ checkRoute (refusing running) .demo 0 = some (.final .notHolder)) :=
  ⟨⟨⟨rfl, rfl⟩, by decide +kernel⟩, by decide +kernel⟩

/-- The yard with an instance of the demonstration that waits for its cancellation. -/
def cancelling (i : Inst) : State :=
  (withInst { i with requester := .demo } running).withDemo { running.demo with cancel := [0] }

theorem witness_CancelRouteAndReleaseTimers :
    (∀ i, i ∈ [instOf .setting, instOf .set, instOf .occupied, instOf .releasing] →
      Heads (asked (.cancelRoute 0) (withInst i running)) .a 7#8 (.cancelRoute 0) ∧
      (asked (.cancelRoute 0) (withInst i running)).ctl.mode = .inService ∧
      grantOf (asked (.cancelRoute 0) (withInst i running)) = some (.port .a) ∧
      liveSlot (asked (.cancelRoute 0) (withInst i running)) 0 = some 0 ∧
      routeAt (asked (.cancelRoute 0) (withInst i running)) 0 = some mainRoute ∧
      instAt (asked (.cancelRoute 0) (withInst i running)) 0 = some i ∧ i.route = 0 ∧
      holds (asked (.cancelRoute 0) (withInst i running)) .a (routeDistrict (asked (.cancelRoute 0) (withInst i running)) 0) = true) ∧
    approachLocked (withInst (instOf .set) running) (instOf .set) = false ∧
    (Heads (asked (.cancelRoute 0) running) .a 7#8 (.cancelRoute 0) ∧
      grantOf (asked (.cancelRoute 0) running) = some (.port .a) ∧ liveSlot (asked (.cancelRoute 0) running) 0 = none) ∧
    (∀ i, i ∈ [instOf .setting, instOf .set, instOf .occupied, instOf .releasing] →
      grantOf (cancelling i) = some .g ∧ oldestEligible (cancelling i) = none ∧ demoSetWaits (cancelling i) = false ∧
      (cancelling i).ctl.mode = .inService ∧ (cancelling i).demo.cancel = 0 :: [] ∧ liveSlot (cancelling i) 0 = some 0 ∧
      instAt (cancelling i) 0 = some { i with requester := .demo }) ∧
    (instAt (withInst { instOf .releasing with origin := some .set, approach := .running 0 } running) 0 =
        some { instOf .releasing with origin := some .set, approach := .running 0 } ∧
      instAt (withInst { instOf .releasing with origin := some .occupied, approach := .running 0 } running) 0 =
        some { instOf .releasing with origin := some .occupied, approach := .running 0 } ∧
      instAt (withInst { instOf .occupied with overlapTimer := .running 0 } running) 0 =
        some { instOf .occupied with overlapTimer := .running 0 } ∧ routeAt running 0 = some mainRoute ∧
      (secAt (withInst { instOf .releasing with origin := some .occupied, approach := .running 0 } driven) 1).map (·.occ) =
        some .occupied ∧ 1 ∉ (instOf .releasing).overlap ∧ (∀ x ∈ mainRoute.sections, x.1 ≠ 1) ∧
      (secAt (withInst { instOf .releasing with origin := some .occupied, approach := .running 0 } running) 1).map (·.occ) =
        some .clear) := by
  refine ⟨fun i hi => ?_, by decide +kernel, ⟨⟨rfl, rfl⟩, by decide +kernel⟩, fun i hi => ?_, by decide +kernel⟩ <;>
    simp only [List.mem_cons, List.not_mem_nil, or_false] at hi <;> obtain rfl | rfl | rfl | rfl := hi
  · exact ⟨⟨rfl, rfl⟩, by decide +kernel⟩
  · exact ⟨⟨rfl, rfl⟩, by decide +kernel⟩
  · exact ⟨⟨rfl, rfl⟩, by decide +kernel⟩
  · exact ⟨⟨rfl, rfl⟩, by decide +kernel⟩
  all_goals decide +kernel

/-- An instance in SET that a train approaches: it enters RELEASING, and does not end at once. -/
theorem witness_CancelRouteAndReleaseTimers_locked :
    approachLocked (withInst (instOf .set) (updateSup driven 5 (fun u => { u with
      auth := [{ sec := 1, route := none }, { sec := 2, route := some 0 }] }))) (instOf .set) = true := by
  decide +kernel

/-- A train that moves towards the first section of a SET instance. -/
theorem witness_ApproachLock :
    routeAt driven 0 = some mainRoute ∧ mainRoute.sections.head? = some (2, .up) ∧
    approachLocked (updateSup driven 5 (fun u => { u with auth := [{ sec := 2, route := some 0 }] })) (instOf .set) = true := by
  decide +kernel

/-- Section 1 OCCUPIED by something unknown. -/
def unknownOnOne : State := updateSec running 1 (fun x => { x with occ := .occupied, occupant := .unknown })

theorem witness_PlaceTrain :
    (∀ s, s ∈ [running, unknownOnOne] → Heads (asked (.placeTrain 5 1 1) s) .a 7#8 (.placeTrain 5 1 1) ∧
      (asked (.placeTrain 5 1 1) s).ctl.mode = .inService ∧ (trainAt (asked (.placeTrain 5 1 1) s) 5).map (·.state) = some .absent ∧
      holds (asked (.placeTrain 5 1 1) s) .a (secDistrict (asked (.placeTrain 5 1 1) s) 1) = true) ∧
    dirOfCode 1 = some .down ∧ dirOfCode 2 = none ∧ secAt running 1 = some clearSec ∧
    secAt unknownOnOne 1 = some { clearSec with occ := .occupied, occupant := .unknown } := by
  refine ⟨fun s hs => ?_, by decide +kernel⟩
  simp only [List.mem_cons, List.not_mem_nil, or_false] at hs
  obtain rfl | rfl := hs <;> exact ⟨⟨rfl, rfl⟩, by decide +kernel⟩

/-- The refusals in their order: nothing described, a district not held, a train that is not ABSENT, and a section that a
train occupies. -/
theorem witness_PlaceTrain_refused :
    (∀ s n x, Heads (asked (.placeTrain x n 0) s) .a 7#8 (.placeTrain x n 0) ↔ hasPlace s .a = true) ∧
    trainAt running 6 = none ∧ secAt running 9 = none ∧
    holds (setDistrict running 0 { holder := none, demoOk := false }) .a (secDistrict running 1) = false ∧
    (holds driven .a (secDistrict driven 1) = true ∧ (trainAt driven 5).map (·.state) = some .placed) ∧
    ((trainAt running 5).map (·.state) = some .absent ∧
      secAt (updateSec running 1 (fun x => { x with occ := .occupied, occupant := .train 4 })) 1 =
        some { clearSec with occ := .occupied, occupant := .train 4 }) :=
  ⟨fun _ _ _ => ⟨fun h => h.2, fun h => ⟨rfl, h⟩⟩, by decide +kernel⟩

/-- The yard with a queue and a run. -/
def showing (l : List DemoEntry) (run : Option Run) : State := running.withDemo { running.demo with queue := l, run := run }

/-- Train 5 DISRUPTED where it stands. -/
def disrupted : State := updateTrain driven 5 (fun r => { r with state := .disrupted, cause := some .parted })

theorem witness_TrainsTakenGivenRestoredRemoved :
    (∀ s, s ∈ [running, driven, disrupted, showing [entryOf true] none] →
      s.ctl.mode = .inService ∧ Heads (asked (.takeTrain 5) s) .a 7#8 (.takeTrain 5) ∧
      Heads (asked (.giveTrain 5) s) .a 7#8 (.giveTrain 5) ∧ Heads (asked (.restoreTrain 5) s) .a 7#8 (.restoreTrain 5) ∧
      Heads (asked (.removeTrain 5) s) .a 7#8 (.removeTrain 5)) ∧ trainAt running 6 = none ∧
    ((trainAt running 5).map (·.driver) = some none ∧ queuedTrain running 5 = false ∧
      queuedTrain (showing [entryOf true] none) 5 = true ∧ (trainAt driven 5).map (·.driver) = some (some (.port .a))) ∧
    (∃ r, trainAt disrupted 5 = some r ∧ r.state = .disrupted ∧ loneClear disrupted r = false) ∧
    (∃ r, trainAt driven 5 = some r ∧ r.state = .placed ∧ loneClear driven r = false ∧
      loneClear (updateSec driven 1 (fun x => { x with occ := .clear })) r = true) ∧
    settledOf driven 5 = 0 ∧ settledOf (updateSup driven 5 (fun u => { u with settled := 1 })) 5 ≠ 0 := by
  refine ⟨fun s hs => ?_, by decide +kernel, by decide +kernel, ⟨_, rfl, rfl, by decide +kernel⟩,
    ⟨_, rfl, rfl, by decide +kernel⟩, by decide +kernel⟩
  simp only [List.mem_cons, List.not_mem_nil, or_false] at hs
  obtain rfl | rfl | rfl | rfl := hs <;> exact ⟨rfl, ⟨rfl, rfl⟩, ⟨rfl, rfl⟩, ⟨rfl, rfl⟩, rfl, rfl⟩

/-- Train 5 on section 1 with section 2 next in its authority. -/
def entering : State := standsOn [1] [{ sec := 1, route := none }, { sec := 2, route := some 0 }] (withInst (instOf .set) driven)

theorem witness_TrackerStepsAndClears :
    ((secAt entering 2).map (·.occupant) = some .none ∧ nextTrains entering 2 = [5] ∧ routeHolder entering 2 = some 0 ∧
      cancelledEntry entering 2 = none ∧ isDeckSection entering 2 = false ∧ sectionIndex entering (instOf .set) 2 = some 0) ∧
    (secAt driven 2 = some clearSec ∧ nextTrains driven 2 = [] ∧ overrunTrains driven 2 = [5] ∧
      (trainAt driven 5).bind (headSignal driven) = some 1 ∧ (overrunRoute driven 1 2).isSome = true) ∧
    (nextTrains running 2 = [] ∧ overrunTrains running 2 = []) ∧
    (secAt unknownOnOne 1).map (·.occupant) = some .unknown ∧
    ((secAt driven 1).map (·.occupant) = some (.train 5) ∧ (trainAt driven 5).map (·.list) = some [1]) ∧
    ((trainAt spread 5).map (·.list) = some [1, 2] ∧ (secAt spread 2).map (·.occupant) = some (.train 5)) ∧
    holdsChanges (inModeOf .rest) = true := by
  decide +kernel

/-- Train 5 has its head in section 2, whose instance is told of it. -/
def stepping (i : Inst) : State :=
  updateSec (standsOn [1, 2] [{ sec := 2, route := some 0 }] (withInst i driven)) 2 (fun x => { x with
    occ := .occupied, occupant := .train 5 })

/-- The instance told of a step, void cancel included, offered a release, and told of an expiry of its entering train. -/
theorem witness_TrackerStepsAndClears_instances :
    (∀ i, i ∈ [instOf .setting, instOf .set, { instOf .releasing with origin := some .set, approach := .running 5 }] →
      (secAt (stepping i) 2).map (·.occ) = some .occupied ∧ routeHolder (stepping i) 2 = some 0 ∧
      instAt (stepping i) 0 = some i ∧ sectionIndex (stepping i) i 2 = some 0 ∧ i.marks[0]? = some .locked) ∧
    (let i := { instOf .occupied with marks := [.passed], entering := some 5 };
      secAt (withInst i running) 2 = some { clearSec with lock := some { slot := 0, role := .route } } ∧
      routeHolder (withInst i running) 2 = some 0 ∧ instAt (withInst i running) 0 = some i ∧
      routeAt (withInst i running) i.route = some mainRoute ∧ sectionIndex (withInst i running) i 2 = some 0 ∧
      mainRoute.sections.length ≤ 12 ∧ i.state = .occupied ∧ i.marks[0]? = some .passed ∧
      mainRoute.sections[0]? = some (2, .up)) ∧
    ((itemNumbers (stepping (instOf .occupied)).il.instances).Nodup ∧
      (desc (stepping (instOf .occupied))).params.overlapTime ≠ 0) := by
  refine ⟨fun i hi => ?_, by decide +kernel, by decide +kernel⟩
  simp only [List.mem_cons, List.not_mem_nil, or_false] at hi
  obtain rfl | rfl | rfl := hi <;> decide +kernel

/-- R68, R78, R70, R71, R72: entry, void cancel, release to the overlap alone, and the timer that starts at rest. -/
theorem test_instance_life :
    (instAt (instStep 2 5 (stepping (instOf .set))) 0).map (fun i => (i.state, i.entering)) = some (.occupied, some 5) ∧
    (instAt (instStep 2 5 (stepping { instOf .releasing with origin := some .set, approach := .running 5 })) 0).map (fun i =>
      (i.state, i.approach)) = some (.occupied, .stopped) ∧
    (instAt (offerRelease 2 (withInst { instOf .occupied with marks := [.passed], entering := some 5 } running)) 0).map (fun i =>
      (i.marks, i.overlap, i.held)) = some ([.released], [4], []) ∧
    instAt (offerRelease 2 (withInst { instOf .occupied with marks := [.passed], overlap := [] } running)) 0 = none ∧
    (instAt (reportToInstances 5 2 0 (stepping { instOf .occupied with entering := some 5 })) 0).map (·.overlapTimer) =
      some (.running 10000) := by
  decide +kernel

/-- R91, R96, R97: a step, a parting and a run past a signal. -/
theorem test_tracker :
    (trainAt (becameOccupied 2 entering) 5).map (fun r => (r.state, r.list)) = some (.placed, [1, 2]) ∧
    (trainAt (becameClear 1 spread) 5).map (fun r => (r.state, r.list)) = some (.placed, [2]) ∧
    (trainAt (becameClear 2 spread) 5).map (fun r => (r.cause, r.list)) = some (some .parted, [1]) ∧
    (trainAt (becameOccupied 2 driven) 5).map (fun r => (r.cause, r.list)) = some (some .overrun, [1, 2]) := by
  decide +kernel

theorem witness_Throttle :
    ((portAt driven .a).state = .online ∧ dirOfCode 1 = some .down ∧ dirOfCode 2 = none ∧ driven.ctl.mode = .inService ∧
      (trainAt driven 5).map (·.driver) = some (some (.port .a))) ∧
    (trainAt running 5).map (·.driver) = some none ∧ trainAt running 6 = none ∧ (inModeOf .rest).ctl.mode = .rest ∧
    (portAt (inModeOf .rest) .a).state = .online := by
  decide +kernel

theorem witness_SupervisionExpiry :
    ∃ r u, trainAt driven 5 = some r ∧ r.sup = some u ∧ r.list.getLast? = some 1 ∧ (trainEntry driven 5).isSome = true ∧
      (driven.ctl.allStop = none ∧ r.state = .placed ∧ driven.ctl.mode = .inService ∧ tractionActive driven = true ∧
        isDeckSection driven 1 = false) ∧
      (driven.withCtl { driven.ctl with allStop := some .overload }).ctl.allStop.isSome = true :=
  ⟨_, _, rfl, rfl, by decide +kernel⟩

/-- A train at rest of which a reversal is asked, and a DISRUPTED one. -/
theorem witness_SupervisionExpiry_reversal :
    ((trainAt (updateTrain spread 5 (fun r => { r with pendRev := true })) 5).map (fun r => (r.pendRev, r.list.head?, r.list.getLast?)) =
      some (true, some 1, some 2)) ∧
    ((trainAt (after (.supervisionExpiry 5) (updateTrain spread 5 (fun r => { r with pendRev := true }))) 5).map (fun r =>
      (r.list, r.heading, r.sup.map (fun u => (u.output, u.offset, u.sense)))) =
        some ([2, 1], .down, some (0, 10000, .backward))) ∧
    (trainAt disrupted 5).map (·.state) = some .disrupted := by
  decide +kernel

theorem witness_TurnDeckAndTimeout :
    (∀ s, s ∈ [running, turning, halted] → ∀ k x, Heads (asked (.turnDeck k x) s) .a 7#8 (.turnDeck k x)) ∧
    (∀ s, s ∈ [running, turning, halted] → s.ctl.mode = .inService ∧ holds s .a (deckDistrict s) = true ∧ s.deck.isSome = true) ∧
    senseOfCode 2 = some .short ∧ senseOfCode 3 = none ∧ running.ring.queue.length ≤ 32 ∧ running.il.instances = [] ∧
    ((desc running).deck.map (·.n)) = some 12 ∧ deckAligned running = some 2 ∧
    deckMoving turning = true ∧ (turning.deck.bind (·.latch)) = none ∧
    ((desc running).deck.map (startFails running)) = some none ∧
    ((desc driven).deck.map (startFails (updateSec running 3 (fun x => { x with lock := some { slot := 0, role := .route } })))) =
      some (some .deckLocked) := by
  refine ⟨fun s hs k x => ?_, fun s hs => ?_, by decide +kernel⟩ <;>
    simp only [List.mem_cons, List.not_mem_nil, or_false] at hs <;> obtain rfl | rfl | rfl := hs
  · exact ⟨rfl, rfl⟩
  · exact ⟨rfl, rfl⟩
  · exact ⟨rfl, rfl⟩
  all_goals decide +kernel

/-- No deck is described, and each start condition that fails. -/
theorem witness_TurnDeckAndTimeout_refused :
    (let s := running.withStore { running.store with committed := { yard with deck := none } };
      Heads (asked (.turnDeck 0 0) s) .a 7#8 (.turnDeck 0 0) ∧ s.ctl.mode = .inService ∧ senseOfCode 0 = some .cw ∧
      (desc s).deck = none) ∧
    ((desc running).deck.map (startFails (updateSec running 3 (fun x => { x with occ := .occupied, occupant := .unknown })))) =
      some (some .deckOccupied) ∧
    ((desc running).deck.map (startFails (updateModule running 4 (fun m => { m with state := .failed })))) =
      some (some .moduleFailed) :=
  ⟨⟨⟨rfl, rfl⟩, rfl, rfl, rfl⟩, by decide +kernel⟩

/-- The deck turns, and its section is the route section of the instance in slot 0. -/
def overDeck (i : Inst) : State :=
  let s := updateSec (withInst i turning) 3 (fun x => { x with lock := some { slot := 0, role := .route } })
  s.withStore { s.store with committed := { yard with routes := [(0, { mainRoute with sections := [(3, .up)] })] } }

/-- An instance with a claim, one in SET and one in OCCUPIED that hold the deck section, and one that does not. -/
theorem witness_TurnDeckAndTimeout_instances :
    (∀ i, i ∈ [instOf .set, instOf .occupied, instOf .releasing] → deckMoving (overDeck i) = true ∧
      instAt (overDeck i) 0 = some i ∧ lockedTo (overDeck i) 0 .route 3 = true ∧
      (routeAt (overDeck i) i.route).map (·.sections) = some [(3, .up)]) ∧
    ((desc (overDeck (instOf .set))).deck.map (·.sec) = some 3) ∧
    (instAt (withInst { instOf .setting with claim := .pending } turning) 0).map (fun i => (i.state, i.claim)) =
      some (.setting, .pending) ∧
    (instAt (withInst (instOf .occupied) turning) 0 = some (instOf .occupied) ∧
      lockedTo (withInst (instOf .occupied) turning) 0 .route 3 = false ∧
      lockedTo (withInst (instOf .occupied) turning) 0 .overlap 3 = false) := by
  decide +kernel

/-- R63, R128: what becomes of them. -/
theorem test_deck_lost :
    instAt (after .deckMoveTimeout (withInst { instOf .setting with claim := .pending } turning)) 0 = none ∧
    instAt (after .deckMoveTimeout (overDeck (instOf .set))) 0 = none ∧
    (instAt (after .deckMoveTimeout (overDeck (instOf .occupied))) 0).map (fun i => (i.state, i.marks)) =
      some (.occupied, [.released]) ∧
    (secAt (after .deckMoveTimeout (overDeck (instOf .occupied))) 3).bind (·.lock) = none := by
  decide +kernel

theorem witness_DemoRequestsAndTimers :
    (∀ s, s ∈ [running, showing [entryOf false] none, showing [entryOf true] none, showing [] (some (runOf .none))] →
      Heads (asked (.passDemo 0) s) .a 7#8 (.passDemo 0) ∧ Heads (asked (.vetoDemo 0) s) .a 7#8 (.vetoDemo 0) ∧
      s.ctl.mode = .inService ∧ (planEntry s 0).isSome = true ∧ (desc s).roles.screening = some .a) ∧
    planPlace (showing [entryOf false] none) 0 = .pending ∧ planPlace (showing [entryOf true] none) 0 = .accepted ∧
    planPlace (showing [] (some (runOf .none))) 0 = .running ∧ planPlace running 0 = .nowhere ∧
    (entryOf false).screening.isSome = true ∧ (entryOf true).admission.isSome = true ∧ (runOf .none).paused = false := by
  refine ⟨fun s hs => ?_, by decide +kernel⟩
  simp only [List.mem_cons, List.not_mem_nil, or_false] at hs
  obtain rfl | rfl | rfl | rfl := hs <;> exact ⟨⟨rfl, rfl⟩, ⟨rfl, rfl⟩, rfl, rfl, rfl⟩

/-- Train 5 stands undriven on section 1, the start of plan 0, with a queue and a run. -/
def ready (l : List DemoEntry) (run : Option Run) : State :=
  let s := updateTrain driven 5 (fun r => { r with driver := none, throttle := 0 })
  s.withDemo { s.demo with queue := l, run := run }

/-- The head of the queue may be admitted. -/
theorem witness_MayAdmit : ∃ pl, MayAdmit (ready [entryOf true] none) (entryOf true) pl :=
  ⟨_, rfl, rfl, rfl, rfl, rfl, _, rfl, rfl, rfl, rfl, rfl⟩

/-- R140, R142, R143, R144: an entry accepted and admitted, one let go, and the end of a run. -/
theorem test_admission :
    (after (.passDemo .a) (asked (.passDemo 0) (ready [entryOf false] none))).demo.run.map (·.plan) = some 0 ∧
    (trainAt (after (.screeningTimeout 0) (ready [entryOf false] none)) 5).map (fun r => (r.driver, r.throttle)) =
      some (some .demo, 128) ∧
    (after .admissionTimeout (showing [entryOf true, { entryOf true with plan := 1, admission := none }] none)).demo.queue.map
      (fun e => (e.plan, e.admission.isSome)) = [(1, true)] ∧
    (demoExpiry 5 (standsOn [2] [] (ready [] (some { runOf .none with next := 2 })))).demo.run = none := by
  decide +kernel

/-- The run: a step that is due and one that is not, completion, an instance of its record and one of none. -/
theorem witness_DemoRequestsAndTimers_run :
    (let r : Run := { runOf .none with next := 2, insts := [(0, 1)] };
      (ready [] (some r)).demo.run = some r ∧ r.train = 5 ∧ r.hand = .none ∧ (∃ k, (0, k) ∈ r.insts) ∧
      (∀ k, (1, k) ∉ r.insts) ∧ Completes (standsOn [2] [] (ready [] (some r))) r) ∧
    (let pl : PlanEntry := { train := 5, start := 1, routes := [0, 0], throttle := 1, addr := 5, input := 0 };
      let s := (ready [] (some { runOf .none with next := 2 })).withStore
        { running.store with committed := { yard with plans := [(0, pl)] } };
      planEntry s 0 = some pl ∧ pl.routes[2 - 2]? = some 0 ∧ finalSection s 0 = some 2) ∧
    ((ready [entryOf true] none).demo.run = none ∧ (planEntry (ready [entryOf true] none) 0).map (·.train) = some 5) :=
  ⟨⟨rfl, rfl, rfl, ⟨1, List.mem_singleton_self _⟩, fun k h => (by cases List.mem_singleton.mp h),
    ⟨_, 0, 2, rfl, rfl, rfl, rfl, rfl, rfl, rfl⟩⟩, by decide +kernel, by decide +kernel⟩

/-- The service: a closing by the mode, one condition fewer, a pause and an opening; and a lamp that changes. -/
theorem witness_DemoRequestsAndTimers_service :
    (let s := ready [] (some (runOf .none));
      let close := recomputeService (s.withCtl { s.ctl with mode := .rest });
      close.demo.failing.mode = true ∧ s.demo.failing.mode = false ∧ close.demo.run = none) ∧
    (let s := (ready [] none).withDemo { running.demo with failing := { mode := true, screening := true, allStop := false } };
      let s := s.withCtl { s.ctl with mode := .rest };
      (recomputeService s).demo.failing = { mode := true, screening := false, allStop := false }) ∧
    (let s := ready [] (some (runOf .none));
      let pause := recomputeService (s.withCtl { s.ctl with allStop := some .emergency });
      pause.demo.failing = { mode := false, screening := false, allStop := true } ∧
      pause.demo.run.map (·.paused) = some true ∧
      (recomputeService (pause.withCtl { pause.ctl with allStop := none })).demo.run.map (·.paused) = some false) ∧
    (findItem (showing [entryOf true] none).demo.buttons 0).map (·.lamp) = some .ready ∧
    lampShown (showing [entryOf true] none).demo 0 = .queued := by
  decide +kernel

/-- A ring with a command due: in the stop run, or in the queue. -/
def commanding (stop : Bool) : State :=
  running.withRing { running.ring with
    stopRun := if stop then [.power true] else [], queue := [.power true], underWay := true, todo := [5], due := 1 }

theorem witness_RingPollsAnswersAndCommands :
    (pollDue (running.withRing { running.ring with underWay := true, todo := [5] }).ring = true) ∧
    ((polled 4).ring.window = some 4 ∧ (findItem (polled 4).ring.modules 4).map (·.kind) = some .deck ∧
      goodFrame 4 .deck (ringFrame 4 2 [2#8, 1#8]) = true ∧ goodFrame 4 .deck [] = false ∧
      goodFrame 4 .deck (ringFrame 4 2 [2#8]) = false) ∧
    (sendDue (commanding true).ring = true ∧ (commanding true).ring.stopRun = .power true :: []) ∧
    (sendDue (commanding false).ring = true ∧ (commanding false).ring.stopRun = [] ∧
      (commanding false).ring.queue = .power true :: []) ∧
    ((polled 0).ring.todo = [] ∧ (polled 0).ring.underWay = true ∧ (polled 0).ring.restTail = false ∧
      (polled 0).ring.stopRun = [] ∧ (polled 0).ring.queue = [] ∧ (moduleAt (polled 0) 0).misses < 2 ∧
      (polled 0).ring.group + 1 = groupsOf (polled 0).ring.running.mode) := by
  decide +kernel

/-- The window of a module that misses its third poll is open, with more to poll. -/
def failing (a : Nat) (s : State) : State :=
  let t := updateModule s a (fun m => { m with misses := 2 })
  t.withRing { t.ring with underWay := true, window := some a, todo := [5], queue := [.aspect 1 .stop, .lamp 0 .ready] }

/-- The yard with a module 6 that no item uses. -/
def spare (k : ModKind) : State := running.withRing { running.ring with modules := running.ring.modules ++ [(6, active k [])] }

/-- The turning deck with its claim and a latched move. -/
def claimedDeck : State := withInst { instOf .setting with claim := .pending } turning

/-- A module of each kind that fails, with its items, items of another module, and instances in SETTING. -/
theorem witness_RingPollsAnswersAndCommands_failures :
    (∀ x ∈ [(0, ModKind.detect), (1, .signal), (2, .point), (4, .deck), (5, .button)],
      (failing x.1 running).ring.window = some x.1 ∧ goodFrame x.1 x.2 [] = false ∧ (failing x.1 running).ring.todo ≠ [] ∧
      (findItem (failing x.1 running).ring.modules x.1).map (fun m => (m.kind, m.state, m.misses)) = some (x.2, .active, 2)) ∧
    (∀ k ∈ [ModKind.detect, .point, .button], (moduleAt (failing 6 (spare k)) 6).kind = k) ∧
    (findItem (desc running).sections 1).map (·.addr) = some 0 ∧ (findItem (desc running).points 0).map (·.addr) = some 2 ∧
    (itemNumbers (desc running).sections).Nodup ∧ (itemNumbers (desc running).points).Nodup ∧
    (findItem (desc running).signals 1).map (·.addr) = some 1 ∧ findItem running.il.signals 1 = some .stop ∧
    (findItem (desc running).plans 0).map (·.addr) = some 5 ∧ (findItem running.demo.buttons 0).isSome = true ∧
    claimedDeck.deck.isSome = true ∧ (instAt claimedDeck 0).map (fun i => (i.state, i.claim)) = some (.setting, .pending) ∧
    (ptAt (withInst (instOf .setting) running) 0).map (·.reported) = some .normal := by
  decide +kernel

/-- R24, R30, R37, R130, R138, R152: the safe values, and the commands for the failed module gone from the queue. -/
theorem test_failures :
    (secAt (after (.miss []) (failing 0 running)) 1).map (·.occ) = some .occupied ∧
    (ptAt (after (.miss []) (failing 2 running)) 0).map (fun x => (x.reported, x.commanded)) = some (.unproven, some .reverse) ∧
    instAt (after (.miss []) (failing 2 (withInst (instOf .setting) running))) 0 = none ∧
    (findItem (after (.miss []) (failing 1 (running.withIl { running.il with signals := [(1, .clear)] }))).il.signals 1) =
      some .stop ∧
    (after (.miss []) (failing 1 running)).ring.queue = [.lamp 0 .ready] ∧
    (after (.miss []) (failing 4 claimedDeck)).deck.map (fun d => (d.pos, d.req, d.timer, d.reported)) =
      some (.unproven, none, none, some 2) ∧
    (findItem (after (.miss []) (failing 5 running)).demo.buttons 0).map (·.level) = some none ∧
    (match readDemo (after (.miss []) (failing 5 running)) with | .done l => l[6]? | _ => none) = some 2#8 := by
  decide +kernel

/-- The ring with the commands that wait as given. -/
def waiting (stop queue : List RingCmd) (slot : Option RingCmd) : State :=
  running.withRing { running.ring with stopRun := stop, queue := queue, slot := slot }

/-- A full queue of POINT commands for one point, with one command more at its tail. -/
def full (last : RingCmd) : List RingCmd := List.replicate 31 (.pointMove 9 .normal) ++ [last]

/-- A command for an ACTIVE module, its place in the stop run, the queue and the slot, a full queue with and without a LAMP,
and a command without a module. -/
theorem witness_RingPollsAnswersAndCommands_offers :
    (cmdModule (desc running) (.aspect 1 .clear) = some 1 ∧ moduleActive running 1 = true) ∧
    cmdModule (desc running) (.aspect 9 .clear) = none ∧
    (cmdTarget (.speed 5 1 .forward) = cmdTarget (.speed 5 0 .forward) ∧ cmdTarget (.power true) = cmdTarget (.power false)) ∧
    (full (.lamp 0 .ready)).length = 32 ∧ (∀ x ∈ full (.lamp 0 .ready), ¬ cmdTarget x = cmdTarget (.aspect 1 .clear)) ∧
    (∀ y ∈ List.replicate 31 (RingCmd.pointMove 9 .normal), isLamp y = false) ∧
    (∀ y ∈ full (.power true), isLamp y = false) ∧ (∀ x ∈ full (.power true), ¬ cmdTarget x = cmdTarget (.lamp 0 .ready)) ∧
    (waiting [] (full (.power true)) none).ring.slot = none ∧
    (waiting [] (full (.lamp 0 .ready)) (some (.deckTurn 1 .cw))).ring.slot = some (.deckTurn 1 .cw) ∧
    (∀ y ∈ List.replicate 31 (RingCmd.pointMove 9 .normal) ++ [] ++ [.deckTurn 1 .cw], isLamp y = false) ∧
    (let l2 := List.replicate 30 (RingCmd.pointMove 9 .normal) ++ [.lamp 0 .ready];
      (([] : List RingCmd) ++ .lamp 1 .ready :: l2).length = 32 ∧
      (∀ x ∈ RingCmd.lamp 1 .ready :: l2, ¬ cmdTarget x = cmdTarget (.aspect 1 .clear)) ∧
      [] ++ l2 ++ [.deckTurn 1 .cw] = List.replicate 30 (.pointMove 9 .normal) ++ .lamp 0 .ready :: [.deckTurn 1 .cw]) := by
  decide +kernel

/-- R159 to R161: replaced in place, appended, a LAMP let go, the slot, and COMMAND-LOST by the slot's replacement. -/
theorem test_offers :
    (offer (.speed 5 9 .forward) (waiting [.speed 5 0 .forward] [] none)).ring.stopRun = [.speed 5 9 .forward] ∧
    (offer (.power false) (waiting [] [.power true, .lamp 0 .ready] none)).ring.queue = [.power false, .lamp 0 .ready] ∧
    (offer (.lamp 0 .ready) (waiting [] [.power true] none)).ring.queue = [.power true, .lamp 0 .ready] ∧
    (offer (.aspect 1 .clear) (waiting [] (full (.lamp 0 .ready)) none)).ring.queue = full (.aspect 1 .clear) ∧
    (offer (.power true) (waiting [] (full (.pointMove 0 .normal)) (some (.deckTurn 1 .cw)))).ring.slot = some (.power true) ∧
    (let t := offer (.aspect 1 .clear) (waiting [] (full (.lamp 0 .ready)) (some (.deckTurn 1 .cw)));
      (t.ring.queue = full (.deckTurn 1 .cw) ∧ t.ring.slot = some (.aspect 1 .clear))) ∧
    (let l := List.replicate 30 (RingCmd.pointMove 9 .normal);
      let t := offer (.aspect 1 .clear) (waiting [] (.lamp 1 .ready :: l ++ [.lamp 0 .ready]) (some (.deckTurn 1 .cw)));
      (t.ring.queue = l ++ [.deckTurn 1 .cw, .aspect 1 .clear] ∧ t.ring.slot = none)) := by
  decide +kernel

/-- R115, R116, R153: an expiry whose refresh is due, an answer that shows another power, and an all-stop of train 5. -/
theorem witness_RingPollsAnswersAndCommands_sources :
    (running.ring.power = some true ∧ (0#8).getLsbD 1 = false ∧ (1#8).getLsbD 0 = true ∧ (0#8).getLsbD 0 ≠ true ∧
      running.ring.queue = [] ∧ running.ring.slot = none ∧ (waiting [] [.power true] none).ring.queue = [.power true]) ∧
    (tractionAnswer 0#8 running).ring.queue = [.power true] ∧
    supervised driven = [5] ∧ tractionActive driven = true := by
  decide +kernel

/-- R116, R160, R161: the waiting SPEED commands of train 5 go, the slot's command takes the place freed in the queue, and
the SPEED of a train that has no record stays. -/
theorem test_all_stop_commands :
    let t := stopTrains (driven.withRing (waiting [.speed 5 9 .forward, .speed 6 9 .forward] (full (.speed 5 8 .forward))
      (some (.aspect 1 .stop))).ring)
    t.ring.stopRun = [.speed 5 0 .forward, .speed 6 9 .forward] ∧ t.ring.queue = full (.aspect 1 .stop) ∧
    t.ring.slot = none := by
  decide +kernel

/-- The last poll of a sweep, in a mode entered as given, with a REST that may be pending. -/
def sweptIn (m : Mode) (by_ : WakeCause) (rest : Option PortId) (s : State) : State :=
  (s.withRing (polled 0).ring).withCtl { s.ctl with mode := m, wakeBy := by_, pendingRest := rest }

/-- R11, R14, R17, R155: the boundary ends WAKING, settles a disturbed section, enters REST and abandons it. -/
theorem test_boundary :
    (after (.miss []) (sweptIn .waking .commit none running)).ctl.mode = .inService ∧
    (secAt (after (.miss []) (sweptIn .waking .wake none
      (updateSec running 2 (fun x => { x with occ := .occupied, disturbed := true })))) 2).map (fun x => (x.occupant, x.disturbed)) =
        some (.unknown, false) ∧
    (after (.miss []) (sweptIn .inService .wake (some .a) running)).ctl.mode = .rest ∧
    (after (.miss []) (sweptIn .inService .wake (some .a) turning)).ctl.mode = .inService ∧
    (after (.miss []) (sweptIn .inService .wake (some .a) turning)).ctl.pendingRest = none := by
  decide +kernel

/-- The last poll of a sweep for module `a`, which is not the sweep's last work. -/
def answering (a : Nat) (s : State) : State := s.withRing { s.ring with underWay := true, window := some a, todo := [5] }

/-- The turning deck, claimed by an instance. -/
def claimed : State := withInst { instOf .setting with claim := .pending } turning

theorem witness_GoodAnswerData :
    (∀ a, a ∈ [0, 2, 4] → (answering a running).ring.window = some a ∧ (answering a running).ring.todo ≠ []) ∧
    ((findItem running.ring.modules 2).map (·.kind) = some .point ∧ goodFrame 2 .point (ringFrame 2 2 [1#8]) = true ∧
      payloadOf (ringFrame 2 2 [1#8]) = [1#8] ∧ (itemNumbers (desc running).points).Nodup ∧
      (findItem (desc running).points 0).map (·.addr) = some 2) ∧
    ((findItem running.ring.modules 0).map (·.kind) = some .detect ∧ goodFrame 0 .detect (ringFrame 0 2 [2#8]) = true ∧
      payloadOf (ringFrame 0 2 [2#8]) = [2#8] ∧ (itemNumbers (desc running).sections).Nodup ∧
      (findItem (desc running).sections 2).map (·.addr) = some 0) ∧
    ((findItem running.ring.modules 4).map (·.kind) = some .deck ∧ goodFrame 4 .deck (ringFrame 4 2 [5#8, 1#8]) = true ∧
      payloadOf (ringFrame 4 2 [5#8, 1#8]) = [5#8, 1#8] ∧ turning.deck.bind (·.latch) = none ∧
      (desc turning).deck.isSome = true) ∧
    ((findItem running.demo.buttons 0).map (·.level) = some (some .released) ∧ isOpen running.demo.failing = true ∧
      running.demo.run = none ∧ running.demo.queue.length < 6 ∧ (desc running).params.screening ≠ 0) ∧
    (∃ x, instAt claimed 0 = some x ∧ x.claim = .pending) := by
  decide +kernel

/-- The turning deck with a move latched, and its DECK module at the target road. -/
def turningLatched : State := turning.withDeck (turning.deck.map (fun d => { d with
  latch := some { road := 8, sense := .cw, port := .a } }))

/-- R127 step 5, R61, R62: a latched deck that arrives; an instance in SETTING that may become SET, may not, and one whose
first section was passed; a point of its own. -/
theorem witness_GoodAnswerData_latch_and_setting :
    ((turningLatched.deck.bind (·.latch)).isSome = true ∧ turningLatched.deck.map (·.pos) = some (.moving 2 5 .cw) ∧
      (moduleAt turningLatched 4).state = .active ∧ turningLatched.il.instances = []) ∧
    ((∀ i, i ∈ [instOf .setting, { instOf .setting with firstPassing := some 5 }] →
      instAt (withInst i running) 0 = some i ∧ (∀ h ∈ i.held, ptProven (withInst i running) h.point h.pos = true) ∧
      (∀ r, routeAt (withInst i running) i.route = some r → r.deckReq = none ∧
        ∀ x ∈ r.sections, isDeckSection (withInst i running) x.1 = false)) ∧
      instAt awaiting 0 = some (instOf .setting) ∧ ptProven awaiting 0 .normal = false) ∧
    (instOf .setting).held.find? (fun g => g.point == 0) = some { point := 0, pos := .normal, idx := some 0 } := by
  refine ⟨by decide +kernel, ⟨fun i hi => ?_, by decide +kernel⟩, by decide +kernel⟩
  simp only [List.mem_cons, List.not_mem_nil, or_false] at hi
  obtain rfl | rfl := hi <;> exact ⟨rfl, by decide +kernel, fun r h => by cases h; decide +kernel⟩

/-- R127, R61, R62. -/
theorem test_setting :
    (after (.goodAnswer (ringFrame 4 2 [5#8, 1#8])) (answering 4 turningLatched)).deck.map (fun d => (d.pos, d.latch)) =
      some (.moving 5 8 .cw, none) ∧
    (instAt (setTest 0 (withInst (instOf .setting) running)) 0).map (·.state) = some .set ∧
    (instAt (setTest 0 awaiting) 0).map (·.state) = some .setting ∧
    instAt (pointHandOn 0 (.pointLost 0) awaiting) 0 = none := by
  decide +kernel

/-- R28, R126, R127, R138: the values of one answer each. -/
theorem test_answers :
    (ptAt (after (.goodAnswer (ringFrame 2 2 [1#8])) (answering 2 running)) 0).map (·.reported) = some .normal ∧
    (after (.goodAnswer (ringFrame 4 2 [5#8, 1#8])) (answering 4 turning)).deck.map (·.pos) = some (.aligned 5) ∧
    (after (.goodAnswer (ringFrame 4 2 [2#8, 0#8])) (answering 4 running)).deck.map (fun d => (d.pos, d.doubt)) =
      some (.aligned 2, 1) ∧
    (after (.goodAnswer (ringFrame 5 2 [1#8])) (answering 5 running)).demo.queue.map (fun e => (e.plan, e.accepted)) =
      [(0, false)] := by
  decide +kernel

/-- The yard whose ring has module 0 alone, in a sweep mode, with the next group as given. -/
def sparse (m : SweepMode) (g : Nat) (post : Bool) : State :=
  running.withRing { running.ring with
    modules := [(0, active .detect [0#8])], running := { mode := m, period := 100 }, nextGroup := g, postponed := post }

/-- An empty group that is not the last, and one that is, on time and postponed. -/
theorem witness_RingSweeps_empty :
    (∀ x ∈ [(SweepMode.split4, 2, false), (.split4, 2, true), (.split2, 1, false), (.split2, 1, true)],
      let r := (sparse x.1 x.2.1 x.2.2).ring
      r.timer.isSome = true ∧ r.underWay = false ∧ r.postponed = x.2.2 ∧ groupAddresses r r.nextGroup = [] ∧
        r.restTail = false ∧ (r.nextGroup + 1 = groupsOf r.running.mode ↔ x.1 = .split2)) := by
  decide +kernel

/-- R154, R155: an empty group is done as it begins; as the last group it ends WAKING. -/
theorem test_empty_groups :
    (after .sweepTimerExpiry (sparse .split4 2 false)).ring.nextGroup = 3 ∧
    (after .sweepTimerExpiry (sparse .split4 2 false)).ring.underWay = false ∧
    (after .postponedPartialSweep ((sparse .split2 1 true).withCtl { running.ctl with mode := .waking })).ctl.mode = .inService ∧
    (after .postponedPartialSweep (sparse .split2 1 true)).ring.nextGroup = 0 := by
  decide +kernel

theorem witness_RingSweeps :
    (running.ring.timer.isSome = true ∧ running.ring.underWay = false ∧ running.ring.postponed = false ∧
      groupAddresses running.ring running.ring.nextGroup ≠ []) ∧
    ((polled 0).ring.timer.isSome = true ∧ (polled 0).ring.underWay = true) ∧
    ((running.withRing { running.ring with postponed := true }).ring.postponed = true) ∧
    (∀ m v, Heads (asked (.setSweepMode m v) running) .a 7#8 (.setSweepMode m v)) :=
  ⟨by decide +kernel, by decide +kernel, rfl, fun _ _ => ⟨rfl, rfl⟩⟩

theorem witness_DeckMoveGeometry :
    2 < 12 ∧ 5 < 12 ∧ stepsOf 12 2 5 .cw = 3 ∧ stepsOf 12 2 5 .ccw = 9 ∧ stepsOf 12 2 8 .cw = stepsOf 12 2 8 .ccw ∧
    running.deck.map (·.pos) = some (.aligned 2) ∧
    (after .deckMoveTimeout turning).deck.map (fun d => (d.pos, d.reported)) = some (.unproven, some 2) := by
  decide +kernel

theorem witness_DecodeOfEncode :
    Instr.wf (.orderedRequest .a 7#8 (.movePoint 127 1)) = true ∧
    encodeFrame (.orderedRequest .a 7#8 (.movePoint 127 1)) = some (.a, [0xA5#8, 4#8, 0x23#8, 7#8, 127#8, 1#8]) := by
  decide

/-- R186, Table 12-6: the POLL of address 5, worked out by hand from the shifts, and a DECK answer with its 2 payload bytes. -/
theorem witness_RingFrameCheck :
    crc8 [5#8, 1#8] = 0x46#8 ∧ [2#8, 1#8].length = statusPayload .deck ∧
    goodFrame 4 .deck (ringFrame 4 2 [2#8, 1#8]) = true ∧ goodFrame 5 .deck (ringFrame 4 2 [2#8, 1#8]) = false ∧
    goodFrame 4 .detect (ringFrame 4 2 [2#8, 1#8]) = false ∧ goodFrame 4 .deck [4#8, 2#8, 2#8, 1#8, 0#8] = false := by
  decide +kernel

end Sys2Proof.Tests
end

section
/-! PROOFS. Power-on reset (R22): the state it leaves, and the capacities of that state. -/

namespace Sys2Proof.Machine

open Sys2Proof

/-- Every port after power-on reset is the port of R169. -/
@[simp] theorem portAt_reset (p : PortId) : portAt State.reset p = Port.reset := by
  cases p <;> rfl

/-- Every district after power-on reset is free (R22). -/
theorem holder_districtAt_reset (k : Nat) : (districtAt State.reset k).holder = none := by
  simp only [districtAt, entryAt, State.reset, List.getElem?_replicate]
  split <;> rfl

/-- Settles O3: the state after power-on reset is built from the values of R22's table. -/
theorem powerOnResetState : Obligations.PowerOnResetState := by
  intro asserted s
  refine ⟨_, rfl, rfl, rfl, rfl, fun n => ⟨rfl, rfl, rfl, rfl, rfl, rfl⟩, rfl, rfl, ?_, rfl, rfl, rfl, fun n => rfl, rfl,
    rfl, fun p => by cases p <;> exact ⟨rfl, rfl⟩⟩
  intro k hk
  exact List.getElem?_replicate_of_lt hk

/-- Settles O5: the reset state is what the command leaves, its lists are empty and its ports are those of R169. -/
theorem resetKeepsCapacities : Obligations.ResetKeepsCapacities := by
  have ports : PortsFit State.reset := fun p => by
    simp [PortFits, Port.reset, Config.defaultSilence]
  have counters : CountersFit State.reset := ⟨rfl, rfl, rfl⟩
  have lists : ListsFit State.reset := ⟨rfl, Nat.zero_le _, Nat.zero_le _, Nat.zero_le _⟩
  have store : StoreFits State.reset :=
    ⟨fun _ h => by simp [State.reset, Desc.blank] at h, fun _ _ h => by simp [State.reset] at h⟩
  have holdings : HoldingsFit State.reset :=
    ⟨fun k p h => by simp [holder_districtAt_reset] at h, List.nodup_nil⟩
  exact ⟨rfl, ports, counters, lists, store, holdings⟩

end Sys2Proof.Machine
end

section
/-! PROOFS. The service of the head of a request queue (R171), and the checks of the configuration requests (R4). -/

namespace Sys2Proof.Machine

open Sys2Proof

/-- What the service of a head leaves: its work done, the head gone, and its answer given (R171). -/
def served (p : PortId) (tag : Byte) (x : State × Answer) : State := respond p tag x.2 (popHead p x.1)

/-- A head whose work changes nothing is answered. -/
@[simp] theorem served_same (p : PortId) (tag : Byte) (s : State) (a : Answer) :
    served p tag (s, a) = answered p tag a s := rfl

/-- A head that the row serves, with a free place for its response, is served (R171). -/
theorem serveHead_heads {p : PortId} {tag : Byte} {r : Request} {s : State} {x : State × Answer}
    {work : Request → State → Option (State × Answer)} (h : Heads s p tag r) (hw : work r s = some x) :
    serveHead p work s = served p tag x := by
  obtain ⟨hhead, hplace⟩ := h
  simp [serveHead, hhead, hplace, hw, served]

/-- A row of the table whose meaning is the service of a head serves it. -/
theorem exec_serves {i : Instr} {p : PortId} {tag : Byte} {r : Request} {s : State} {x : State × Answer}
    {work : Request → State → Option (State × Answer)} (hi : exec i s = .next (serveHead p work s))
    (h : Heads s p tag r) (hw : work r s = some x) : exec i s = .next (served p tag x) := by
  rw [hi, serveHead_heads h hw]

/-- Port `p` is the configuring port in CONFIG, with working description `d` (R3). -/
def Configures (s : State) (p : PortId) (d : Desc) : Prop :=
  s.ctl.mode = .config ∧ s.store.session = some { port := p, working := d }

section

variable {s : State} {p : PortId} {d : Desc}

/-- The configuring port passes the checks of R4. -/
theorem checked_configuring (c : Configures s p d) (l : List (Bool × Answer)) (ok : State → State × Answer) :
    checked (configuring s p ++ l) s ok = checked l s ok := by
  obtain ⟨hmode, hsession⟩ := c
  simp [configuring, inMode, hmode, hsession]

/-- The working description that a LOAD reads is the one of the session. -/
theorem workingOf_configures (c : Configures s p d) : workingOf s = d := by
  simp [workingOf, c.2]

/-- An edit changes the working description alone (R1). -/
theorem editWorking_configures (c : Configures s p d) (f : Desc → Desc) : editWorking f s = withWorking p s (f d) := by
  simp [editWorking, withWorking, c.2]

/-- A LOAD of the configuring port is left to its own checks. -/
theorem load_configures (c : Configures s p d) (l : List (Bool × Answer)) (f : Desc → Desc) :
    load p l f s = checked l s (fun s => (editWorking f s, done)) := checked_configuring c _ _

/-- A LOAD without checks left edits the working description and is answered DONE (R4). -/
theorem load_done (c : Configures s p d) (f : Desc → Desc) : load p [] f s = (withWorking p s (f d), done) := by
  rw [load_configures c, checked, editWorking_configures c]

/-- A check that holds leaves a LOAD to the checks behind it. -/
theorem load_check (c : Configures s p d) (ok : Bool) (a : Answer) (l : List (Bool × Answer)) (f : Desc → Desc) :
    load p ((ok, a) :: l) f s = if ok then load p l f s else (s, a) := by
  simp only [load_configures c, checked]

/-- A LOAD of one entry of a table: an item outside the table and a field outside its range are refused (R4). -/
theorem load_entry (c : Configures s p d) (n bound : Nat) (ok : Bool) (t : TableId) (f : Desc → Desc) :
    load p [itemIn n bound, inRange ok t n] f s =
      if n < bound then if ok then (withWorking p s (f d), done) else (s, faulty (.fieldRange, t, n))
      else (s, refuse .unknownItem) := by
  simp only [itemIn, inRange, load_check c, load_done c, decide_eq_true_eq]

/-- A LOAD of a part of an entry asks, behind the range, that the entry is described (R4). -/
theorem load_part (c : Configures s p d) (n bound : Nat) (ok there : Bool) (t : TableId) (f : Desc → Desc) :
    load p [itemIn n bound, inRange ok t n, (there, faulty (.refMissing, t, n))] f s =
      if n < bound then
        if ok then if there then (withWorking p s (f d), done) else (s, faulty (.refMissing, t, n))
        else (s, faulty (.fieldRange, t, n))
      else (s, refuse .unknownItem) := by
  simp only [itemIn, inRange, load_check c, load_done c, decide_eq_true_eq]

/-- A row that loads one entry of a table refuses an item outside the table and a field outside its range (R4). -/
theorem entry_refusals {i : Instr} {tag : Byte} {n bound : Nat} {ok : Bool} {t : TableId} {f : Desc → Desc}
    (c : Configures s p d) (hi : exec i s = .next (served p tag (load p [itemIn n bound, inRange ok t n] f s))) :
    (bound ≤ n → exec i s = .next (answered p tag (.refused .unknownItem .none) s)) ∧
    (n < bound → ¬ ok = true →
      exec i s = .next (answered p tag (.refused .validation (.validation .fieldRange t n)) s)) := by
  rw [load_entry c] at hi
  refine ⟨fun hn => ?_, fun hn hbad => ?_⟩
  · rw [hi, if_neg (by omega)]; rfl
  · rw [hi, if_pos hn, if_neg hbad]; rfl

/-- A row that loads one entry of a table edits the working description and answers DONE (R4). -/
theorem entry_loaded {i : Instr} {tag : Byte} {n bound : Nat} {ok : Bool} {t : TableId} {f : Desc → Desc}
    (c : Configures s p d) (hi : exec i s = .next (served p tag (load p [itemIn n bound, inRange ok t n] f s)))
    (hn : n < bound) (hok : ok = true) : exec i s = .next (answered p tag (.done []) (withWorking p s (f d))) := by
  rw [hi, load_entry c, if_pos hn, if_pos hok]; rfl

end

/-- An erase flag that is set needs no field in range (R4). -/
@[simp] theorem eraseOr_one (ok : Bool) : eraseOr 1 ok = true := rfl
/-- With the erase flag clear the fields decide. -/
@[simp] theorem eraseOr_zero (ok : Bool) : eraseOr 0 ok = ok := rfl

/-- The codes of a direction, a signal kind, a route class, a deck end and a position (section 12.1). -/
@[simp] theorem isSome_dirOfCode (n : Nat) : (dirOfCode n).isSome = decide (n ≤ 1) := by
  match n with
  | 0 | 1 => rfl
  | n + 2 => simp [dirOfCode]
@[simp] theorem isSome_kindOfCode (n : Nat) : (kindOfCode n).isSome = decide (n ≤ 2) := by
  match n with
  | 0 | 1 | 2 => rfl
  | n + 3 => simp [kindOfCode]
@[simp] theorem isSome_classOfCode (n : Nat) : (classOfCode n).isSome = decide (n ≤ 1) := by
  match n with
  | 0 | 1 => rfl
  | n + 2 => simp [classOfCode]
@[simp] theorem isSome_endOfCode (n : Nat) : (endOfCode n).isSome = decide (n ≤ 1) := by
  match n with
  | 0 | 1 => rfl
  | n + 2 => simp [endOfCode]
@[simp] theorem isSome_posOfCode (n : Nat) : (posOfCode n).isSome = decide (n ≤ 1) := by
  match n with
  | 0 | 1 => rfl
  | n + 2 => simp [posOfCode]

end Sys2Proof.Machine
end

section
/-! PROOFS. LOAD of sections, points, signals and trains (R4, Tables 1-2, 1-3 and 1-6). -/

namespace Sys2Proof.Machine

open Sys2Proof

section

variable {s : State} {p : PortId} {tag : Byte} {d : Desc}

/-- The rows of the fixed entries serve the heads of their own names. -/
theorem exec_loadSection {n er len lim dis ad inp up dn fl : Nat}
    (h : Heads s p tag (.loadSection n er len lim dis ad inp up dn fl)) :
    exec (.loadSection p) s = .next (served p tag (serveLoadSection p n er len lim dis ad inp up dn fl s)) :=
  exec_serves rfl h rfl
theorem exec_loadPoint {n er ad out sec dis : Nat} (h : Heads s p tag (.loadPoint n er ad out sec dis)) :
    exec (.loadPoint p) s = .next (served p tag (serveLoadPoint p n er ad out sec dis s)) := exec_serves rfl h rfl
theorem exec_loadSignal {n er sec e k ad out dis : Nat} (h : Heads s p tag (.loadSignal n er sec e k ad out dis)) :
    exec (.loadSignal p) s = .next (served p tag (serveLoadSignal p n er sec e k ad out dis s)) := exec_serves rfl h rfl
theorem exec_loadTrain {n er ad v a b : Nat} (h : Heads s p tag (.loadTrain n er ad v a b)) :
    exec (.loadTrain p) s = .next (served p tag (serveLoadTrain p n er ad v a b s)) := exec_serves rfl h rfl

end

/-- Settles O19: by `load_entry`, with the range of each table's fields read off its check. -/
theorem loadsOfFixedEntries : Obligations.LoadsOfFixedEntries := by
  intro p tag s d hmode hsession
  have c : Configures s p d := ⟨hmode, hsession⟩
  refine ⟨?_, ?_, ?_, ?_, ?_, ?_, ?_, ?_, ?_, ?_, ?_, ?_⟩
  · intro n er len lim dis ad inp up dn fl h
    obtain ⟨hout, hrange⟩ := entry_refusals c (exec_loadSection h)
    exact ⟨hout, fun hn hbad => hrange hn (by simpa [eraseOr, optIn, and_assoc] using hbad)⟩
  · intro n er ad out sec dis h
    obtain ⟨hout, hrange⟩ := entry_refusals c (exec_loadPoint h)
    exact ⟨hout, fun hn hbad => hrange hn (by simpa [eraseOr, and_assoc] using hbad)⟩
  · intro n er sec e k ad out dis h
    obtain ⟨hout, hrange⟩ := entry_refusals c (exec_loadSignal h)
    exact ⟨hout, fun hn hbad => hrange hn (by simpa [eraseOr, and_assoc] using hbad)⟩
  · intro n er ad v a b h
    obtain ⟨hout, hrange⟩ := entry_refusals c (exec_loadTrain h)
    exact ⟨hout, fun hn hbad => hrange hn (by simpa [eraseOr, and_assoc] using hbad)⟩
  · intro n len lim dis ad inp up dn fl h hn _ _ _ _ _ _ _ _ _
    exact entry_loaded c (exec_loadSection h) hn (by simp [optIn, *])
  · intro n ad out sec dis h hn _ _ _ _
    exact entry_loaded c (exec_loadPoint h) hn (by simp [*])
  · intro n sec e k ad out dis x y h hn hsec hx hy had hout hdis
    have loaded := entry_loaded c (exec_loadSignal h) hn
      (by simp only [eraseOr_zero, hx, hy]; simp [*, -isSome_dirOfCode, -isSome_kindOfCode])
    rwa [hx, hy] at loaded
  · intro n ad v a b h hn _ _ _ _ _ _ _ _
    exact entry_loaded c (exec_loadTrain h) hn (by simp [*])
  · intro n len lim dis ad inp up dn fl h hn
    exact entry_loaded c (exec_loadSection h) hn (eraseOr_one _)
  · intro n ad out sec dis h hn
    exact entry_loaded c (exec_loadPoint h) hn (eraseOr_one _)
  · intro n sec e k ad out dis h hn
    exact entry_loaded c (exec_loadSignal h) hn (eraseOr_one _)
  · intro n ad v a b h hn
    exact entry_loaded c (exec_loadTrain h) hn (eraseOr_one _)

end Sys2Proof.Machine
end

section
/-! PROOFS. LOAD of routes, their points, and plans (R4, Tables 1-4 and 1-6). -/

namespace Sys2Proof.Machine

open Sys2Proof

section

variable {s : State} {p : PortId} {tag : Byte} {d : Desc}

/-- The rows of the entries with lists serve the heads of their own names, and those whose counts do not fit (R4). -/
theorem exec_loadRoute {n er en ex c : Nat} {secs : List (Nat × Nat)} {ovl app : List Nat} {rd de : Nat}
    (h : Heads s p tag (.loadRoute n er en ex c secs ovl app rd de)) :
    exec (.loadRoute p) s = .next (served p tag (serveLoadRoute p n er en ex c secs ovl app rd de s)) :=
  exec_serves rfl h rfl
theorem exec_loadRoutePoints {n : Nat} {pts : List (Nat × Nat × Nat)} {fls : List (Nat × Nat)}
    (h : Heads s p tag (.loadRoutePoints n pts fls)) :
    exec (.loadRoutePoints p) s = .next (served p tag (serveLoadRoutePoints p n pts fls s)) := exec_serves rfl h rfl
theorem exec_loadPlan {n er t st : Nat} {rs : List Nat} {th ad inp : Nat}
    (h : Heads s p tag (.loadPlan n er t st rs th ad inp)) :
    exec (.loadPlan p) s = .next (served p tag (serveLoadPlan p n er t st rs th ad inp s)) := exec_serves rfl h rfl
theorem exec_loadRoute_misfit {n : Nat} (h : Heads s p tag (.loadMisfit .route n)) :
    exec (.loadRoute p) s = .next (served p tag (serveMisfit p .route 192 n s)) := exec_serves rfl h rfl
theorem exec_loadRoutePoints_misfit {n : Nat} (h : Heads s p tag (.loadMisfit .routePoints n)) :
    exec (.loadRoutePoints p) s = .next (served p tag (serveMisfit p .route 192 n s)) := exec_serves rfl h rfl
theorem exec_loadPlan_misfit {n : Nat} (h : Heads s p tag (.loadMisfit .plan n)) :
    exec (.loadPlan p) s = .next (served p tag (serveMisfit p .plan 16 n s)) := exec_serves rfl h rfl

end

/-- The fields of LOAD-ROUTE in range, as Table 1-4 has them. -/
theorem routeInRange_iff (en ex c : Nat) (secs : List (Nat × Nat)) (ovl app : List Nat) (rd de : Nat) :
    routeInRange en ex c secs ovl app rd de = true ↔
      en ≤ 127 ∧ (ex < 128 ∨ ex = 65535) ∧ c ≤ 1 ∧ secs.length ≤ 12 ∧ ovl.length ≤ 2 ∧ app.length ≤ 3 ∧
        (∀ e ∈ secs, e.1 ≤ 255 ∧ e.2 ≤ 1) ∧ (∀ m ∈ ovl, m ≤ 255) ∧ (∀ m ∈ app, m ≤ 255) ∧
        ((rd = 65535 ∧ de = 255) ∨ (rd ≤ 23 ∧ de ≤ 1)) := by
  simp only [routeInRange, optIn, isSome_classOfCode, isSome_dirOfCode, isSome_endOfCode, Bool.and_eq_true,
    Bool.or_eq_true, decide_eq_true_eq, beq_iff_eq, List.all_eq_true]
  tauto

/-- A code that is 0 or 1 names a direction, a position or a deck end. -/
theorem dirOfCode_flag {n : Nat} (h : n ≤ 1) : dirOfCode n = some (if n = 0 then Dir.up else Dir.down) := by
  interval_cases n <;> rfl
theorem posOfCode_flag {n : Nat} (h : n ≤ 1) : posOfCode n = some (if n = 0 then Position.normal else Position.reverse) := by
  interval_cases n <;> rfl
theorem endOfCode_flag {n : Nat} (h : n ≤ 1) : endOfCode n = some (if n = 0 then DeckEnd.a else DeckEnd.b) := by
  interval_cases n <;> rfl

/-- A list whose codes all name a value is read entry by entry. -/
theorem filterMap_eq_map_of {α β : Type} {f : α → Option β} {g : α → β} {l : List α} (h : ∀ a ∈ l, f a = some (g a)) :
    l.filterMap f = l.map g := by
  rw [← List.filterMap_eq_map, List.filterMap_congr h]
  rfl

/-- The deck requirement that LOAD-ROUTE stores (Table 1-4). -/
theorem deckReq_of_range {rd de : Nat} (h : (rd = 65535 ∧ de = 255) ∨ (rd ≤ 23 ∧ de ≤ 1)) :
    (endOfCode de).map (fun e => (rd, e)) =
      if rd = 65535 then none else some (rd, if de = 0 then DeckEnd.a else DeckEnd.b) := by
  obtain ⟨rfl, rfl⟩ | ⟨hrd, hde⟩ := h
  · rfl
  · have hroad : ¬ rd = 65535 := by omega
    rw [endOfCode_flag hde, if_neg hroad]; rfl

/-- The point lists of LOAD-ROUTE-POINTS in range, as Table 1-4 has them. -/
theorem pointListsInRange_iff (pts : List (Nat × Nat × Nat)) (fls : List (Nat × Nat)) :
    (pts.length ≤ 8 && pts.all (fun x => x.1 ≤ 127 && (posOfCode x.2.1).isSome && x.2.2 ≤ 11) &&
       fls.length ≤ 4 && fls.all (fun x => x.1 ≤ 127 && (posOfCode x.2).isSome)) = true ↔
      pts.length ≤ 8 ∧ fls.length ≤ 4 ∧ (∀ e ∈ pts, e.1 ≤ 127 ∧ e.2.1 ≤ 1 ∧ e.2.2 ≤ 11) ∧
        (∀ e ∈ fls, e.1 ≤ 127 ∧ e.2 ≤ 1) := by
  simp only [isSome_posOfCode, Bool.and_eq_true, decide_eq_true_eq, List.all_eq_true, and_assoc]
  tauto

/-- The three refusals of LOAD-ROUTE-POINTS and its effect: item, ranges, and a described route (R4). -/
theorem exec_loadRoutePoints_configures {s : State} {p : PortId} {tag : Byte} {d : Desc} {n : Nat}
    {pts : List (Nat × Nat × Nat)} {fls : List (Nat × Nat)} (c : Configures s p d)
    (h : Heads s p tag (.loadRoutePoints n pts fls)) :
    exec (.loadRoutePoints p) s = .next (served p tag (if n < 192 then
      if pts.length ≤ 8 ∧ fls.length ≤ 4 ∧ (∀ e ∈ pts, e.1 ≤ 127 ∧ e.2.1 ≤ 1 ∧ e.2.2 ≤ 11) ∧
          (∀ e ∈ fls, e.1 ≤ 127 ∧ e.2 ≤ 1) then
        if (findItem d.routes n).isSome then
          (withWorking p s { d with routes := updateItem d.routes n (fun r => { r with
            points := pts.filterMap (fun x => (posOfCode x.2.1).map (fun q => { point := x.1, pos := q, idx := x.2.2 })),
            flanks := fls.filterMap (fun x => (posOfCode x.2).map (fun q => (x.1, q))) }) }, done)
        else (s, faulty (.refMissing, .route, n))
      else (s, faulty (.fieldRange, .route, n))
    else (s, refuse .unknownItem))) := by
  rw [exec_loadRoutePoints h, serveLoadRoutePoints, load_part c, workingOf_configures c]
  simp only [pointListsInRange_iff]

/-- Settles O20: by `load_entry` for routes and plans and by `load_part` for a route's point lists. -/
theorem loadsOfRoutesAndPlans : Obligations.LoadsOfRoutesAndPlans := by
  intro p tag s d hmode hsession
  have c : Configures s p d := ⟨hmode, hsession⟩
  refine ⟨?_, ?_, ?_, ?_, ?_, ?_, ?_, ?_, ?_, ?_⟩
  · intro n er en ex k secs ovl app rd de h
    obtain ⟨hout, hrange⟩ := entry_refusals c (exec_loadRoute h)
    exact ⟨hout, fun hn hbad => hrange hn (by simpa only [eraseOr, Bool.or_eq_true, Bool.and_eq_true, beq_iff_eq,
      routeInRange_iff] using hbad)⟩
  · intro n pts fls h
    have row := exec_loadRoutePoints_configures c h
    refine ⟨fun hn => ?_, fun hn hbad => ?_⟩
    · rwa [if_neg (by omega)] at row
    · rwa [if_pos hn, if_neg hbad] at row
  · intro n er t st rs th ad inp h
    obtain ⟨hout, hrange⟩ := entry_refusals c (exec_loadPlan h)
    exact ⟨hout, fun hn hbad => hrange hn (by simpa [eraseOr, and_assoc] using hbad)⟩
  · intro n
    refine ⟨fun h hn => ?_, fun h hn => ?_, fun h hn => ?_⟩
    · exact (entry_refusals c (exec_loadRoute_misfit h)).2 hn (by decide)
    · exact (entry_refusals c (exec_loadRoutePoints_misfit h)).2 hn (by decide)
    · exact (entry_refusals c (exec_loadPlan_misfit h)).2 hn (by decide)
  · intro n en ex k secs ovl app rd de x h hn hen hex hx hsecs hovl happ hsec hov hap hdeck
    have hk : k ≤ 1 := by simpa [hx] using isSome_classOfCode k
    have loaded := entry_loaded c (exec_loadRoute h) hn
      ((routeInRange_iff ..).2 ⟨hen, hex, hk, hsecs, hovl, happ, hsec, hov, hap, hdeck⟩)
    have hdirs := filterMap_eq_map_of (f := fun x : Nat × Nat => (dirOfCode x.2).map (fun d => (x.1, d)))
      (g := fun e => (e.1, if e.2 = 0 then Dir.up else Dir.down)) (l := secs)
      (fun e he => by rw [dirOfCode_flag (hsec e he).2]; rfl)
    simp only [routeOf, hx, hdirs, deckReq_of_range hdeck] at loaded
    exact loaded
  · intro n pts fls h hn hdesc hp hf hpts hfls
    have row := exec_loadRoutePoints_configures c h
    have hpoints := filterMap_eq_map_of
      (f := fun x : Nat × Nat × Nat => (posOfCode x.2.1).map (fun q => ({ point := x.1, pos := q, idx := x.2.2 } : RoutePoint)))
      (g := fun e => { point := e.1, pos := if e.2.1 = 0 then .normal else .reverse, idx := e.2.2 }) (l := pts)
      (fun e he => by rw [posOfCode_flag (hpts e he).2.1]; rfl)
    have hflanks := filterMap_eq_map_of (f := fun x : Nat × Nat => (posOfCode x.2).map (fun q => (x.1, q)))
      (g := fun e => (e.1, if e.2 = 0 then Position.normal else Position.reverse)) (l := fls)
      (fun e he => by rw [posOfCode_flag (hfls e he).2]; rfl)
    rw [if_pos hn, if_pos ⟨hp, hf, hpts, hfls⟩, if_pos hdesc, hpoints, hflanks] at row
    exact row
  · intro n pts fls h hn hdesc hp hf hpts hfls
    have row := exec_loadRoutePoints_configures c h
    rw [if_pos hn, if_pos ⟨hp, hf, hpts, hfls⟩, if_neg (by simp [hdesc])] at row
    exact row
  · intro n t st rs th ad inp h hn _ _ _ _ _ _ _ _
    exact entry_loaded c (exec_loadPlan h) hn (by simp_all)
  · intro n en ex k secs ovl app rd de h hn
    exact entry_loaded c (exec_loadRoute h) hn (eraseOr_one _)
  · intro n t st rs th ad inp h hn
    exact entry_loaded c (exec_loadPlan h) hn (eraseOr_one _)

end Sys2Proof.Machine
end

section
/-! PROOFS. LOAD of districts, deck, roads, traction, roles and parameters (R4, R5), and the guards of every configuration
request (R4, R6, R8). -/

namespace Sys2Proof.Machine

open Sys2Proof

section

variable {s : State} {p : PortId} {tag : Byte} {d : Desc}

/-- The rows of the single entries serve the heads of their own names. -/
theorem exec_loadDistrict {k n : Nat} (h : Heads s p tag (.loadDistrict k n)) :
    exec (.loadDistrict p) s = .next (served p tag (serveLoadDistrict p k n s)) := exec_serves rfl h rfl
theorem exec_loadDeck {er n sec ad : Nat} (h : Heads s p tag (.loadDeck er n sec ad)) :
    exec (.loadDeck p) s = .next (served p tag (serveLoadDeck p er n sec ad s)) := exec_serves rfl h rfl
theorem exec_loadDeckRoad {rd er sec e : Nat} (h : Heads s p tag (.loadDeckRoad rd er sec e)) :
    exec (.loadDeckRoad p) s = .next (served p tag (serveLoadDeckRoad p rd er sec e s)) := exec_serves rfl h rfl
theorem exec_loadTraction {er ad : Nat} (h : Heads s p tag (.loadTraction er ad)) :
    exec (.loadTraction p) s = .next (served p tag (serveLoadTraction p er ad s)) := exec_serves rfl h rfl
theorem exec_loadPortRoles {sc a b c e : Nat} (h : Heads s p tag (.loadPortRoles sc a b c e)) :
    exec (.loadPortRoles p) s = .next (served p tag (serveLoadPortRoles p sc a b c e s)) := exec_serves rfl h rfl
theorem exec_loadParameter {k v : Nat} (h : Heads s p tag (.loadParameter k v)) :
    exec (.loadParameter p) s = .next (served p tag (serveLoadParameter p k v s)) := exec_serves rfl h rfl

/-- A LOAD of a table with one entry has the range check alone (R4). -/
theorem load_single (c : Configures s p d) (ok : Bool) (t : TableId) (f : Desc → Desc) :
    load p [inRange ok t noItem] f s =
      if ok then (withWorking p s (f d), done) else (s, faulty (.fieldRange, t, noItem)) := by
  simp only [inRange, load_check c, load_done c]

/-- A row that loads the one entry of a table refuses a field outside its range (R4). -/
theorem single_refusal {i : Instr} {ok : Bool} {t : TableId} {f : Desc → Desc} (c : Configures s p d)
    (hi : exec i s = .next (served p tag (load p [inRange ok t noItem] f s))) (hbad : ¬ ok = true) :
    exec i s = .next (answered p tag (.refused .validation (.validation .fieldRange t 65535)) s) := by
  rw [hi, load_single c, if_neg hbad]; rfl

/-- A row that loads the one entry of a table edits the working description (R4). -/
theorem single_loaded {i : Instr} {ok : Bool} {t : TableId} {f : Desc → Desc} (c : Configures s p d)
    (hi : exec i s = .next (served p tag (load p [inRange ok t noItem] f s))) (hok : ok = true) :
    exec i s = .next (answered p tag (.done []) (withWorking p s (f d))) := by
  rw [hi, load_single c, if_pos hok]; rfl

/-- The refusals of LOAD-DECK-ROAD and its effect: road, ranges, and a described deck (R4). -/
theorem exec_loadDeckRoad_configures {rd er sec e : Nat} (c : Configures s p d)
    (h : Heads s p tag (.loadDeckRoad rd er sec e)) :
    exec (.loadDeckRoad p) s = .next (served p tag (if rd < 24 then
      if er = 1 ∨ (er = 0 ∧ (sec < 256 ∨ sec = 65535) ∧ e ≤ 1) then
        if d.deck.isSome then
          (withWorking p s { d with deck := d.deck.map (fun k => { k with
            roads := putOrDrop k.roads rd er ((dirOfCode e).map (fun x => { sec := optOf sec, meeting := x })) }) }, done)
        else (s, faulty (.refMissing, .deck, rd))
      else (s, faulty (.fieldRange, .deck, rd))
    else (s, refuse .unknownItem))) := by
  rw [exec_loadDeckRoad h, serveLoadDeckRoad, load_part c, workingOf_configures c]
  simp [eraseOr, optIn]

end

/-- Settles O21: by `load_entry` for districts, `load_single` for the tables of one entry, and `load_part` for a road. -/
theorem loadsOfSingleEntries : Obligations.LoadsOfSingleEntries := by
  intro p tag s d hmode hsession
  have c : Configures s p d := ⟨hmode, hsession⟩
  refine ⟨?_, ?_, ?_, ?_, ?_, ?_, ?_, ?_, ?_, ?_, ?_, ?_⟩
  · intro k n h
    obtain ⟨hout, hrange⟩ := entry_refusals c (exec_loadDistrict h)
    exact ⟨hout, fun hk hn => hrange hk (by simpa using hn)⟩
  · intro er n sec ad h hbad
    exact single_refusal c (exec_loadDeck h) (by simpa [eraseOr] using hbad)
  · intro rd er sec e h
    have row := exec_loadDeckRoad_configures c h
    refine ⟨fun hrd => ?_, fun hrd hbad => ?_, fun hrd hok hdeck => ?_, fun k hrd her hdeck => ?_⟩
    · rwa [if_neg (by omega)] at row
    · rwa [if_pos hrd, if_neg hbad] at row
    · rwa [if_pos hrd, if_pos hok, hdeck] at row
    · rw [if_pos hrd, if_pos (.inl her), hdeck, her] at row
      exact row
  · intro er ad h hbad
    exact single_refusal c (exec_loadTraction h) (by simpa [eraseOr] using hbad)
  · intro sc a b k e h hbad
    exact single_refusal c (exec_loadPortRoles h) (by simpa [and_assoc] using hbad)
  · intro k n h hk hn
    exact entry_loaded c (exec_loadDistrict h) hk (by simpa using hn)
  · intro n sec ad h hsec had
    exact single_loaded c (exec_loadDeck h) (by simp [*])
  · intro n sec ad h
    exact single_loaded c (exec_loadDeck h) (eraseOr_one _)
  · intro rd sec e x k h hrd hsec hx hdeck
    have row := exec_loadDeckRoad_configures c h
    have he : e ≤ 1 := by simpa [hx] using isSome_dirOfCode e
    rw [if_pos hrd, if_pos (.inr ⟨rfl, hsec, he⟩), hdeck, hx] at row
    exact row
  · intro ad h had
    exact single_loaded c (exec_loadTraction h) (by simp [*])
  · intro ad h
    exact single_loaded c (exec_loadTraction h) (eraseOr_one _)
  · intro sc a b k e h hsc ha hb hk he
    exact single_loaded c (exec_loadPortRoles h) (by simp [*])

/-- A two-byte field, the most significant byte first (R185). -/
theorem b2_eq (n : Nat) : b2 n = inTwo n := by
  simp [b2, bytesOf, inTwo]

/-- The parameters in the order of Table 1-7, the sweep mode by its code. -/
def paramFields (q : Params) : List Nat :=
  [q.sweepPeriod, codeSweep q.sweepMode, q.threshold, q.stopMargin, q.releaseSpeed, q.shuntLimit, q.pointTimeout,
    q.approachTime, q.overlapTime, q.retryLife, q.deckStep, q.deckSettle, q.screening, q.runLimit, q.admission]

/-- The ranges of Table 1-7, row by row. -/
theorem paramRange_of_table {k lo hi : Nat}
    (h : [(40, 1000), (0, 2), (2, 30), (0, 255), (0, 100), (20, 400), (500, 10000), (2, 120), (0, 60), (5, 300),
      (200, 5000), (0, 5000), (0, 30), (30, 900), (10, 600)][k]? = some (lo, hi)) : k < 15 ∧ paramRange k = (lo, hi) := by
  have hk : k < 15 := (List.getElem?_eq_some_iff.1 h).1
  exact ⟨hk, by interval_cases k <;> exact Option.some.inj h⟩

/-- A stored sweep mode code is one of the three (Table 1-7). -/
theorem paramStored_sweepMode (v : Nat) : paramStored 1 v ≤ 2 := by
  simp only [paramStored, paramRange, clampTo]
  split
  · omega
  · split <;> omega

/-- The code of a sweep mode that a code up to 2 names is that code. -/
theorem codeSweep_sweepOfCode {v : Nat} (h : v ≤ 2) : codeSweep (sweepOfCode v) = v := by
  interval_cases v <;> rfl

/-- Storing a parameter sets its row of Table 1-7 and no other (R5). -/
theorem paramFields_setParam {k : Nat} (hk : k < 15) (v : Nat) (q : Params) :
    paramFields (setParam k (paramStored k v) q) = (paramFields q).set k (paramStored k v) := by
  match k, hk with
  | 1, _ => simp [paramFields, setParam, codeSweep_sweepOfCode (paramStored_sweepMode v)]
  | 0, _ | 2, _ | 3, _ | 4, _ | 5, _ | 6, _ | 7, _ | 8, _ | 9, _ | 10, _ | 11, _ | 12, _ | 13, _ | 14, _ => rfl

/-- LOAD-PARAMETER of the configuring port (R5). -/
theorem serveLoadParameter_configures {s : State} {p : PortId} {d : Desc} (c : Configures s p d) (k v : Nat) :
    serveLoadParameter p k v s =
      if k < 15 then (withWorking p s { d with params := setParam k (paramStored k v) d.params },
        .done (b2 (paramStored k v)))
      else (s, refuse .unknownItem) := by
  rw [serveLoadParameter, checked_configuring c]
  simp only [itemIn, checked, editWorking_configures c, decide_eq_true_eq]

/-- Settles O22: the row of Table 1-7 that the code names takes the stored value, which is the nearest limit. -/
theorem loadParameterStoresTheNearestLimit : Obligations.LoadParameterStoresTheNearestLimit := by
  intro p tag s d k v hmode hsession h
  have row := exec_loadParameter h
  rw [serveLoadParameter_configures ⟨hmode, hsession⟩] at row
  refine ⟨fun lo hi hrange => ?_, fun hk => ?_⟩
  · obtain ⟨hk, hlimits⟩ := paramRange_of_table hrange
    have hstored : paramStored k v = if v < lo then lo else if hi < v then hi else v := by
      rw [paramStored, hlimits]; rfl
    rw [if_pos hk] at row
    have hfields := paramFields_setParam hk v d.params
    rw [hstored] at row hfields
    rw [b2_eq] at row
    exact ⟨_, hfields, row⟩
  · rwa [if_neg (by omega)] at row

/-- Any request of the configuration is refused by its first two checks outside CONFIG, and for any port but the
configuring one (R4). -/
theorem checked_configuring_guards (s : State) (p : PortId) (l : List (Bool × Answer)) (ok : State → State × Answer) :
    (s.ctl.mode ≠ .config → checked (configuring s p ++ l) s ok = (s, refuse .wrongMode)) ∧
    (s.ctl.mode = .config → (∀ x, s.store.session = some x → x.port ≠ p) →
      checked (configuring s p ++ l) s ok = (s, refuse .notConfigurer)) := by
  refine ⟨fun hmode => ?_, fun hmode hother => ?_⟩
  · simp [configuring, inMode, checked, hmode]
  · cases hs : s.store.session with
    | none => simp [configuring, inMode, checked, hmode, hs]
    | some x => simp [configuring, inMode, checked, hmode, hs, hother x hs]

/-- A row whose work begins with the checks of R4 is guarded by them. -/
theorem exec_guarded {i : Instr} {p : PortId} {tag : Byte} {s : State} {l : List (Bool × Answer)}
    {ok : State → State × Answer} (hi : exec i s = .next (served p tag (checked (configuring s p ++ l) s ok))) :
    (s.ctl.mode ≠ .config → exec i s = .next (answered p tag (.refused .wrongMode .none) s)) ∧
    (s.ctl.mode = .config → (∀ x, s.store.session = some x → x.port ≠ p) →
      exec i s = .next (answered p tag (.refused .notConfigurer .none) s)) := by
  obtain ⟨hmode, hport⟩ := checked_configuring_guards s p l ok
  exact ⟨fun h => by rw [hi, hmode h]; rfl, fun h h' => by rw [hi, hport h h']; rfl⟩

section

variable {s : State} {p : PortId} {tag : Byte}

/-- The rows of the session serve the heads of their own names. -/
theorem exec_beginConfig (h : Heads s p tag .beginConfig) :
    exec (.beginConfig p) s = .next (served p tag (serveBegin p s)) := exec_serves rfl h rfl
theorem exec_commitConfig (h : Heads s p tag .commitConfig) :
    exec (.commitConfig p) s = .next (served p tag (serveCommit p s)) := exec_serves rfl h rfl
theorem exec_abandonConfig (h : Heads s p tag .abandonConfig) :
    exec (.abandonConfig p) s = .next (served p tag (serveAbandon p s)) := exec_serves rfl h rfl

end

/-- Settles O23: every configuration request begins with the checks of R4. -/
theorem configurationRequestsAreGuarded : Obligations.ConfigurationRequestsAreGuarded := by
  intro p tag r c s h row
  rcases row with row | ⟨_, _, _, _, _, _, _, _, _, _, rfl, rfl⟩ | ⟨_, _, _, _, _, _, rfl, rfl⟩ |
    ⟨_, _, _, _, _, _, _, _, rfl, rfl⟩ | ⟨_, _, _, _, _, _, _, _, _, _, rfl, rfl⟩ | ⟨_, _, _, rfl, rfl⟩ |
    ⟨_, _, rfl, rfl⟩ | ⟨_, _, _, _, rfl, rfl⟩ | ⟨_, _, _, _, rfl, rfl⟩ | ⟨_, _, _, _, _, _, rfl, rfl⟩ |
    ⟨_, _, _, _, _, _, _, _, rfl, rfl⟩ | ⟨_, _, rfl, rfl⟩ | ⟨_, _, _, _, _, rfl, rfl⟩ | ⟨_, _, rfl, rfl⟩
  · simp only [List.mem_cons, Prod.mk.injEq, List.not_mem_nil, or_false] at row
    obtain ⟨rfl, rfl⟩ | ⟨rfl, rfl⟩ := row
    · exact exec_guarded (l := []) (exec_commitConfig h)
    · exact exec_guarded (l := []) (exec_abandonConfig h)
  · exact exec_guarded (exec_loadSection h)
  · exact exec_guarded (exec_loadPoint h)
  · exact exec_guarded (exec_loadSignal h)
  · exact exec_guarded (exec_loadRoute h)
  · exact exec_guarded (exec_loadRoutePoints h)
  · exact exec_guarded (exec_loadDistrict h)
  · exact exec_guarded (exec_loadDeck h)
  · exact exec_guarded (exec_loadDeckRoad h)
  · exact exec_guarded (exec_loadTrain h)
  · exact exec_guarded (exec_loadPlan h)
  · exact exec_guarded (exec_loadTraction h)
  · exact exec_guarded (exec_loadPortRoles h)
  · exact exec_guarded (exec_loadParameter h)

end Sys2Proof.Machine
end

section
/-! PROOFS. What the shared operations leave alone: a port changed, a response given, a head gone, a ring command placed. -/

namespace Sys2Proof.Machine

open Sys2Proof

/-! ### The quiet part of a state whose ports change -/

/-- The quiet part of a state with a port replaced. -/
theorem quiet_setPort_eq (s : State) (p : PortId) (v : Port) :
    quiet (setPort s p v) = setPort (quiet s) p (quietPort v) := by
  cases p <;> rfl

/-- A port of the quiet part. -/
theorem portAt_quiet (s : State) (p : PortId) : portAt (quiet s) p = quietPort (portAt s p) := by
  cases p <;> rfl

/-- A change of a port that leaves its notices and its lost count to themselves keeps two states alike. -/
theorem quiet_updatePort_congr {s t : State} {f : Port → Port} (p : PortId)
    (hf : ∀ q, quietPort (f q) = quietPort (f (quietPort q))) (h : quiet t = quiet s) :
    quiet (updatePort t p f) = quiet (updatePort s p f) := by
  simp only [updatePort, quiet_setPort_eq, h]
  rw [hf, hf (portAt s p), quiet_port h]

/-- The head's leaving looks at nothing that reporting changes (R171, R173). -/
theorem quietPort_leaveHead (q : Port) : quietPort (leaveHead q) = quietPort (leaveHead (quietPort q)) := by
  simp only [leaveHead, apply_ite quietPort]
  rfl

/-- Two states alike stay alike when the same head leaves. -/
theorem quiet_popHead_congr {s t : State} (p : PortId) (h : quiet t = quiet s) :
    quiet (popHead p t) = quiet (popHead p s) := quiet_updatePort_congr p quietPort_leaveHead h

/-- Two states alike stay alike when the same response is produced (R172). -/
theorem quiet_pushResponse_congr {s t : State} (p : PortId) (r : Response) (h : quiet t = quiet s) :
    quiet (pushResponse p r t) = quiet (pushResponse p r s) := by
  refine quiet_updatePort_congr p (fun q => ?_) h
  simp only [apply_ite quietPort]
  rfl

/-- Two states alike stay alike when the same answer is given (R172). -/
theorem quiet_respond_congr {s t : State} (p : PortId) (tag : Byte) (a : Answer) (h : quiet t = quiet s) :
    quiet (respond p tag a t) = quiet (respond p tag a s) := by
  unfold respond
  generalize responsesOf tag a = l
  induction l generalizing s t with
  | nil => exact h
  | cons r l ih => exact ih (quiet_pushResponse_congr p r h)

/-- Two states alike stay alike when the same head is served. -/
theorem quiet_served_congr {s t : State} (p : PortId) (tag : Byte) (a : Answer) (h : quiet t = quiet s) :
    quiet (served p tag (t, a)) = quiet (served p tag (s, a)) :=
  quiet_respond_congr p tag a (quiet_popHead_congr p h)

/-! ### The blocks after an answer -/

/-- A change of a port leaves every other block. -/
theorem updatePort_eq (s : State) (p : PortId) (f : Port → Port) :
    updatePort s p f = s.withPorts (updatePort s p f).ports := rfl

/-- An answer changes the ports alone (R172). -/
theorem respond_eq (p : PortId) (tag : Byte) (a : Answer) (s : State) :
    respond p tag a s = s.withPorts (respond p tag a s).ports := by
  refine foldl_keeps (fun t => t = s.withPorts t.ports) (fun s r => pushResponse p r s) (fun t r h => ?_) _ s rfl
  rw [pushResponse_eq]
  generalize (pushResponse p r t).ports = x
  rw [h]
  rfl

section

variable (p : PortId) (tag : Byte) (a : Answer) (s : State)

@[simp] theorem respond_store : (respond p tag a s).store = s.store := by rw [respond_eq]; rfl
@[simp] theorem respond_ctl : (respond p tag a s).ctl = s.ctl := by rw [respond_eq]; rfl
@[simp] theorem respond_il : (respond p tag a s).il = s.il := by rw [respond_eq]; rfl
@[simp] theorem respond_engine : (respond p tag a s).engine = s.engine := by rw [respond_eq]; rfl
@[simp] theorem respond_trains : (respond p tag a s).trains = s.trains := by rw [respond_eq]; rfl
@[simp] theorem respond_deck : (respond p tag a s).deck = s.deck := by rw [respond_eq]; rfl
@[simp] theorem respond_demo : (respond p tag a s).demo = s.demo := by rw [respond_eq]; rfl
@[simp] theorem respond_ring : (respond p tag a s).ring = s.ring := by rw [respond_eq]; rfl
@[simp] theorem popHead_store : (popHead p s).store = s.store := rfl
@[simp] theorem popHead_ctl : (popHead p s).ctl = s.ctl := rfl
@[simp] theorem popHead_il : (popHead p s).il = s.il := rfl
@[simp] theorem popHead_engine : (popHead p s).engine = s.engine := rfl
@[simp] theorem popHead_trains : (popHead p s).trains = s.trains := rfl
@[simp] theorem popHead_deck : (popHead p s).deck = s.deck := rfl
@[simp] theorem popHead_demo : (popHead p s).demo = s.demo := rfl
@[simp] theorem popHead_ring : (popHead p s).ring = s.ring := rfl

end

/-- The blocks of a served head are those its work leaves. -/
theorem served_blocks (p : PortId) (tag : Byte) (x : State × Answer) :
    (served p tag x).store = x.1.store ∧ (served p tag x).ctl = x.1.ctl ∧ (served p tag x).il = x.1.il ∧
    (served p tag x).engine = x.1.engine ∧ (served p tag x).trains = x.1.trains ∧ (served p tag x).deck = x.1.deck ∧
    (served p tag x).demo = x.1.demo ∧ (served p tag x).ring = x.1.ring := by
  simp [served]

/-- The head's leaving keeps the responses of its port (R171). -/
theorem responses_leaveHead (q : Port) : (leaveHead q).responses = q.responses := by
  simp only [leaveHead, apply_ite Port.responses]
  exact ite_self _

/-- A single response to a port with a free place stands last in its list (R172). -/
theorem responses_respond {p : PortId} {tag : Byte} {a : Answer} {s t : State}
    (hone : responsesOf tag a = [{ tag := tag, answer := a }]) (hplace : hasPlace s p = true)
    (hsame : (portAt t p).responses = (portAt s p).responses) :
    (portAt (respond p tag a t) p).responses = (portAt s p).responses ++ [{ tag := tag, answer := a }] := by
  have hfree : hasPlace t p = true := by simpa [hasPlace, hsame] using hplace
  rw [respond_joins p tag a t hone hfree]
  simp [hsame]

/-- The response to a served head stands last in its port's list, when the work leaves the responses (R171, R172). -/
theorem responses_served {p : PortId} {tag : Byte} {a : Answer} {s t : State}
    (hone : responsesOf tag a = [{ tag := tag, answer := a }]) (hplace : hasPlace s p = true)
    (hsame : (portAt t p).responses = (portAt s p).responses) :
    (portAt (served p tag (t, a)) p).responses = (portAt s p).responses ++ [{ tag := tag, answer := a }] := by
  refine responses_respond hone hplace ?_
  simp [popHead, responses_leaveHead, hsame]

/-! ### The parts two states share -/

/-- Ports with the same quiet part have the same responses. -/
theorem responses_of_quiet {s t : State} (h : quiet t = quiet s) (p : PortId) :
    (portAt t p).responses = (portAt s p).responses := congrArg (fun q => q.responses) (quiet_port h p)

section

variable {s t : State}

theorem inner_store (h : inner t = inner s) : t.store = s.store := congrArg (fun x => x.store) h
theorem inner_ctl (h : inner t = inner s) : t.ctl = s.ctl := congrArg (fun x => x.ctl) h
theorem inner_il (h : inner t = inner s) : t.il = s.il := congrArg (fun x => x.il) h
theorem inner_engine (h : inner t = inner s) : t.engine = s.engine := congrArg (fun x => x.engine) h
theorem inner_trains (h : inner t = inner s) : t.trains = s.trains := congrArg (fun x => x.trains) h
theorem inner_deck (h : inner t = inner s) : t.deck = s.deck := congrArg (fun x => x.deck) h
theorem inner_demo (h : inner t = inner s) : t.demo = s.demo := congrArg (fun x => x.demo) h
theorem inner_port (h : inner t = inner s) (p : PortId) : quietPort (portAt t p) = quietPort (portAt s p) := by
  cases p
  · exact congrArg (fun x => x.ports.a) h
  · exact congrArg (fun x => x.ports.b) h
  · exact congrArg (fun x => x.ports.c) h
  · exact congrArg (fun x => x.ports.d) h
theorem responses_of_inner (h : inner t = inner s) (p : PortId) :
    (portAt t p).responses = (portAt s p).responses := congrArg (fun q => q.responses) (inner_port h p)
theorem inner_of_quiet (h : quiet t = quiet s) : inner t = inner s := by rw [inner, inner, h]

/-- Two states alike stay alike with the same block replaced. -/
theorem quiet_withStore_congr (h : quiet t = quiet s) (v : Store) : quiet (t.withStore v) = quiet (s.withStore v) :=
  congrArg (fun x => x.withStore v) h
theorem quiet_withCtl_congr (h : quiet t = quiet s) (v : Control) : quiet (t.withCtl v) = quiet (s.withCtl v) :=
  congrArg (fun x => x.withCtl v) h
theorem quiet_withEngine_congr (h : quiet t = quiet s) (v : Engine) : quiet (t.withEngine v) = quiet (s.withEngine v) :=
  congrArg (fun x => x.withEngine v) h
theorem quiet_withTrains_congr (h : quiet t = quiet s) (v : Table TrainRec) :
    quiet (t.withTrains v) = quiet (s.withTrains v) := congrArg (fun x => x.withTrains v) h
theorem quiet_withDeck_congr (h : quiet t = quiet s) (v : Option DeckState) :
    quiet (t.withDeck v) = quiet (s.withDeck v) := congrArg (fun x => x.withDeck v) h
theorem quiet_withDemo_congr (h : quiet t = quiet s) (v : Demo) : quiet (t.withDemo v) = quiet (s.withDemo v) :=
  congrArg (fun x => x.withDemo v) h
theorem quiet_withRing_congr (h : quiet t = quiet s) (v : Ring) : quiet (t.withRing v) = quiet (s.withRing v) :=
  congrArg (fun x => x.withRing v) h

end

/-- A change of the ring is none of the part without it. -/
@[simp] theorem inner_withRing (s : State) (r : Ring) : inner (s.withRing r) = inner s := rfl

/-! ### Ring commands -/

/-- The ring without the places where commands wait (R159). -/
def ringRest (r : Ring) : Ring := { r with stopRun := [], queue := [], slot := none }

@[simp] theorem ringRest_refillSlot (r : Ring) : ringRest (refillSlot r) = ringRest r := by
  unfold refillSlot
  split
  · split <;> rfl
  · rfl

@[simp] theorem ringRest_placeOver (k : Nat) (r : Ring) (c : RingCmd) : ringRest (placeOver k r c).1 = ringRest r := by
  induction k generalizing r with
  | zero => rfl
  | succ k ih =>
    unfold placeOver
    split
    · rfl
    · split
      · rw [ih, evictOne, ringRest_refillSlot]; rfl
      · rfl

@[simp] theorem ringRest_placeFull (r : Ring) (c : RingCmd) : ringRest (placeFull r c).1 = ringRest r := by
  cases c with
  | aspect n a => exact ringRest_placeOver 3 r _
  | speed n v d => exact ringRest_placeOver 3 r _
  | lamp n l => rfl
  | pointMove n q => rfl
  | deckTurn n d => rfl
  | power on => rfl

/-- A command that is placed changes nothing but the waiting commands (R159, R161). -/
@[simp] theorem ringRest_placeCmd (r : Ring) (c : RingCmd) : ringRest (placeCmd r c).1 = ringRest r := by
  unfold placeCmd
  repeat' split
  · rfl
  · rfl
  · rfl
  · rfl
  · exact ringRest_placeFull r c

/-- A command that is offered changes nothing of the ring but the waiting commands (R159, R161). -/
@[simp] theorem ringRest_offer (c : RingCmd) (s : State) : ringRest (offer c s).ring = ringRest s.ring := by
  rw [offer_ring]
  split
  · exact ringRest_placeCmd s.ring c
  · rfl

/-- A POWER command offered sets the commanded power and places the command (R153). -/
theorem ringRest_offerPower (on : Bool) (s : State) :
    ringRest (offerPower on s).ring = { ringRest s.ring with power := some on } := by
  rw [offerPower, ringRest_offer]; rfl

@[simp] theorem inner_offerPower (on : Bool) (s : State) : inner (offerPower on s) = inner s := by
  rw [offerPower, inner_offer, inner_withRing]

end Sys2Proof.Machine
end

section
/-! PROOFS. The session opens and closes (R3, R8), REST, WAKE and RECONFIGURE (R12, R16, R18), and the modes that refuse a
request (R10). -/

namespace Sys2Proof.Machine

open Sys2Proof

section

variable {s : State} {p : PortId} {tag : Byte}

/-- The rows of the modes serve the heads of their own names. -/
theorem exec_rest (h : Heads s p tag .rest) : exec (.rest p) s = .next (served p tag (serveRest p s)) :=
  exec_serves rfl h rfl
theorem exec_wake (h : Heads s p tag .wake) : exec (.wake p) s = .next (served p tag (serveWake s)) :=
  exec_serves rfl h rfl
theorem exec_reconfigure (h : Heads s p tag .reconfigure) :
    exec (.reconfigure p) s = .next (served p tag (serveReconfigure p s)) := exec_serves rfl h rfl

end

/-- A request whose first check is its mode is refused WRONG-MODE in every other mode (R10). -/
theorem exec_wrongMode {i : Instr} {p : PortId} {tag : Byte} {s : State} {good : Bool} {l : List (Bool × Answer)}
    {ok : State → State × Answer} (hi : exec i s = .next (served p tag (checked (inMode good :: l) s ok)))
    (hmode : good = false) : exec i s = .next (answered p tag (.refused .wrongMode .none) s) := by
  rw [hi, hmode]; rfl

/-! ### REST -/

/-- Every train is still when every supervised train's output is 0 (R12). -/
theorem allStill_iff (s : State) : allStill s = true ↔ ∀ e ∈ s.trains, ∀ u, e.2.sup = some u → u.output = 0 := by
  simp only [allStill, List.all_eq_true]
  refine forall_congr' fun e => forall_congr' fun _ => ?_
  cases e.2.sup <;> simp

/-- The quiet conditions of R12. -/
theorem quietForRest_iff (s : State) : quietForRest s = true ↔
    s.il.instances = [] ∧ (∀ e ∈ s.trains, ∀ u, e.2.sup = some u → u.output = 0) ∧ deckMoving s = false ∧
      s.demo.run = none := by
  simp [quietForRest, allStill_iff, and_assoc]

/-- REST in IN-SERVICE (R12). -/
theorem serveRest_inService {s : State} (hmode : s.ctl.mode = .inService) (p : PortId) :
    serveRest p s =
      if s.ctl.pendingRest.isSome then (s, done)
      else if quietForRest s then
        (raise (.mode (.restPending p)) (s.withCtl { s.ctl with pendingRest := some p }), done)
      else (s, refuse .notQuiet) := by
  simp only [serveRest, inMode, hmode, beq_self_eq_true, checked, if_true]

/-- Settles O26: REST by its three outcomes. -/
theorem restMarksItselfPending : Obligations.RestMarksItselfPending := by
  intro p tag s h hmode
  have row := exec_rest h
  rw [serveRest_inService hmode] at row
  refine ⟨fun hpend => ?_, fun hpend h1 h2 h3 h4 => ?_, fun hpend hnot => ?_⟩
  · rwa [if_pos hpend] at row
  · rw [if_neg (by simp [hpend]), if_pos ((quietForRest_iff s).2 ⟨h1, h2, h3, h4⟩)] at row
    exact ⟨_, row, quiet_served_congr p tag _ (quiet_raise _ _)⟩
  · rwa [if_neg (by simp [hpend]), if_neg (mt (quietForRest_iff s).1 hnot)] at row

/-! ### WAKE -/

/-- Two rings with the same modules, setting, commanded power and overload record. -/
def SameSetting (r r' : Ring) : Prop :=
  r'.modules = r.modules ∧ r'.running = r.running ∧ r'.pendingSetting = r.pendingSetting ∧ r'.power = r.power ∧
    r'.postCount = r.postCount ∧ r'.overloaded = r.overloaded

/-- A partial sweep that is not done, or not that of the last group, ends without a whole-sweep boundary (R154, R155). -/
theorem settleSweep_within (s : State)
    (h : s.ring.todo ≠ [] ∨ s.ring.group + 1 ≠ groupsOf s.ring.running.mode) :
    ∃ r, settleSweep s = s.withRing r ∧ SameSetting s.ring r := by
  unfold settleSweep
  split
  · rename_i hdone
    have htodo : s.ring.todo = [] := by
      simp only [partialDone, Bool.and_eq_true, List.isEmpty_iff] at hdone
      exact hdone.1.1.1.2
    rw [if_neg (h.resolve_left (absurd htodo))]
    exact ⟨_, rfl, rfl, rfl, rfl, rfl, rfl, rfl⟩
  · exact ⟨s.ring, rfl, rfl, rfl, rfl, rfl, rfl, rfl⟩

/-- In the sweep mode FULL every described address is of group 0 (R154). -/
theorem groupAddresses_full {r : Ring} (h : r.running.mode = .full) : groupAddresses r 0 = itemNumbers r.modules := by
  simp [groupAddresses, h, groupsOf, Nat.mod_one]

/-- A whole sweep that begins over a ring with a module ends no sweep as it begins (R158). -/
theorem beginWhole_within (s : State) (h : s.ring.running.mode = .full → s.ring.modules ≠ []) :
    ∃ r, beginWhole s = s.withRing r ∧ SameSetting s.ring r := by
  refine settleSweep_within _ ?_
  by_cases hfull : s.ring.running.mode = .full
  · refine .inl ?_
    simpa [groupAddresses_full (r := { s.ring with
      timer := some (sweepInterval s.ring.running), nextGroup := 0, restTail := false }) hfull, itemNumbers] using h hfull
  · refine .inr ?_
    cases hmode : s.ring.running.mode with
    | full => exact absurd hmode hfull
    | split2 => simp [hmode, groupsOf]
    | split4 => simp [hmode, groupsOf]

/-- The ring's part of WAKE: the service setting is back and the record of postponements clear (R157, R158). -/
theorem ringWake_within (s : State) (h : s.ring.service.mode = .full → s.ring.modules ≠ []) :
    ∃ r, ringWake s = s.withRing r ∧ r.running = s.ring.service ∧ r.power = s.ring.power ∧ r.postCount = 0 ∧
      r.overloaded = false := by
  unfold ringWake
  dsimp only
  split
  · exact ⟨_, rfl, rfl, rfl, rfl, rfl⟩
  · obtain ⟨r, hr, -, hrun, -, hpow, hpost, hover⟩ := beginWhole_within (s.withRing { s.ring with
      running := s.ring.service, postCount := 0, overloaded := false }) h
    exact ⟨r, hr, hrun, hpow, hpost, hover⟩

/-- The entry to WAKING is none of the part without ring and control (R11). -/
theorem inner_enterWaking (cause : WakeCause) (s : State) :
    inner (enterWaking cause s) = inner (s.withCtl { s.ctl with mode := .waking, wakeBy := cause }) := by
  rw [enterWaking, inner_of_quiet (quiet_raise _ _), inner_offerPower]

/-- The entry to WAKING commands the power and places its command (R11). -/
theorem ringRest_enterWaking (cause : WakeCause) (s : State) :
    ringRest (enterWaking cause s).ring = { ringRest s.ring with power := some true } := by
  rw [enterWaking, raise_ring, ringRest_offerPower]; rfl

/-- Settles O27: WAKE enters WAKING and hands the ring its service setting; no boundary stands in its way. -/
theorem wakeEntersWaking : Obligations.WakeEntersWaking := by
  intro p tag s h hmode hmodules
  have row := exec_wake h
  have hwake : serveWake s = (ringWake (enterWaking .wake s), done) := by simp [serveWake, inMode, hmode, checked]
  have hin := inner_enterWaking .wake s
  have hring := ringRest_enterWaking .wake s
  have hservice : (enterWaking .wake s).ring.service = s.ring.service := congrArg (fun r => r.service) hring
  have hmods : (enterWaking .wake s).ring.modules = s.ring.modules := congrArg (fun r => r.modules) hring
  have hpow : (enterWaking .wake s).ring.power = some true := congrArg (fun r => r.power) hring
  obtain ⟨r, hr, hrun, hpower, hpost, hover⟩ := ringWake_within (enterWaking .wake s) (by rwa [hservice, hmods])
  rw [hwake, hr] at row
  obtain ⟨hstore, hctl, hil, hengine, htrains, hdeck, hdemo, hringS⟩ :=
    served_blocks p tag ((enterWaking .wake s).withRing r, done)
  refine ⟨_, row, ?_, ?_, ?_, ?_, ?_, ?_, ?_, ?_, ?_, ?_, ?_, ?_⟩
  · exact hctl.trans (inner_ctl hin :)
  · rw [hringS]; exact hrun.trans hservice
  · rw [hringS]; exact hpower.trans hpow
  · rw [hringS]; exact hpost
  · rw [hringS]; exact hover
  · exact hil.trans (inner_il hin :)
  · exact hstore.trans (inner_store hin :)
  · exact htrains.trans (inner_trains hin :)
  · exact hdeck.trans (inner_deck hin :)
  · exact hengine.trans (inner_engine hin :)
  · exact hdemo.trans (inner_demo hin :)
  · exact responses_served rfl h.2 (responses_of_inner hin p :)

/-! ### RECONFIGURE -/

/-- A retry list that is emptied leaves nothing else changed (R60). -/
theorem quiet_expireAll {s t : State} (h : quiet t = quiet s) (cause : ExpireCause) :
    quiet (expireEntries (fun _ => true) cause t) = quiet (s.withEngine { s.engine with retry := [] }) := by
  have hempty : t.engine.retry.filter (fun _ => !true) = [] := by simp
  rw [expireEntries, foldl_same quiet _ (fun s _ => quiet_raise _ s), hempty, quiet_engine h]
  exact quiet_withEngine_congr h _

/-- A record of the deck changes nothing but what reporting may. -/
@[simp] theorem quiet_noteDeck (ev : DeckEvent) (s : State) : quiet (noteDeck ev s) = quiet s := by
  unfold noteDeck
  split
  · exact quiet_raise _ s
  · rfl

/-- A latched move discarded leaves the latch empty and the rest as it is (R121, R128). -/
theorem quiet_discardLatch {s t : State} (h : quiet t = quiet s) (cause : DiscardCause) :
    quiet (discardLatch cause t) = quiet (s.withDeck (s.deck.map (fun d => { d with latch := none }))) := by
  rw [← quiet_deck h]
  refine Eq.trans ?_ (quiet_withDeck_congr h _)
  unfold discardLatch
  split
  · rename_i d hd
    split
    · simp [updateDeck, hd]
    · rename_i hlatch
      have hsame : ({ d with latch := none } : DeckState) = d := by cases d; simp_all
      rw [hd, Option.map_some, hsame, ← hd]
      rfl
  · rename_i hd
    rw [hd, Option.map_none, ← hd]
    rfl

/-- The stop of polling changes the ring alone (R158). -/
theorem quiet_ringStop {s t : State} (h : quiet t = quiet s) : quiet (ringStop t) = quiet (ringStop s) := by
  rw [ringStop, quiet_ring h]
  exact quiet_withRing_congr h _

/-- The service told at RECONFIGURE changes the failing conditions alone (R18, R136). -/
theorem quiet_closeService (s : State) :
    quiet (closeService s) = quiet (s.withDemo { s.demo with failing := failingNow s }) := by
  unfold closeService
  split
  · rename_i h
    rw [h]
    rfl
  · exact quiet_raise _ _

/-- What RECONFIGURE leaves, but for the demonstrations (R18, R60, R121, R158). -/
theorem quiet_reconfigured (p : PortId) (s : State) : ∃ demo, quiet (reconfigured p s) = quiet
    ((ringStop (((s.withCtl { s.ctl with mode := .config, pendingRest := none }).withEngine
      { s.engine with retry := [] }).withDeck (s.deck.map (fun d => { d with latch := none })))).withDemo demo) :=
  ⟨_, (quiet_closeService _).trans (quiet_withDemo_congr (quiet_ringStop (quiet_discardLatch
    (quiet_expireAll (quiet_raise _ _) _) _)) _)⟩

/-- The conditions of R18. -/
theorem quietForConfig_iff (s : State) : quietForConfig s = true ↔
    s.il.instances = [] ∧ (∀ e ∈ s.trains, e.2.driver = none) ∧ s.demo.queue = [] ∧ s.demo.run = none ∧
      deckMoving s = false := by
  simp [quietForConfig, and_assoc]

/-- RECONFIGURE in a mode that serves it (R18). -/
theorem serveReconfigure_served {s : State} (hmode : s.ctl.mode = .inService ∨ s.ctl.mode = .rest) (p : PortId) :
    serveReconfigure p s = if quietForConfig s then (reconfigured p s, done) else (s, refuse .notQuiet) := by
  have : (s.ctl.mode == .inService || s.ctl.mode == .rest) = true := by simpa using hmode
  simp only [serveReconfigure, inMode, this, checked, if_true]

/-- Settles O28: each block of the state that `quiet_reconfigured` describes. -/
theorem reconfigureEntersConfig : Obligations.ReconfigureEntersConfig := by
  intro p tag s h hmode
  have row := exec_reconfigure h
  rw [serveReconfigure_served hmode] at row
  refine ⟨fun hquiet => ?_, fun hnot => ?_⟩
  · rw [if_pos ((quietForConfig_iff s).2 hquiet)] at row
    obtain ⟨demo, hq⟩ := quiet_reconfigured p s
    obtain ⟨hstore, hctl, hil, hengine, htrains, hdeck, -, hring⟩ := served_blocks p tag (reconfigured p s, done)
    have hring' : (served p tag (reconfigured p s, done)).ring = (ringStop s).ring :=
      hring.trans (quiet_ring hq :)
    refine ⟨_, row, hctl.trans (quiet_ctl hq :), hstore.trans (quiet_store hq :), hil.trans (quiet_il hq :),
      htrains.trans (quiet_trains hq :), hengine.trans (quiet_engine hq :), ?_, ?_, ?_, ?_,
      hdeck.trans (quiet_deck hq :), ?_⟩
    · rw [hring']; rfl
    · rw [hring']; rfl
    · rw [hring']; rfl
    · rw [hring']; rfl
    · exact responses_served rfl h.2 (responses_of_quiet hq p :)
  · rwa [if_neg (mt (quietForConfig_iff s).1 hnot)] at row

/-! ### Modes that serve no request -/

section

variable {s : State} {p : PortId} {tag : Byte}

/-- In CONFIG and REST no request of the running layout is served (R10). -/
theorem runsIn_stopped (h : s.ctl.mode = .config ∨ s.ctl.mode = .rest) : runsIn s.ctl.mode = false := by
  obtain h | h := h <;> rw [h] <;> rfl

/-- SET-ROUTE and CANCEL-ROUTE at the head are refused at once in CONFIG and REST (R43). -/
theorem refusesRoutes_stopped (h : s.ctl.mode = .config ∨ s.ctl.mode = .rest) : refusesRoutes s = true := by
  simpa [refusesRoutes] using h

/-- CANCEL-ROUTE at the head in a mode that refuses it (R43). -/
theorem cancelRouteTurn_refused {route : Nat} (h : Heads s p tag (.cancelRoute route)) (hmode : refusesRoutes s = true) :
    cancelRouteTurn p s = answered p tag (refuse .wrongMode) s := by
  obtain ⟨hhead, hplace⟩ := h
  simp [cancelRouteTurn, hhead, hmode, hplace, answered]

/-- SET-ROUTE at the head in a mode that refuses it is answered and counted (R43). -/
theorem setRouteTurn_refused {route option : Nat} (h : Heads s p tag (.setRoute route option))
    (hmode : refusesRoutes s = true) :
    setRouteTurn p s = countRefused (.port p) route (answered p tag (refuse .wrongMode) s) := by
  obtain ⟨hhead, hplace⟩ := h
  simp [setRouteTurn, hhead, hmode, hplace, refuseSet, answered]

end

/-- Settles O29: each request's first check is its mode, and the arbiter's two requests are refused before it. -/
theorem wrongModeHasNoOtherEffect : Obligations.WrongModeHasNoOtherEffect := by
  intro p tag s
  refine ⟨fun hm h => ?_, fun hm h => ?_, fun hm h => ?_, fun hm h => ?_, fun hm => ?_⟩
  · exact exec_wrongMode (exec_beginConfig h) (beq_eq_false_iff_ne.2 hm)
  · exact exec_wrongMode (exec_rest h) (beq_eq_false_iff_ne.2 hm)
  · exact exec_wrongMode (exec_wake h) (beq_eq_false_iff_ne.2 hm)
  · exact exec_wrongMode (exec_reconfigure h) (by obtain hm | hm := hm <;> simp [hm])
  · have hstop := runsIn_stopped hm
    refine ⟨?_, ?_, ?_, ?_, ?_, ?_, ?_, ?_, ?_, ?_, ?_, ?_⟩
    · intro n x h
      exact exec_wrongMode (exec_serves (x := serveMovePoint p n x s) rfl h rfl) hstop
    · intro r h
      exact congrArg Host.Outcome.next (cancelRouteTurn_refused h (refusesRoutes_stopped hm))
    · intro r o h
      exact ⟨_, congrArg Host.Outcome.next (setRouteTurn_refused h (refusesRoutes_stopped hm)), quiet_count _ _ _ _⟩
    · intro n k d h
      exact exec_wrongMode (exec_serves (x := servePlace p n k d s) rfl h rfl) hstop
    · intro n h
      exact exec_wrongMode (exec_serves (x := serveRemove p n s) rfl h rfl) hstop
    · intro n h
      exact exec_wrongMode (exec_serves (x := serveTakeTrain p n s) rfl h rfl) hstop
    · intro n h
      exact exec_wrongMode (exec_serves (x := serveGiveTrain p n s) rfl h rfl) hstop
    · intro n h
      exact exec_wrongMode (exec_serves (x := serveRestore p n s) rfl h rfl) hstop
    · intro r x h
      exact exec_wrongMode (exec_serves (x := serveTurnDeck p r x s) rfl h rfl) hstop
    · intro n h
      exact exec_wrongMode (exec_serves (x := servePass p n s) rfl h rfl) hstop
    · intro n h
      exact exec_wrongMode (exec_serves (x := serveVeto p n s) rfl h rfl) hstop
    · intro m v h
      exact exec_wrongMode (exec_serves (x := serveSweepMode m v s) rfl h rfl) hstop

end Sys2Proof.Machine
end

section
/-! PROOFS. The validation walk finds the first fault of Table 1-8 (R6), and the session opens and closes (R3, R6, R8). -/

namespace Sys2Proof.Machine

open Sys2Proof

/-! ### Checks in order -/

/-- A check as a claim. -/
def asClaim (c : Bool × FaultKind) : Prop × FaultKind := (c.1 = true, c.2)

/-- A list of checks says what a list of claims says when each check does. -/
theorem asClaim_cons {b : Bool} {P : Prop} {k : FaultKind} {l : List (Bool × FaultKind)} {l' : List (Prop × FaultKind)}
    (h : b = true ↔ P) (hl : l.map asClaim = l') : ((b, k) :: l).map asClaim = (P, k) :: l' := by
  rw [List.map_cons, hl, asClaim, propext h]

/-- The first check that holds is the first claim that does. -/
theorem firstFault_iff (t : TableId) (n : Nat) (l : List (Bool × FaultKind)) (f : FaultKind) (u : TableId) (m : Nat) :
    firstFault t n l = some (f, u, m) ↔ FirstOf (l.map asClaim) f ∧ u = t ∧ m = n := by
  induction l with
  | nil => simp [firstFault, FirstOf]
  | cons c l ih =>
    obtain ⟨bad, k⟩ := c
    cases bad with
    | false => simpa [firstFault, FirstOf, asClaim] using ih
    | true => simp only [firstFault, FirstOf, asClaim, List.map_cons, if_true, Option.some.injEq, Prod.mk.injEq]; tauto

/-- The faults of an item are those of its claims. -/
def FaultsAs (t : TableId) (o : Option FaultAt) (n : Nat) (claims : List (Prop × FaultKind)) : Prop :=
  ∀ f u m, o = some (f, u, m) ↔ FirstOf claims f ∧ u = t ∧ m = n

/-- An item with a list of checks has the faults of the claims they say. -/
theorem faultsAs_firstFault {t : TableId} {n : Nat} {l : List (Bool × FaultKind)} {claims : List (Prop × FaultKind)}
    (h : l.map asClaim = claims) : FaultsAs t (firstFault t n l) n claims :=
  fun f u m => h ▸ firstFault_iff t n l f u m

/-- An item without a fault is one none of whose claims is first. -/
theorem FaultsAs.eq_none_iff {t : TableId} {o : Option FaultAt} {n : Nat} {claims : List (Prop × FaultKind)}
    (h : FaultsAs t o n claims) : o = none ↔ ∀ f, ¬ FirstOf claims f := by
  refine ⟨fun ho f hf => ?_, fun hn => Option.eq_none_iff_forall_ne_some.2 fun x hx => ?_⟩
  · exact absurd ((h f t n).2 ⟨hf, rfl, rfl⟩) (by simp [ho])
  · obtain ⟨f, u, m⟩ := x
    exact hn f ((h f u m).1 hx).1

/-! ### Tables in order -/

/-- What a part of the walk finds is what a claim about the table says. -/
def FindsAs (o : Option FaultAt) (q : TableId × (FaultKind → Nat → Prop)) : Prop :=
  ∀ f u n, o = some (f, u, n) ↔ q.2 f n ∧ u = q.1

/-- The first fault of a table's items (R6). -/
theorem findsAs_items {α : Type} (id : TableId) (t : Table α) (fault : Nat → α → Option FaultAt)
    (checks : Nat → α → List (Prop × FaultKind)) (h : ∀ n e, FaultsAs id (fault n e) n (checks n e)) :
    FindsAs (firstItemFault t fault) (id, TableFault t checks) := by
  intro f u m
  rw [firstItemFault, List.findSome?_eq_some_iff]
  constructor
  · rintro ⟨l1, ⟨n, e⟩, l2, rfl, hfault, hbefore⟩
    obtain ⟨hfirst, hu, rfl⟩ := (h n e f u m).1 hfault
    exact ⟨⟨l1, e, l2, rfl, hfirst, fun x hx => (h x.1 x.2).eq_none_iff.1 (hbefore x hx)⟩, hu⟩
  · rintro ⟨⟨l1, e, l2, rfl, hfirst, hbefore⟩, hu⟩
    exact ⟨l1, (m, e), l2, rfl, (h m e f u m).2 ⟨hfirst, hu, rfl⟩, fun x hx => (h x.1 x.2).eq_none_iff.2 (hbefore x hx)⟩

/-- The first part of the walk that finds a fault is the first table that has one. -/
theorem findSome_eq_some_iff_firstTable {os : List (Option FaultAt)} {qs : List (TableId × (FaultKind → Nat → Prop))}
    (h : List.Forall₂ FindsAs os qs) (f : FaultKind) (u : TableId) (n : Nat) :
    os.findSome? id = some (f, u, n) ↔ FirstTable qs f u n := by
  induction h with
  | nil => simp [FirstTable]
  | @cons o q os qs hq _ ih =>
    obtain ⟨t, P⟩ := q
    cases o with
    | none =>
      have hnone : ∀ g m, ¬ P g m := fun g m hp => absurd ((hq g t m).2 ⟨hp, rfl⟩) (by simp)
      simp [FirstTable, hnone, ih]
    | some x =>
      obtain ⟨g, v, m⟩ := x
      have hsome : ¬ ∀ g m, ¬ P g m := fun hn => hn g m ((hq g v m).1 rfl).1
      simpa [FirstTable, hsome] using hq f u n

/-! ### The checks of each table -/

section

variable (d : Desc)

theorem standsAt_iff (g n : Nat) (e : Dir) : standsAt d g n e = true ↔ StandsAtEnd d g n e := by
  simp [standsAt, StandsAtEnd, Option.any_eq_true]
theorem hasSec_eq_false_iff (n : Nat) : (!hasSec d n) = true ↔ findItem d.sections n = none := by simp [hasSec]
theorem hasPoint_eq_false_iff (n : Nat) : (!hasPoint d n) = true ↔ findItem d.points n = none := by simp [hasPoint]
theorem hasSignal_eq_false_iff (n : Nat) : (!hasSignal d n) = true ↔ findItem d.signals n = none := by simp [hasSignal]
theorem usedBySec_iff (a : Nat) : usedBySec d a = true ↔ SecUses d a := by simp [usedBySec, SecUses]
theorem usedByPoint_iff (a : Nat) : usedByPoint d a = true ↔ PointUses d a := by simp [usedByPoint, PointUses]
theorem usedBySignal_iff (a : Nat) : usedBySignal d a = true ↔ SignalUses d a := by simp [usedBySignal, SignalUses]
theorem usedByPlan_iff (a : Nat) : usedByPlan d a = true ↔ PlanUses d a := by simp [usedByPlan, PlanUses]
theorem usedByDeck_iff (a : Nat) : usedByDeck d a = true ↔ DeckUses d a := by
  simp [usedByDeck, DeckUses, Option.any_eq_true]
theorem noRepeats_iff (l : List Nat) : noRepeats l = true ↔ l.Nodup := by
  induction l with
  | nil => simp [noRepeats]
  | cons a l ih => simp [noRepeats, ih]

theorem faultsAs_section (n : Nat) (e : SectionEntry) : FaultsAs .sec (faultSection d n e) n (sectionChecks d n e) := by
  refine faultsAs_firstFault (asClaim_cons ?_ (asClaim_cons ?_ (asClaim_cons ?_ rfl)))
  · simp [Option.any_eq_true, ← standsAt_iff]
  · simp [and_assoc]
  · simp [Option.any_eq_false]

theorem faultsAs_point (n : Nat) (e : PointEntry) : FaultsAs .point (faultPoint d n e) n (pointChecks d n e) := by
  refine faultsAs_firstFault (asClaim_cons (hasSec_eq_false_iff d _) (asClaim_cons ?_ (asClaim_cons ?_ rfl)))
  · simp [Option.any_eq_true]
  · simp [and_assoc, usedBySec_iff]

theorem faultsAs_signal (n : Nat) (e : SignalEntry) : FaultsAs .signal (faultSignal d n e) n (signalChecks d n e) := by
  refine faultsAs_firstFault (asClaim_cons ?_ (asClaim_cons ?_ rfl))
  · cases e.stands <;> simp [Option.any_eq_false]
  · simp [and_assoc, or_assoc, usedBySec_iff, usedByPoint_iff]

theorem routeRefMissing_iff (e : RouteEntry) : routeRefMissing d e = true ↔
    findItem d.signals e.entry = none ∨ (∃ g, e.exit = some g ∧ findItem d.signals g = none) ∨
      (∃ x ∈ e.sections, findItem d.sections x.1 = none) ∨ (∃ x ∈ e.points, findItem d.points x.point = none) ∨
      (∃ x ∈ e.flanks, findItem d.points x.1 = none) ∨ (∃ n ∈ e.overlap, findItem d.sections n = none) ∨
      (∃ n ∈ e.approach, findItem d.sections n = none) ∨ ∃ q, e.deckReq = some q ∧ ∀ k, d.deck = some k → k.n ≤ q.1 := by
  have hdeck : e.deckReq.any (fun q => !(d.deck.any (fun k => q.1 < k.n))) = true ↔
      ∃ q, e.deckReq = some q ∧ ∀ k, d.deck = some k → k.n ≤ q.1 := by
    simp only [Option.any_eq_true, Bool.not_eq_true', Option.any_eq_false, decide_eq_false_iff_not, not_lt]
  simp only [routeRefMissing, Bool.or_eq_true, hdeck, Option.any_eq_true, List.any_eq_true, hasSec_eq_false_iff,
    hasPoint_eq_false_iff, hasSignal_eq_false_iff, or_assoc]

theorem routeMisshapen_iff (e : RouteEntry) : routeMisshapen d e = true ↔
    e.sections = [] ∨ (e.cls = .shunt ∧ e.overlap ≠ []) ∨
      (∃ x ∈ e.points, ∀ y k, e.sections[x.idx]? = some y → findItem d.points x.point = some k → y.1 ≠ k.sec) ∨
      ¬ (e.sections.map (·.1) ++ e.overlap).Nodup ∨ ¬ (e.points.map (·.point) ++ e.flanks.map (·.1)).Nodup := by
  simp only [routeMisshapen, Bool.or_eq_true, Bool.and_eq_true, List.any_eq_true, Bool.not_eq_true',
    ← Bool.not_eq_true, noRepeats_iff, List.isEmpty_iff, beq_iff_eq, or_assoc]
  refine or_congr Iff.rfl (or_congr Iff.rfl (or_congr (exists_congr fun x => and_congr_right fun _ => ?_) Iff.rfl))
  cases e.sections[x.idx]? <;> cases findItem d.points x.point <;> simp

theorem faultsAs_route (n : Nat) (e : RouteEntry) : FaultsAs .route (faultRoute d n e) n (routeDescChecks d e) :=
  faultsAs_firstFault (asClaim_cons (routeRefMissing_iff d e) (asClaim_cons (routeMisshapen_iff d e) rfl))

theorem faultsAs_train (n : Nat) (e : TrainEntry) : FaultsAs .train (faultTrain d n e) n (trainChecks d n e) :=
  faultsAs_firstFault (asClaim_cons (by simp) rfl)

theorem planStarts_eq_false_iff (e : PlanEntry) : (e.routes.isEmpty || !planStarts d e) = true ↔
    ∀ k r, e.routes.head? = some k → findItem d.routes k = some r →
      ¬ StandsAtEnd d r.entry e.start .up ∧ ¬ StandsAtEnd d r.entry e.start .down := by
  unfold planStarts
  cases hroutes : e.routes with
  | nil => simp
  | cons k l =>
    have hfirst : (∀ k' r, (k :: l).head? = some k' → findItem d.routes k' = some r →
        ¬ StandsAtEnd d r.entry e.start .up ∧ ¬ StandsAtEnd d r.entry e.start .down) ↔
        ∀ r, findItem d.routes k = some r →
          ¬ StandsAtEnd d r.entry e.start .up ∧ ¬ StandsAtEnd d r.entry e.start .down :=
      ⟨fun h r => h k r rfl, fun h k' r hk' => Option.some.inj hk' ▸ h r⟩
    rw [hfirst]
    cases hk : findItem d.routes k <;> simp [hk, ← standsAt_iff]

theorem faultsAs_plan (n : Nat) (e : PlanEntry) : FaultsAs .plan (faultPlan d n e) n (planChecks d n e) := by
  refine faultsAs_firstFault (asClaim_cons ?_ (asClaim_cons (planStarts_eq_false_iff d e) (asClaim_cons ?_ rfl)))
  · simp only [Bool.or_eq_true, List.any_eq_true, Option.isNone_iff_eq_none, hasSec_eq_false_iff, or_assoc]
  · simp [and_assoc, or_assoc, usedBySec_iff, usedByPoint_iff, usedBySignal_iff, usedByDeck_iff]

theorem findsAs_traction : FindsAs (faultTraction d) (.traction, fun f n => FirstOf (tractionChecks d) f ∧ n = 65535) := by
  have h : FaultsAs .traction (faultTraction d) noItem (tractionChecks d) := by
    unfold faultTraction tractionChecks
    cases ht : d.traction with
    | none =>
      intro f u m
      simp only [FirstOf, Option.some.injEq, Prod.mk.injEq, true_and, not_true, false_and, or_false]
      tauto
    | some a =>
      intro f u m
      rw [faultsAs_firstFault (asClaim_cons Iff.rfl rfl) f u m]
      simp [FirstOf, or_assoc, usedBySec_iff, usedByPoint_iff, usedBySignal_iff, usedByDeck_iff, usedByPlan_iff]
  intro f u n
  rw [h f u n]
  tauto

theorem deckMisshapen_iff (k : DeckEntry) :
    (k.n % 2 = 1 ∨ k.n < 4 ∨ 24 < k.n ∨ !(findItem d.sections k.sec).any (·.deckFlag)) ↔ DeckMisshapen d k := by
  simp [DeckMisshapen, Option.any_eq_false]

/-- A road is bad when the walk's check says so. -/
theorem badRoad_check_iff (k : DeckEntry) (x : Nat × RoadEntry) :
    (decide (x.1 < k.n) && x.2.sec.any (fun n => !hasSec d n)) = true ↔ BadRoad d k x := by
  simp only [BadRoad, Bool.and_eq_true, decide_eq_true_eq, Option.any_eq_true, hasSec_eq_false_iff]

/-- The first road below N that names an undescribed section (Table 1-8). -/
theorem badRoad_eq_some_iff (k : DeckEntry) (n : Nat) : badRoad d k = some n ↔
    ∃ l1 e l2, k.roads = l1 ++ (n, e) :: l2 ∧ BadRoad d k (n, e) ∧ ∀ x ∈ l1, ¬ BadRoad d k x := by
  simp only [badRoad, itemsWhere, List.head?_map, List.head?_filter, Option.map_eq_some_iff,
    List.find?_eq_some_iff_append, ← badRoad_check_iff, Bool.not_eq_true', Bool.not_eq_true]
  constructor
  · rintro ⟨⟨m, e⟩, ⟨hm, l1, l2, hroads, hbefore⟩, rfl⟩
    exact ⟨l1, e, l2, hroads, hm, hbefore⟩
  · rintro ⟨l1, e, l2, hroads, hm, hbefore⟩
    exact ⟨(n, e), ⟨hm, l1, l2, hroads, hbefore⟩, rfl⟩

/-- No road is bad. -/
theorem badRoad_eq_none_iff (k : DeckEntry) : badRoad d k = none ↔ ∀ x ∈ k.roads, ¬ BadRoad d k x := by
  simp only [badRoad, itemsWhere, List.head?_map, List.head?_filter, Option.map_eq_none_iff, List.find?_eq_none,
    badRoad_check_iff]

theorem findsAs_deck : FindsAs (faultDeck d) (.deck, DeckFault d) := by
  intro f u n
  unfold faultDeck
  cases hd : d.deck with
  | none => simp [DeckFault, hd]
  | some k =>
    simp only [DeckFault, hd, Option.some.injEq, exists_eq_left']
    by_cases hshape : DeckMisshapen d k
    · simp only [deckMisshapen_iff, hshape, if_true, not_true, false_and, or_false, true_and, Option.some.injEq,
        Prod.mk.injEq, noItem]
      tauto
    · simp only [deckMisshapen_iff, hshape, if_false, not_false_iff, true_and, false_and, false_or,
        ← badRoad_eq_some_iff, ← badRoad_eq_none_iff]
      cases hroad : badRoad d k with
      | some j =>
        simp only [Option.some.injEq, Prod.mk.injEq, reduceCtorEq, false_and, or_false]
        tauto
      | none =>
        simp only [firstFault_iff, List.map, asClaim, FirstOf, Bool.or_eq_true, usedBySec_iff, usedByPoint_iff,
          usedBySignal_iff, or_assoc, noItem, reduceCtorEq, and_false, or_false, false_or, true_and]
        tauto

/-- The walk finds exactly the first fault of Table 1-8. -/
theorem validate_eq_some_iff (f : FaultKind) (u : TableId) (n : Nat) :
    validate d = some (f, u, n) ↔ WalkFault d f u n :=
  findSome_eq_some_iff_firstTable
    (.cons (findsAs_items _ _ _ _ (faultsAs_section d)) (.cons (findsAs_items _ _ _ _ (faultsAs_point d))
      (.cons (findsAs_items _ _ _ _ (faultsAs_signal d)) (.cons (findsAs_items _ _ _ _ (faultsAs_route d))
        (.cons (findsAs_deck d) (.cons (findsAs_items _ _ _ _ (faultsAs_train d))
          (.cons (findsAs_items _ _ _ _ (faultsAs_plan d)) (.cons (findsAs_traction d) .nil)))))))) f u n

end

/-! ### The session -/

section

variable {s : State} {p : PortId}

/-- BEGIN-CONFIG in CONFIG (R3). -/
theorem serveBegin_config (h : s.ctl.mode = .config) : serveBegin p s =
    if s.store.session.isNone then (raise (.mode (.sessionOpen p)) (withWorking p s s.store.committed), done)
    else (s, refuse .sessionOpen) := by
  simp only [serveBegin, inMode, h, beq_self_eq_true, checked, if_true]
  rfl

/-- ABANDON-CONFIG of the configuring port (R8). -/
theorem serveAbandon_configures {d : Desc} (c : Configures s p d) : serveAbandon p s =
    (raise (.mode (.sessionClosed .abandon)) (s.withStore { committed := s.store.committed, session := none }), done) :=
  checked_configuring (l := []) c _

/-- COMMIT-CONFIG of a description with a fault (R6). -/
theorem serveCommit_faulty {d : Desc} {f : FaultAt} (c : Configures s p d) (h : validate d = some f) :
    serveCommit p s = (s, faulty f) := by
  have hchecks := checked_configuring (l := []) c
  rw [serveCommit, ← List.append_nil (configuring s p), hchecks]
  simp only [checked, workingOf_configures c, h]

/-- COMMIT-CONFIG of a sound description (R6, R7, R11). -/
theorem serveCommit_sound {d : Desc} (c : Configures s p d) (h : validate d = none) :
    serveCommit p s = (beginWhole (recomputeService (enterWaking .commit
      (raise (.mode (.sessionClosed .commit)) (commitState d s)))), done) := by
  have hchecks := checked_configuring (l := []) c
  rw [serveCommit, ← List.append_nil (configuring s p), hchecks]
  simp only [checked, workingOf_configures c, h]

end

/-- Settles O25. -/
theorem sessionOpensAndCloses : Obligations.SessionOpensAndCloses := by
  refine ⟨fun d f table item => validate_eq_some_iff d f table item, fun p tag s hmode => ⟨fun h => ?_, fun d hs => ?_⟩⟩
  · have row := exec_beginConfig h
    rw [serveBegin_config hmode] at row
    refine ⟨_, row, fun hnone => ?_, fun hsome => ?_⟩
    · rw [if_pos (by simp [hnone])]
      exact quiet_served_congr p tag _ (quiet_raise _ _)
    · rw [if_neg (by simpa [Option.isSome_iff_ne_none] using hsome)]
      rfl
  · have c : Configures s p d := ⟨hmode, hs⟩
    refine ⟨fun f table item h hfault => ?_, fun h => ?_⟩
    · have row := exec_commitConfig h
      rwa [serveCommit_faulty c hfault] at row
    · have row := exec_abandonConfig h
      rw [serveAbandon_configures c] at row
      exact ⟨_, row, quiet_served_congr p tag _ (quiet_raise _ _)⟩

end Sys2Proof.Machine
end

section
/-! PROOFS. What the demonstrations and the signals leave alone: the state aside from trains, demonstrations and ring, and
the state aside from signals and ring. -/

namespace Sys2Proof.Machine

open Sys2Proof

/-! ### Aside from trains, demonstrations and the ring -/

/-- The part of the state that the work of the Demonstration Unit leaves: all but trains, demonstrations, the ring and what
reporting may change. -/
def aside (s : State) : State := inner ((s.withTrains []).withDemo State.reset.demo)

/-- Two states alike aside from trains and demonstrations are alike when those are the same. -/
theorem inner_of_aside {s t : State} (h : aside t = aside s) : inner ((t.withTrains s.trains).withDemo s.demo) = inner s :=
  congrArg (fun x : State => (x.withTrains s.trains).withDemo s.demo) h

section

variable {s t : State}

theorem aside_of_inner (h : inner t = inner s) : aside t = aside s :=
  congrArg (fun x : State => (x.withTrains []).withDemo State.reset.demo) h
theorem aside_of_quiet (h : quiet t = quiet s) : aside t = aside s := aside_of_inner (inner_of_quiet h)
theorem aside_store (h : aside t = aside s) : t.store = s.store := congrArg (fun x => x.store) h
theorem aside_ctl (h : aside t = aside s) : t.ctl = s.ctl := congrArg (fun x => x.ctl) h
theorem aside_il (h : aside t = aside s) : t.il = s.il := congrArg (fun x => x.il) h
theorem aside_engine (h : aside t = aside s) : t.engine = s.engine := congrArg (fun x => x.engine) h
theorem aside_deck (h : aside t = aside s) : t.deck = s.deck := congrArg (fun x => x.deck) h
theorem aside_responses (h : aside t = aside s) (p : PortId) : (portAt t p).responses = (portAt s p).responses :=
  responses_of_inner (s := (s.withTrains []).withDemo State.reset.demo)
    (t := (t.withTrains []).withDemo State.reset.demo) h p

end

@[simp] theorem aside_raise (n : Notice) (s : State) : aside (raise n s) = aside s := aside_of_quiet (quiet_raise n s)
@[simp] theorem aside_count (e : EventKind) (q : Option Party) (d : Option Nat) (s : State) :
    aside (count e q d s) = aside s := aside_of_quiet (quiet_count e q d s)
@[simp] theorem aside_offer (c : RingCmd) (s : State) : aside (offer c s) = aside s := aside_of_inner (inner_offer c s)
@[simp] theorem aside_withTrains (s : State) (v : Table TrainRec) : aside (s.withTrains v) = aside s := rfl
@[simp] theorem aside_withDemo (s : State) (v : Demo) : aside (s.withDemo v) = aside s := rfl
@[simp] theorem aside_withRing (s : State) (v : Ring) : aside (s.withRing v) = aside s := rfl
@[simp] theorem aside_updateTrain (s : State) (t : Nat) (f : TrainRec → TrainRec) :
    aside (updateTrain s t f) = aside s := rfl
@[simp] theorem aside_updateSup (s : State) (t : Nat) (f : Sup → Sup) : aside (updateSup s t f) = aside s := rfl

@[simp] theorem aside_noteTrain (t : Nat) (ev : TrainEvent) (s : State) : aside (noteTrain t ev s) = aside s := by
  unfold noteTrain
  split <;> simp

@[simp] theorem aside_dropDriver (t : Nat) (s : State) : aside (dropDriver t s) = aside s := by simp [dropDriver]

@[simp] theorem aside_recomputeLamp (n : Nat) (s : State) : aside (recomputeLamp n s) = aside s := by
  unfold recomputeLamp
  split
  · rfl
  · split <;> simp

@[simp] theorem aside_recomputeLamps (s : State) : aside (recomputeLamps s) = aside s :=
  foldl_same aside _ (fun s n => aside_recomputeLamp n s) _ s

@[simp] theorem aside_startHeadTimer (s : State) : aside (startHeadTimer s) = aside s := by
  unfold startHeadTimer
  split
  · split <;> simp
  · rfl

@[simp] theorem aside_admitHead (n : Nat) (pl : PlanEntry) (s : State) : aside (admitHead n pl s) = aside s := by
  simp [admitHead]

@[simp] theorem aside_admissionTest (s : State) : aside (admissionTest s) = aside s := by
  unfold admissionTest
  split
  · split
    · split <;> simp
    · rfl
  · rfl

@[simp] theorem aside_abort (why : AbortReason) (s : State) : aside (abort why s) = aside s := by
  unfold abort
  split <;> simp

@[simp] theorem aside_clearService (s : State) : aside (clearService s) = aside s := by
  rw [clearService, aside_abort, foldl_same aside _ (fun s e => aside_raise _ s), aside_withDemo]

@[simp] theorem aside_pauseRun (s : State) : aside (pauseRun s) = aside s := by
  unfold pauseRun
  split
  · split <;> simp
  · rfl

@[simp] theorem aside_resumeRun (s : State) : aside (resumeRun s) = aside s := by
  unfold resumeRun
  split
  · split <;> simp
  · rfl

/-- The service recomputed changes trains, demonstrations and the ring alone (R136). -/
@[simp] theorem aside_recomputeService (s : State) : aside (recomputeService s) = aside s := by
  unfold recomputeService
  dsimp only
  repeat' split
  all_goals simp

/-! ### Aside from the signals and the ring -/

/-- The part of the state that a change of aspects leaves: all but the signals, the ring and what reporting may change. -/
def unlit (s : State) : State := inner (s.withIl { s.il with signals := [] })

section

variable {s t : State}

theorem unlit_of_inner (h : inner t = inner s) : unlit t = unlit s :=
  congrArg (fun x : State => x.withIl { x.il with signals := [] }) h
theorem unlit_of_quiet (h : quiet t = quiet s) : unlit t = unlit s := unlit_of_inner (inner_of_quiet h)
theorem unlit_store (h : unlit t = unlit s) : t.store = s.store := congrArg (fun x => x.store) h
theorem unlit_ctl (h : unlit t = unlit s) : t.ctl = s.ctl := congrArg (fun x => x.ctl) h
theorem unlit_sections (h : unlit t = unlit s) : t.il.sections = s.il.sections := congrArg (fun x => x.il.sections) h
theorem unlit_points (h : unlit t = unlit s) : t.il.points = s.il.points := congrArg (fun x => x.il.points) h
theorem unlit_instances (h : unlit t = unlit s) : t.il.instances = s.il.instances := congrArg (fun x => x.il.instances) h
theorem unlit_engine (h : unlit t = unlit s) : t.engine = s.engine := congrArg (fun x => x.engine) h
theorem unlit_trains (h : unlit t = unlit s) : t.trains = s.trains := congrArg (fun x => x.trains) h
theorem unlit_deck (h : unlit t = unlit s) : t.deck = s.deck := congrArg (fun x => x.deck) h
theorem unlit_responses (h : unlit t = unlit s) (p : PortId) : (portAt t p).responses = (portAt s p).responses :=
  responses_of_inner (s := s.withIl { s.il with signals := [] }) (t := t.withIl { t.il with signals := [] }) h p

end

@[simp] theorem unlit_raise (n : Notice) (s : State) : unlit (raise n s) = unlit s := unlit_of_quiet (quiet_raise n s)
@[simp] theorem unlit_offer (c : RingCmd) (s : State) : unlit (offer c s) = unlit s := unlit_of_inner (inner_offer c s)

/-- A signal recomputed changes the signals and the ring alone (R36). -/
@[simp] theorem unlit_recomputeOne (sig : Nat) (s : State) : unlit (recomputeOne sig s) = unlit s := by
  unfold recomputeOne
  dsimp only
  split
  · rfl
  · split
    · rfl
    · rw [unlit_raise, unlit_offer]; rfl

@[simp] theorem unlit_recomputeChain (k sig : Nat) (s : State) : unlit (recomputeChain k sig s) = unlit s := by
  induction k generalizing sig s with
  | zero => exact unlit_recomputeOne sig s
  | succ k ih =>
    rw [recomputeChain]
    split
    · exact unlit_recomputeOne sig s
    · rw [foldl_same unlit _ (fun s u => ih u s), unlit_recomputeOne]

/-- Signals recomputed change the signals and the ring alone (R36). -/
@[simp] theorem unlit_recomputeAll (sigs : List Nat) (s : State) : unlit (recomputeAll sigs s) = unlit s :=
  foldl_same unlit _ (fun s g => unlit_recomputeChain _ g s) _ s

@[simp] theorem unlit_noteDeck (ev : DeckEvent) (s : State) : unlit (noteDeck ev s) = unlit s :=
  unlit_of_quiet (quiet_noteDeck ev s)

/-! ### A latched move checked again -/

/-- The start of a move of a described deck: its record, and nothing else but signals and ring (R124). -/
theorem unlit_startMove {s : State} {d : DeckState} {e : DeckEntry} (t : Nat) (sense : ReqSense) (req : MoveReq)
    (hd : s.deck = some d) (he : (desc s).deck = some e) :
    unlit (startMove t sense req s) = unlit (s.withDeck (some { d with
      pos := .moving (startIndex d) t (resolveSense e.n (startIndex d) t sense), req := some req, doubt := 0,
      timer := some (moveTime (desc s).params
        (stepsOf e.n (startIndex d) t (resolveSense e.n (startIndex d) t sense))) })) := by
  have hoff : ∀ c, (offer c s).deck = some d := fun c => (unlit_deck (unlit_offer c s)).trans hd
  simp only [startMove, hd, he, unlit_recomputeAll, unlit_noteDeck, updateDeck, hoff, Option.map_some]
  exact congrArg (fun x : State => x.withDeck _) (unlit_offer _ s)

/-- The start conditions read the Interlocking Unit, the trains and the ring (R123). -/
theorem startFails_congr {s t : State} (hil : t.il = s.il) (htrains : t.trains = s.trains) (hring : t.ring = s.ring)
    (e : DeckEntry) : startFails t e = startFails s e := by
  cases s
  cases t
  dsimp only at hil htrains hring
  subst hil htrains hring
  rfl

/-- What the re-check leaves reads nothing else of the state than the start conditions and the parameters (R124). -/
theorem latchTaken_congr {s t : State} (hstore : t.store = s.store) (hil : t.il = s.il) (htrains : t.trains = s.trains)
    (hring : t.ring = s.ring) (d : DeckState) (e : DeckEntry) (l : Latch) (j : Nat) :
    latchTaken t d e l j = latchTaken s d e l j := by
  simp only [latchTaken, startFails_congr hil htrains hring, desc, hstore]

/-- A latched move of an ALIGNED deck checked again with the latch of the all-stop clear (R127 step 5, R131). -/
theorem unlit_recheckLatch_taken {s : State} {d : DeckState} {e : DeckEntry} {l : Latch} {j : Nat}
    (hclear : s.ctl.allStop = none) (hd : s.deck = some d) (he : (desc s).deck = some e) (hl : d.latch = some l)
    (hj : d.pos = .aligned j) : unlit (recheckLatch s) = unlit (s.withDeck (some (latchTaken s d e l j))) := by
  have hempty : updateDeck s (fun d => { d with latch := none }) = s.withDeck (some { d with latch := none }) := by
    rw [updateDeck, hd, Option.map_some]
  simp only [recheckLatch, hd, he, hl, hj, hclear, Option.isSome_none, Bool.false_eq_true, if_false, hempty, latchTaken]
  by_cases hroad : l.road = j
  · simp [hroad]
  · cases hfail : startFails s e with
    | some why => simp [hroad]
    | none =>
      simp only [hroad, if_false, not_false_iff, and_self, if_true, unlit_noteDeck, ne_eq]
      have hmove := unlit_startMove (s := s.withDeck (some { d with latch := none })) l.road l.sense (.port l.port) rfl he
      simp only [startIndex, hj] at hmove
      exact hmove

/-- No latched move of an ALIGNED deck: nothing is checked (R131). -/
theorem recheckLatch_idle {s : State} (h : ∀ d l j, s.deck = some d → d.latch = some l → d.pos ≠ .aligned j) :
    recheckLatch s = s := by
  unfold recheckLatch
  split
  · rename_i d e hd _
    split
    · rename_i l j hl hj
      exact absurd hj (h d l j hd hl)
    · rfl
  · rfl

/-- A latched move checked again changes the deck, the signals and the ring alone (R131). -/
theorem unlit_recheckLatch (s : State) : ∃ deck, unlit (recheckLatch s) = unlit (s.withDeck deck) := by
  by_cases hclear : s.ctl.allStop = none
  · by_cases h : ∃ d e l j, s.deck = some d ∧ (desc s).deck = some e ∧ d.latch = some l ∧ d.pos = .aligned j
    · obtain ⟨d, e, l, j, hd, he, hl, hj⟩ := h
      exact ⟨_, unlit_recheckLatch_taken hclear hd he hl hj⟩
    · refine ⟨s.deck, ?_⟩
      unfold recheckLatch
      split
      · rename_i d e hd he
        split
        · rename_i l j hl hj
          exact absurd ⟨d, e, l, j, hd, he, hl, hj⟩ h
        · rfl
      · rfl
  · refine ⟨s.deck, ?_⟩
    have hset : s.ctl.allStop.isSome = true := Option.isSome_iff_ne_none.2 hclear
    unfold recheckLatch
    simp only [hset, if_true]
    repeat' split
    all_goals rfl

end Sys2Proof.Machine
end

section
/-! PROOFS. Immediate requests at an ONLINE port (R165, R170): the reads, THROTTLE and RESUME. -/

namespace Sys2Proof.Machine

open Sys2Proof

section

variable {s : State} {p : PortId}

/-- A valid frame at an ONLINE port (R165). -/
theorem takeFrame_online (h : (portAt s p).state = .online) : takeFrame p s = some (heard p s) := by
  cases p <;> simp only [takeFrame, h] <;> rfl

/-- An immediate request at an ONLINE port works on the state that has heard its frame (R170). -/
theorem immediate_online {tag : Byte} {work : State → State × Option Answer} {t : State} {a : Answer}
    (h : (portAt s p).state = .online) (hw : work (heard p s) = (t, some a)) :
    immediate p tag work s = respond p tag a t := by
  simp only [immediate, takeFrame_online h, hw]

/-- An immediate request without an answer (R167, R89). -/
theorem immediate_silent {tag : Byte} {work : State → State × Option Answer} {t : State}
    (h : (portAt s p).state = .online) (hw : work (heard p s) = (t, none)) : immediate p tag work s = t := by
  simp only [immediate, takeFrame_online h, hw]

/-- A row whose meaning is an immediate request answers as it arrives. -/
theorem exec_immediate {i : Instr} {tag : Byte} {work : State → State × Option Answer} {t : State} {a : Answer}
    (hi : exec i s = .next (immediate p tag work s)) (h : (portAt s p).state = .online)
    (hw : work (heard p s) = (t, some a)) : exec i s = .next (respond p tag a t) := by
  rw [hi, immediate_online h hw]

end

/-- A frame heard leaves every block but the ports. -/
theorem heard_eq (p : PortId) (s : State) : heard p s = s.withPorts (heard p s).ports := rfl

section

variable (p : PortId) (s : State)

@[simp] theorem heard_freeSeed : (heard p s).freeSeed = s.freeSeed := rfl
@[simp] theorem heard_store : (heard p s).store = s.store := rfl
@[simp] theorem heard_ctl : (heard p s).ctl = s.ctl := rfl
@[simp] theorem heard_il : (heard p s).il = s.il := rfl
@[simp] theorem heard_engine : (heard p s).engine = s.engine := rfl
@[simp] theorem heard_trains : (heard p s).trains = s.trains := rfl
@[simp] theorem heard_deck : (heard p s).deck = s.deck := rfl
@[simp] theorem heard_demo : (heard p s).demo = s.demo := rfl
@[simp] theorem heard_ring : (heard p s).ring = s.ring := rfl
@[simp] theorem responses_heard : (portAt (heard p s) p).responses = (portAt s p).responses := by simp [heard]

end

/-- Settles O40: every read's work leaves the state that has heard the frame, and answers. -/
theorem readsChangeNothingElse : Obligations.ReadsChangeNothingElse := by
  intro p tag table n s h
  refine ⟨?_, ?_, ?_, ?_, ?_, ?_, ?_, ?_, ?_, ?_, ?_, ?_, ?_, ?_, ?_, ?_⟩ <;> exact exec_immediate rfl h rfl

/-! ### THROTTLE -/

section

variable {p : PortId} {x v d : Nat} {s : State}

/-- THROTTLE by the checks of R89, in their order (log entry 3). -/
theorem serveThrottle_wrongMode (hm : runsIn s.ctl.mode = false) :
    serveThrottle p x v d s = (s, some (refuse .wrongMode)) := by simp [serveThrottle, hm]
theorem serveThrottle_unknownItem (hm : runsIn s.ctl.mode = true) (hr : trainAt s x = none) :
    serveThrottle p x v d s = (s, some (refuse .unknownItem)) := by simp [serveThrottle, hm, hr]
theorem serveThrottle_notDriver {r : TrainRec} (hm : runsIn s.ctl.mode = true) (hr : trainAt s x = some r)
    (hd : r.driver ≠ some (.port p)) : serveThrottle p x v d s = (s, some (refuse .notDriver)) := by
  simp [serveThrottle, hm, hr, driverOf, hd]
theorem serveThrottle_noCode {r : TrainRec} (hm : runsIn s.ctl.mode = true) (hr : trainAt s x = some r)
    (hd : r.driver = some (.port p)) (hcode : dirOfCode d = none) :
    serveThrottle p x v d s = (s, some (refuseCode 0x2C)) := by simp [serveThrottle, hm, hr, driverOf, hd, hcode]
theorem serveThrottle_accepted {r : TrainRec} {dir : Dir} (hm : runsIn s.ctl.mode = true) (hr : trainAt s x = some r)
    (hd : r.driver = some (.port p)) (hcode : dirOfCode d = some dir) :
    serveThrottle p x v d s = (setThrottle x v dir s, none) := by simp [serveThrottle, hm, hr, driverOf, hd, hcode]

end

/-- An accepted THROTTLE changes the train's record and a pending REST (R13, R89). -/
theorem quiet_setThrottle (x v : Nat) (dir : Dir) (s : State) :
    quiet (setThrottle x v dir s) = quiet ((updateTrain s x (fun r => { r with
      throttle := v, pendRev := requestedHeading r.heading dir != r.heading })).withCtl
        { s.ctl with pendingRest := if v = 0 then s.ctl.pendingRest else none }) := by
  unfold setThrottle
  dsimp only
  split
  · rename_i h
    rw [if_neg (by omega)]
    exact quiet_raise _ _
  · rename_i h
    have hrest : (if v = 0 then s.ctl.pendingRest else none) = s.ctl.pendingRest := by
      split
      · rfl
      · cases hp : s.ctl.pendingRest with
        | none => rfl
        | some q => exact absurd ⟨by omega, by simp [updateTrain, hp]⟩ h
    rw [hrest]
    rfl

/-- The other trains keep their records in an accepted THROTTLE. -/
theorem trains_setThrottle (x v : Nat) (dir : Dir) (s : State) :
    (setThrottle x v dir s).trains = updateItem s.trains x (fun r => { r with
      throttle := v, pendRev := requestedHeading r.heading dir != r.heading }) := quiet_trains (quiet_setThrottle x v dir s)

/-- Settles O51: the checks of R89 in order, then `quiet_setThrottle`. -/
theorem throttle : Obligations.Throttle := by
  intro p tag x v d s honline
  have row : ∀ {why}, serveThrottle p x v d (heard p s) = (heard p s, some why) →
      exec (.throttle p tag x v d) s = .next (respond p tag why (heard p s)) := exec_immediate rfl honline
  refine ⟨fun hmode => row (serveThrottle_wrongMode (runsIn_stopped (s := heard p s) hmode)), fun hmode => ?_⟩
  have hrun : runsIn (heard p s).ctl.mode = true := by
    obtain hmode | hmode := hmode <;> simp [hmode, runsIn]
  refine ⟨fun hnone => row (serveThrottle_unknownItem hrun hnone),
    fun r hr hother => row (serveThrottle_notDriver hrun hr hother),
    fun r hr hdriver hcode => ⟨_, row (serveThrottle_noCode hrun hr hdriver hcode)⟩,
    fun r dir hr hdriver hcode => ?_⟩
  have accepted := immediate_silent (tag := tag) honline (serveThrottle_accepted (v := v) hrun hr hdriver hcode)
  refine ⟨_, congrArg Host.Outcome.next accepted, ?_, fun y hy => ?_, ?_⟩
  · rw [trainAt, trains_setThrottle, findItem_updateItem_same]
    exact congrArg (Option.map _) hr
  · rw [trainAt, trains_setThrottle, findItem_updateItem_other _ _ _ _ hy]
    rfl
  · exact quiet_withTrains_congr (quiet_setThrottle x v dir (heard p s)) s.trains

/-! ### RESUME -/

/-- RESUME may clear the latch exactly under the conditions of R21. -/
theorem mayResume_iff (s : State) : mayResume s = true ↔
    s.ctl.estop = false ∧ (s.ctl.mode = .config ∨ (tractionActive s = true ∧ tractionOverload s = false)) := by
  simp [mayResume]

/-- RESUME by the latch and the conditions of R21. -/
theorem serveResume_clear {p : PortId} {s : State} (h : s.ctl.allStop = none) : serveResume p s = (s, done) := by
  simp [serveResume, h]
theorem serveResume_cleared {p : PortId} {s : State} (h : s.ctl.allStop.isSome = true) (hmay : mayResume s = true) :
    serveResume p s = (clearAllStop p s, done) := by
  simp [serveResume, Option.isSome_iff_ne_none.1 h, checked, hmay]
theorem serveResume_refused {p : PortId} {s : State} (h : s.ctl.allStop.isSome = true) (hmay : ¬ mayResume s = true) :
    serveResume p s = (s, refuse .estopActive) := by
  simp [serveResume, Option.isSome_iff_ne_none.1 h, checked, hmay]

/-- The latch cleared, before the deck and the demonstrations act (R21). -/
def unlatched (p : PortId) (s : State) : State :=
  raise (.mode (.resumed p)) (s.withCtl { s.ctl with allStop := none })

/-- The clearing of the latch leaves, aside from trains and demonstrations, what the re-check of the deck leaves (R21). -/
theorem aside_clearAllStop (p : PortId) (s : State) :
    aside (clearAllStop p s) = aside (recheckLatch (unlatched p s)) := by
  simp [clearAllStop, unlatched]

/-- The clearing of the latch keeps the description, the Route Engine, the layout but for its aspects, and the responses. -/
theorem clearAllStop_keeps (p : PortId) (s : State) :
    (clearAllStop p s).ctl = { s.ctl with allStop := none } ∧ (clearAllStop p s).store = s.store ∧
    (clearAllStop p s).engine = s.engine ∧ (clearAllStop p s).il.sections = s.il.sections ∧
    (clearAllStop p s).il.points = s.il.points ∧ (clearAllStop p s).il.instances = s.il.instances ∧
    (portAt (clearAllStop p s) p).responses = (portAt s p).responses := by
  have h1 : quiet (unlatched p s) = quiet (s.withCtl { s.ctl with allStop := none }) := quiet_raise _ _
  obtain ⟨deck, h2⟩ := unlit_recheckLatch (unlatched p s)
  have h3 := aside_clearAllStop p s
  refine ⟨?_, ?_, ?_, ?_, ?_, ?_, ?_⟩
  · rw [aside_ctl h3, unlit_ctl h2]; exact quiet_ctl h1
  · rw [aside_store h3, unlit_store h2]; exact (quiet_store h1 :)
  · rw [aside_engine h3, unlit_engine h2]; exact (quiet_engine h1 :)
  · rw [aside_il h3, unlit_sections h2]; exact congrArg (fun x => x.sections) (quiet_il h1)
  · rw [aside_il h3, unlit_points h2]; exact congrArg (fun x => x.points) (quiet_il h1)
  · rw [aside_il h3, unlit_instances h2]; exact congrArg (fun x => x.instances) (quiet_il h1)
  · rw [aside_responses h3, unlit_responses h2]; exact (responses_of_quiet h1 p :)

/-- The clearing of the latch takes a latched move of an ALIGNED deck, and leaves the deck where there is none (R131). -/
theorem deck_clearAllStop (p : PortId) (s : State) :
    (∀ d e l j, s.deck = some d → (desc s).deck = some e → d.latch = some l → d.pos = .aligned j →
      (clearAllStop p s).deck = some (latchTaken s d e l j)) ∧
    ((∀ d l j, s.deck = some d → d.latch = some l → d.pos ≠ .aligned j) → (clearAllStop p s).deck = s.deck) := by
  have h1 : quiet (unlatched p s) = quiet (s.withCtl { s.ctl with allStop := none }) := quiet_raise _ _
  have hdeck : (unlatched p s).deck = s.deck := (quiet_deck h1 :)
  have hstore : (unlatched p s).store = s.store := (quiet_store h1 :)
  rw [aside_deck (aside_clearAllStop p s)]
  refine ⟨fun d e l j hd he hl hj => ?_, fun hidle => ?_⟩
  · have htaken := unlit_recheckLatch_taken (congrArg (fun x => x.allStop) (quiet_ctl h1)) (hdeck.trans hd)
      ((congrArg (fun x => x.committed.deck) hstore).trans he) hl hj
    rw [unlit_deck htaken]
    exact congrArg some (latchTaken_congr hstore (quiet_il h1 :) (quiet_trains h1 :) (quiet_ring h1 :) d e l j)
  · rw [recheckLatch_idle fun d l j hd => hidle d l j (hdeck.symm.trans hd), hdeck]

/-- Settles O8: the conditions of R21 by `mayResume_iff`, and what the clearing leaves. -/
theorem resumeClearsTheLatch : Obligations.ResumeClearsTheLatch := by
  intro p tag s honline hplace
  have row : ∀ {t a}, serveResume p (heard p s) = (t, a) → exec (.resume p tag) s = .next (respond p tag a t) :=
    fun h => exec_immediate rfl honline (by rw [h])
  refine ⟨fun hclear => row (serveResume_clear hclear), fun hset => ?_⟩
  split
  · rename_i hcond
    obtain ⟨hctl, hstore, hengine, hsec, hpt, hinst, hresp⟩ := clearAllStop_keeps p (heard p s)
    obtain ⟨htaken, hidle⟩ := deck_clearAllStop p (heard p s)
    refine ⟨_, row (serveResume_cleared hset ((mayResume_iff (heard p s)).2 hcond)), ?_, ?_, ?_, ?_, ?_, ?_,
      fun d e l j hd he hl hj => ?_, fun h => ?_, ?_⟩
    · rw [respond_ctl]; exact hctl
    · rw [respond_store]; exact hstore
    · rw [respond_engine]; exact hengine
    · rw [respond_il]; exact hsec
    · rw [respond_il]; exact hpt
    · rw [respond_il]; exact hinst
    · rw [respond_deck]; exact htaken d e l j hd he hl hj
    · rw [respond_deck]; exact hidle h
    · exact responses_respond rfl hplace (hresp.trans (responses_heard p s))
  · rename_i hcond
    exact row (serveResume_refused hset (mt (mayResume_iff (heard p s)).1 hcond))

end Sys2Proof.Machine
end

section
/-! PROOFS. What the READ requests answer (R9, R19, R42, R65, R66, R100, R119, R134, R148, R163, R178, R182), byte by byte. -/

namespace Sys2Proof.Machine

open Sys2Proof

/-! ### The formats (R185; log entry 12) -/

theorem b1_eq (n : Nat) : b1 n = [byte n] := by simp [b1, bytesOf]
theorem b3_eq (n : Nat) : b3 n = inThree n := by simp [b3, bytesOf, inThree]
theorem b4_eq (n : Nat) : b4 n = inFour n := by simp [b4, bytesOf, inFour]
theorem bFlag_eq (f : Bool) : bFlag f = [flagByte f] := by cases f <;> rfl
theorem bOpt_eq (o : Option Nat) : bOpt o = [fieldOr o] := b1_eq _
theorem bItem_eq (o : Option Nat) : bItem o = itemOr o := b2_eq _
theorem bList_eq {α : Type} (f : α → List Byte) (l : List α) : bList f l = counted f l := by
  simp [bList, counted, b1_eq, List.flatMap]
theorem bPort_eq (o : Option PortId) : bPort o = [fieldOr (o.map codePort)] := bOpt_eq _
theorem bParty_eq (o : Option Party) : bParty o = [fieldOr (o.map codeParty)] := bOpt_eq _
theorem bPos_eq (o : Option Position) : bPos o = [fieldOr (o.map codePos)] := bOpt_eq _

/-- The codes of the named fields stand in the order of the spec's tables (R185). -/
theorem codesInOrder : CodesInOrder := by
  refine ⟨rfl, rfl, rfl, rfl, rfl, rfl, rfl, rfl, rfl, rfl, rfl, rfl, rfl, rfl, rfl, rfl, rfl, rfl, rfl, rfl, rfl, rfl, rfl,
    rfl, rfl, rfl, rfl, rfl, rfl, fun p => ⟨rfl, rfl⟩, rfl, rfl, fun x => rfl, rfl, rfl⟩

/-! ### The entries of a description (R9) -/

/-- An entry that may be undescribed is shown with its mark. -/
theorem entryAnswer_map {α : Type} {f g : α → List Byte} (h : ∀ e, g e = f e) (o : Option α) :
    entryAnswer (o.map g) = entryShown f o := by
  cases o with
  | none => rfl
  | some e => exact congrArg Answer.done (by rw [b1_eq, h]; rfl)

/-- An entry that always stands is shown with the mark described. -/
theorem entryAnswer_some (l : List Byte) : entryAnswer (some l) = .done (1#8 :: l) := by
  rw [entryAnswer, b1_eq]; rfl

theorem bSection_eq (e : SectionEntry) : bSection e = inTwo e.length ++ inTwo e.limit ++
    [byte e.district, byte e.addr, byte e.input] ++ itemOr e.upSignal ++ itemOr e.downSignal ++ [flagByte e.deckFlag] := by
  simp [bSection, b1_eq, b2_eq, bItem_eq, bFlag_eq]
theorem bPoint_eq (e : PointEntry) : bPoint e = [byte e.addr, byte e.output, byte e.sec, byte e.district] := by
  simp [bPoint, b1_eq]
theorem bSignal_eq (e : SignalEntry) : bSignal e = [byte e.sec, byte (codeDir e.stands), byte (codeKind e.kind),
    byte e.addr, byte e.output, byte e.district] := by
  simp [bSignal, b1_eq]
theorem bRouteEntry_eq (e : RouteEntry) : bRouteEntry e =
    [byte e.entry] ++ itemOr e.exit ++ [byte (codeClass e.cls)] ++
    counted (fun (x : Nat × Dir) => [byte x.1, byte (codeDir x.2)]) e.sections ++
    counted (fun (x : RoutePoint) => [byte x.point, byte (codePos x.pos), byte x.idx]) e.points ++
    counted (fun (x : Nat × Position) => [byte x.1, byte (codePos x.2)]) e.flanks ++
    counted (fun m => [byte m]) e.overlap ++ counted (fun m => [byte m]) e.approach ++
    (match e.deckReq with | none => [255#8, 255#8, 255#8] | some q => inTwo q.1 ++ [byte (codeEnd q.2)]) := by
  obtain ⟨entry, exit, cls, sections, points, flanks, overlap, approach, deckReq⟩ := e
  cases deckReq <;> simp [bRouteEntry, bList_eq, bItem_eq, bOpt_eq, funext b1_eq, itemOr, fieldOr, inTwo, byte]
theorem bRoad_eq (e : RoadEntry) : bRoad e = itemOr e.sec ++ [byte (codeDir e.meeting)] := by
  simp [bRoad, b1_eq, bItem_eq]
theorem bTrainEntry_eq (e : TrainEntry) :
    bTrainEntry e = inTwo e.addr ++ inTwo e.vmax ++ inTwo e.accel ++ inTwo e.brake := by
  simp [bTrainEntry, b2_eq]
theorem bPlanEntry_eq (e : PlanEntry) : bPlanEntry e = [byte e.train, byte e.start] ++
    counted (fun r => [byte r]) e.routes ++ [byte e.throttle, byte e.addr, byte e.input] := by
  simp [bPlanEntry, bList_eq, funext b1_eq]

/-- The configuring port reads its working copy, and every other port the committed description (R9). -/
theorem readFrom_of_reads {p : PortId} {d : Desc} {s : State} (h : Reads s p d) : readFrom s p = d := by
  obtain ⟨hnone, hsome⟩ := h
  unfold readFrom
  cases hs : s.store.session with
  | none => exact (hnone hs).symm
  | some x => exact (hsome x hs).symm

/-- A parameter is the row of Table 1-7 that its code names. -/
theorem getParam_of_row {q : Params} {n v : Nat} (h : (paramFields q)[n]? = some v) : n < 15 ∧ getParam n q = v := by
  have hn : n < 15 := (List.getElem?_eq_some_iff.1 h).1
  refine ⟨hn, ?_⟩
  match n, hn with
  | 0, _ | 1, _ | 2, _ | 3, _ | 4, _ | 5, _ | 6, _ | 7, _ | 8, _ | 9, _ | 10, _ | 11, _ | 12, _ | 13, _ | 14, _ =>
    exact Option.some.inj h

/-- The port roles under an item that names a port (Table 1-1; log entry 12). -/
theorem readRoles_port (r : Roles) {n : Nat} {p : PortId} (hn : n ≠ noItem) (hp : portOfCode n = some p) :
    readRoles r n = .done [1#8, fieldOr (r.screening.map codePort), flagByte (batchOf r p)] := by
  rw [readRoles, if_neg hn]
  simp only [hp, entryAnswer_some, bPort_eq, bFlag_eq, List.cons_append, List.nil_append]

/-- No port has a code above 3. -/
theorem portOfCode_eq_none {n : Nat} (h : 4 ≤ n) : portOfCode n = none := by
  match n, h with
  | n + 4, _ => rfl

/-- READ-DESCRIPTION of a table reads that table of the description that the port reads (R9). -/
theorem readDescription_table {p : PortId} {d : Desc} {s : State} {table : Nat} {t : TableId} (h : Reads s p d)
    (ht : tableOfCode table = some t) (n : Nat) : readDescription p table n s = readTable d t n := by
  simp only [readDescription, ht, readFrom_of_reads h]

/-- An item outside a table that has no entry under 0xFFFF is refused (R9). -/
theorem readTable_unknown {d : Desc} {t : TableId} {bound n : Nat}
    (ht : (t, bound) ∈ [(TableId.sec, 256), (.point, 128), (.signal, 128), (.route, 192), (.district, 8), (.train, 48),
      (.plan, 16), (.params, 15)]) (hn : bound ≤ n) : readTable d t n = refuse .unknownItem := by
  simp only [List.mem_cons, Prod.mk.injEq, List.not_mem_nil, or_false] at ht
  obtain ⟨rfl, rfl⟩ | ⟨rfl, rfl⟩ | ⟨rfl, rfl⟩ | ⟨rfl, rfl⟩ | ⟨rfl, rfl⟩ | ⟨rfl, rfl⟩ | ⟨rfl, rfl⟩ | ⟨rfl, rfl⟩ := ht
  all_goals exact if_neg (Nat.not_lt.2 hn)

/-- So is one outside a table that has an entry under 0xFFFF. -/
theorem readTable_deck_unknown {d : Desc} {n : Nat} (hn : 24 ≤ n) (hitem : n ≠ noItem) :
    readTable d .deck n = refuse .unknownItem := (if_neg hitem).trans (if_neg (Nat.not_lt.2 hn))
theorem readTable_traction_unknown {d : Desc} {n : Nat} (hitem : n ≠ noItem) :
    readTable d .traction n = refuse .unknownItem := if_neg hitem
theorem readTable_roles_unknown {d : Desc} {n : Nat} (hn : 4 ≤ n) (hitem : n ≠ noItem) :
    readTable d .roles n = refuse .unknownItem := by
  simp only [readTable, readRoles, if_neg hitem, portOfCode_eq_none hn]

/-- The entries under 0xFFFF: the deck, the traction station and the whole set of roles (Table 1-1). -/
theorem readTable_deck_whole (d : Desc) : readTable d .deck 65535 =
    entryAnswer (d.deck.map (fun k => b1 k.n ++ b1 k.sec ++ b1 k.addr)) := rfl
theorem readTable_traction_whole (d : Desc) : readTable d .traction 65535 = entryAnswer (d.traction.map b1) := rfl
theorem readTable_roles_whole (d : Desc) : readTable d .roles 65535 = entryAnswer (some (bRoles d.roles)) := rfl

/-- Every entry of a description is answered with its fields in the order of its table (R9). -/
theorem descriptionAnswered {p : PortId} {d : Desc} {s : State} (h : Reads s p d) :
    DescriptionAnswered d (fun table n => readDescription p table n s) := by
  have row : ∀ {table t n a}, tableOfCode table = some t → readTable d t n = a → readDescription p table n s = a :=
    fun ht ha => (readDescription_table h ht _).trans ha
  have port : ∀ {n x}, n ≠ noItem → portOfCode n = some x → readDescription p 9 n s =
      .done [1#8, fieldOr (d.roles.screening.map codePort), flagByte (batchOf d.roles x)] :=
    fun hn hx => row (t := .roles) rfl (readRoles_port d.roles hn hx)
  refine ⟨fun n hn => ?_, fun n hn => ?_, fun n hn => ?_, fun n hn => ?_, fun n hn => ?_, ?_, fun n hn => ?_,
    fun n hn => ?_, fun n hn => ?_, ?_, ⟨port (n := 0) (x := .a) (by decide) rfl, port (n := 1) (x := .b) (by decide) rfl,
      port (n := 2) (x := .c) (by decide) rfl, port (n := 3) (x := .d) (by decide) rfl, ?_⟩, fun n v hv => ?_, fun t bound ht n hn hitem => ?_⟩
  · exact row (t := .sec) rfl ((if_pos hn).trans (entryAnswer_map bSection_eq _))
  · exact row (t := .point) rfl ((if_pos hn).trans (entryAnswer_map bPoint_eq _))
  · exact row (t := .signal) rfl ((if_pos hn).trans (entryAnswer_map bSignal_eq _))
  · exact row (t := .route) rfl ((if_pos hn).trans (entryAnswer_map bRouteEntry_eq _))
  · exact row (t := .district) rfl ((if_pos hn).trans (by rw [entryAnswer_some, b1_eq]))
  · exact row (t := .deck) rfl ((readTable_deck_whole d).trans (entryAnswer_map (fun k => by simp [b1_eq]) _))
  · have hitem : n ≠ noItem := by unfold noItem; omega
    exact row (t := .deck) rfl ((if_neg hitem).trans ((if_pos hn).trans (entryAnswer_map bRoad_eq _)))
  · exact row (t := .train) rfl ((if_pos hn).trans (entryAnswer_map bTrainEntry_eq _))
  · exact row (t := .plan) rfl ((if_pos hn).trans (entryAnswer_map bPlanEntry_eq _))
  · exact row (t := .traction) rfl ((readTable_traction_whole d).trans (entryAnswer_map b1_eq _))
  · refine row (t := .roles) rfl ((readTable_roles_whole d).trans ((entryAnswer_some _).trans ?_))
    simp [bRoles, bPort_eq, bFlag_eq]
  · obtain ⟨hn, hrow⟩ := getParam_of_row (q := d.params) hv
    exact row (t := .params) rfl ((if_pos hn).trans (by rw [entryAnswer_some, b2_eq, hrow]))
  · have hout : ∀ {t u}, tableOfCode t = some u → (u, bound) ∈ [(TableId.sec, 256), (.point, 128), (.signal, 128),
        (.route, 192), (.district, 8), (.train, 48), (.plan, 16), (.params, 15)] →
        readDescription p t n s = refuse .unknownItem := fun ht hu => row ht (readTable_unknown hu hn)
    simp only [List.mem_cons, Prod.mk.injEq, List.not_mem_nil, or_false] at ht
    obtain ⟨rfl, rfl⟩ | ⟨rfl, rfl⟩ | ⟨rfl, rfl⟩ | ⟨rfl, rfl⟩ | ⟨rfl, rfl⟩ | ⟨rfl, rfl⟩ | ⟨rfl, rfl⟩ | ⟨rfl, rfl⟩ |
      ⟨rfl, rfl⟩ | ⟨rfl, rfl⟩ | ⟨rfl, rfl⟩ := ht
    · exact hout (u := .sec) rfl (by simp)
    · exact hout (u := .point) rfl (by simp)
    · exact hout (u := .signal) rfl (by simp)
    · exact hout (u := .route) rfl (by simp)
    · exact hout (u := .district) rfl (by simp)
    · exact row (t := .deck) rfl (readTable_deck_unknown hn (by simpa [noItem] using hitem))
    · exact hout (u := .train) rfl (by simp)
    · exact hout (u := .plan) rfl (by simp)
    · exact row (t := .traction) rfl (readTable_traction_unknown (by simpa [noItem] using hitem))
    · exact row (t := .roles) rfl (readTable_roles_unknown hn (by simpa [noItem] using hitem))
    · exact hout (u := .params) rfl (by simp)

/-! ### The live fields -/

section

variable (n : Nat) (s : State)

theorem readSection_described {st : SecState} (h : secAt s n = some st) : readSection n s = .done
    [byte (codeOcc st.occ), byte (codeOccupant st.occupant), byte ((st.lock.map (·.slot)).getD 65535 / 256),
      byte ((st.lock.map (·.slot)).getD 65535), byte ((st.lock.map (fun l => codeRole l.role)).getD 255),
      if st.disturbed then 1#8 else 0#8] := by
  simp [readSection, h, bLockRead, b1_eq, bItem_eq, bOpt_eq, bFlag_eq, itemOr, inTwo, fieldOr, flagByte]

theorem readPoint_described {st : PtState} (h : ptAt s n = some st) : readPoint n s = .done
    [byte (codeReported st.reported), byte ((st.commanded.map codePos).getD 255), byte st.locks,
      byte (codePos st.lockedPos), byte (st.timer.getD 0 / 256), byte (st.timer.getD 0)] := by
  simp [readPoint, h, bPos_eq, b1_eq, b2_eq, inTwo, fieldOr]

theorem readSignal_described {x : Aspect} (h : findItem s.il.signals n = some x) : readSignal n s =
    .done (byte (codeAspect x) :: itemOr ((s.il.instances.find?
      (fun e => ((routeAt s e.2.route).map (·.entry)) == some n)).map (·.1))) := by
  simp only [readSignal, h, b1_eq, bItem_eq, slotsWhere, itemsWhere, List.head?_map, List.head?_filter, entrySignal,
    List.cons_append, List.nil_append]

theorem readDistricts_eq : readDistricts s =
    .done (s.il.districts.flatMap (fun d => [fieldOr (d.holder.map codePort), flagByte d.demoOk])) := by
  simp [readDistricts, bPort_eq, bFlag_eq, List.flatMap]

theorem counted_map {α β : Type} (f : β → List Byte) (g : α → β) (l : List α) :
    counted f (l.map g) = counted (fun a => f (g a)) l := by
  simp [counted, List.flatMap_map]

/-- A lock read through the section's record. -/
theorem lockedTo_eq (slot : Nat) (role : LockRole) :
    lockedTo s slot role = fun n => (secAt s n).any (fun x => x.lock == some { slot := slot, role := role }) := by
  funext n
  unfold lockedTo
  cases secAt s n <;> rfl

/-- The sections that the route of a slot holds, with the codes of their roles (R65, R66). -/
theorem map_heldSections (slot : Nat) (i : Inst) :
    (heldSections s slot i).map (fun e => (e.1, codeRole e.2.1, e.2.2)) =
      (((((routeAt s i.route).map (·.sections)).getD []).zip i.marks).filter
        (fun e => lockedTo s slot .route e.1.1)).map (fun e => (e.1.1, 0, some e.2)) ++
      (i.overlap.filter (lockedTo s slot .overlap)).map (fun n => (n, 1, none)) := by
  rw [heldSections, ← List.filterMap_filter, List.filterMap_eq_map', List.map_append, List.map_map, List.map_map]
  rfl

/-- The record of a live route as READ-INSTANCE reports it (R65, R66). -/
theorem bInstance_eq (slot : Nat) (i : Inst) : bInstance s slot i = instanceBytes s slot i := by
  have hheld := counted_map (fun (e : Nat × Nat × Option Mark) => [byte e.1, byte e.2.1, fieldOr (e.2.2.map codeMark)])
    (fun e : Nat × LockRole × Option Mark => (e.1, codeRole e.2.1, e.2.2)) (heldSections s slot i)
  rw [map_heldSections] at hheld
  simp only [lockedTo_eq] at hheld
  simp only [bInstance, instanceBytes, hheld, b1_eq, bList_eq, bItem_eq, bOpt_eq, List.append_assoc, List.cons_append,
    List.nil_append]
  cases i.approach <;> cases i.overlapTimer <;> rfl

theorem readInstance_free (hn : n < 32) (h : instAt s n = none) : readInstance n s = .done [0#8] := by
  have hslots : n < Config.slots := hn
  simp only [readInstance, if_pos hslots, h, b1_eq]
  rfl

theorem readInstance_held {i : Inst} (hn : n < 32) (h : instAt s n = some i) :
    readInstance n s = .done (1#8 :: instanceBytes s n i) := by
  have hslots : n < Config.slots := hn
  simp only [readInstance, if_pos hslots, h, bInstance_eq, b1_eq]
  rfl

theorem readEngine_eq : readEngine s = .done ([byte (codeMember s.engine.pointer), byte s.engine.batch] ++
    counted (fun (e : RetryEntry) => [byte e.route, byte (codePort e.port), flagByte e.eligible, byte (codeReason e.reason)] ++
      inTwo (e.left / 1000)) s.engine.retry) := by
  simp [readEngine, bList_eq, b1_eq, b2_eq, bFlag_eq, seconds]

theorem readTrain_described {r : TrainRec} {e : TrainEntry} (hr : trainAt s n = some r)
    (he : findItem (desc s).trains n = some e) : readTrain n s =
    .done (inTwo e.addr ++ inTwo e.vmax ++ inTwo e.accel ++ inTwo e.brake ++ [byte (codeTrain r.state)] ++
      counted (fun m => [byte m]) r.list ++ [byte (codeHeading r.heading), fieldOr (r.driver.map codeParty),
        byte r.throttle, flagByte r.pendRev, byte (codeCause r.cause)] ++
      bSup s.freeSeed (r.sup.map (fun u => (u.offset, u.output, u.permitted)))) := by
  simp [readTrain, hr, trainEntry, he, bList_eq, funext b1_eq, b2_eq, bParty_eq, bFlag_eq]

/-- The figures of a train's report are seven bytes, those of its supervision when it has one (R100). -/
theorem bSup_figures (seed : Nat) (o : Option Sup) :
    (bSup seed (o.map (fun u => (u.offset, u.output, u.permitted)))).length = 7 ∧
    (∀ u, o = some u → bSup seed (o.map (fun u => (u.offset, u.output, u.permitted))) =
      inThree u.offset ++ inTwo u.output ++ inTwo u.permitted) := by
  cases o with
  | none => exact ⟨by simp [bSup], fun u h => by simp at h⟩
  | some u => exact ⟨by simp [bSup, b3_eq, b2_eq, inThree, inTwo],
      fun v h => by rw [Option.some.inj h]; simp [bSup, b3_eq, b2_eq]⟩

theorem readSupervision_absent {r : TrainRec} (hr : trainAt s n = some r) (hsup : r.sup = none) :
    readSupervision n s = .done [0#8] := by
  simp [readSupervision, hr, hsup, b1_eq, byte]

/-- The distance to the end of authority from a head on the kept list (R107, R119). -/
theorem reportedDistance_on {h offset : Nat} {l1 l2 : List AuthSec} {x : AuthSec} (hx : x.sec = h)
    (hbefore : ∀ y ∈ l1, y.sec ≠ h) (hdesc : ∀ y ∈ l2, findItem (desc s).sections y.sec ≠ none) :
    reportedDistance s h offset (l1 ++ x :: l2) =
      secLength s h - offset / 20 + (l2.map (fun x => secLength s x.sec)).sum := by
  have hon : (l1 ++ x :: l2).any (fun x => x.sec == h) = true := by simp [hx]
  have htail : ((l1 ++ x :: l2).dropWhile (fun x => x.sec != h)).drop 1 = l2 := by
    rw [List.dropWhile_append_of_pos (fun y hy => by simpa using hbefore y hy)]
    simp [hx]
  have hall : l2.all (fun x => (secEntry s x.sec).isSome) = true := by
    simpa [secEntry, Option.isSome_iff_ne_none] using hdesc
  simp only [reportedDistance, hon, htail, hall, if_true, headRemainder]

/-- The distance from a head that stands before the kept list (R97, R119; log entry 4). -/
theorem reportedDistance_before {h offset : Nat} {auth : List AuthSec} (hoff : ∀ x ∈ auth, x.sec ≠ h) (hzero : offset ≠ 0)
    (hdesc : ∀ y ∈ auth, findItem (desc s).sections y.sec ≠ none) :
    reportedDistance s h offset auth =
      secLength s h - offset / 20 + (auth.map (fun x => secLength s x.sec)).sum := by
  have hon : auth.any (fun x => x.sec == h) = false := by simpa using hoff
  have hall : auth.all (fun x => (secEntry s x.sec).isSome) = true := by
    simpa [secEntry, Option.isSome_iff_ne_none] using hdesc
  simp only [reportedDistance, hon, hzero, hall, if_true, if_false, headRemainder, Bool.false_eq_true]

/-- READ-SUPERVISION of a train that stands (R119). -/
theorem readSupervision_supervised {r : TrainRec} {u : Sup} {h : Nat} (hr : trainAt s n = some r) (hsup : r.sup = some u)
    (hhead : r.list.getLast? = some h) : readSupervision n s =
    .done (1#8 :: inThree u.offset ++ inTwo (u.offset / 20) ++ counted (fun (x : AuthSec) => [byte x.sec]) u.auth ++
      inThree (reportedDistance s h u.offset u.auth) ++ inTwo u.permitted ++ [byte (codeTerm u.term)] ++
      (match u.term with | .sec m => inTwo m | _ => [255#8, 255#8]) ++ inTwo u.demanded ++ inTwo u.output ++
      [flagByte u.intervening, byte (codeDrive u.sense), byte u.refresh]) := by
  have hterm : bItem (termSection u.term) = (match u.term with | .sec m => inTwo m | _ => [255#8, 255#8]) := by
    cases u.term <;> exact bItem_eq _
  simp only [readSupervision, hr, hsup, headOf, hhead, ← hterm, b1_eq, b2_eq, b3_eq, bList_eq, bFlag_eq, List.append_assoc,
    List.cons_append, List.nil_append]
  rfl

/-- The state fields of the deck (R134). -/
theorem bDeckPos_eq (x : DeckPos) : bDeckPos x = (match x with
    | .aligned j => [0#8, byte j, 255#8, 255#8]
    | .moving f k sn => [1#8, byte f, byte k, byte (codeSense sn)]
    | .unproven => [2#8, 255#8, 255#8, 255#8]) := by
  cases x <;> simp [bDeckPos, b1_eq, bOpt_eq, codeDeckPos, deckIndex, deckSense, fieldOr, byte]

/-- The requester of a move of the deck (R134). -/
theorem bMoveReq_eq (x : Option MoveReq) : bMoveReq x = (match x with
    | none => [255#8, 255#8, 255#8]
    | some (.port p) => [255#8, 255#8, byte (codePort p)]
    | some (.inst slot q) => inTwo slot ++ [byte (codeParty q)]) := by
  rcases x with _ | _ | _ <;> simp [bMoveReq, bItem_eq, bParty_eq, itemOr, fieldOr, inTwo, byte, moveParty, codeParty]

/-- The latched move of the deck (R134). -/
theorem bLatch_eq (x : Option Latch) (l : List Byte) :
    bItem (x.map (·.road)) ++ (bOpt (x.map (fun l => codeReqSense l.sense)) ++ (bPort (x.map (·.port)) ++ l)) =
      (match x with
        | none => [255#8, 255#8, 255#8, 255#8]
        | some l => inTwo l.road ++ [byte (codeReqSense l.sense), byte (codePort l.port)]) ++ l := by
  cases x <;> simp [bItem_eq, bOpt_eq, bPort_eq, itemOr, fieldOr, inTwo, byte]

/-- The roads of the deck (R134). -/
theorem bRoads_eq (e : DeckEntry) : bRoads e = counted (fun k => match findItem e.roads k with
    | some x => itemOr x.sec ++ [byte (codeDir x.meeting)]
    | none => [255#8, 255#8, 255#8]) (List.range e.n) := by
  rw [bRoads, bList_eq]
  congr 1
  funext k
  cases findItem e.roads k with
  | none => simp only [bItem_eq, bOpt_eq]; rfl
  | some x => exact bRoad_eq x

theorem readDeck_described {d : DeckState} {e : DeckEntry} (hd : s.deck = some d) (he : (desc s).deck = some e) :
    readDeck s = .done (deckBytes d e) := by
  simp only [readDeck, hd, he, List.append_assoc, bLatch_eq, bDeckPos_eq, bMoveReq_eq, bRoads_eq, b1_eq, b3_eq, deckBytes]
  simp only [bOpt_eq, List.cons_append, List.nil_append] <;> rfl

/-- OPEN 0 and CLOSED 1 (R148). -/
theorem open_eq (f : Failing) : b1 (if isOpen f then 0 else 1) = [flagByte (f.mode || f.screening || f.allStop)] := by
  obtain ⟨mode, screening, allStop⟩ := f
  cases mode <;> cases screening <;> cases allStop <;> rfl

/-- A button as READ-DEMO shows it (R138, R148). -/
theorem button_eq (x : Nat × Button) :
    b1 x.1 ++ b1 (codeLevel (shownLevel s x.1 x.2)) ++ b1 (codeLamp x.2.lamp) =
      [byte x.1, (match findItem (desc s).plans x.1 with
        | some e => if (moduleAt s e.addr).state = .failed then 2#8 else byte (codeLevel x.2.level)
        | none => byte (codeLevel x.2.level)), byte (codeLamp x.2.lamp)] := by
  cases h : findItem (desc s).plans x.1 with
  | none => simp [b1_eq, shownLevel, planEntry, h]
  | some e => by_cases hf : (moduleAt s e.addr).state = .failed <;> simp [b1_eq, shownLevel, planEntry, h, hf, codeLevel, byte]

/-- An entry of the demonstration queue as READ-DEMO shows it (R148). -/
theorem entry_eq (x : DemoEntry) : b1 x.plan ++ b1 (if x.accepted then 1 else 0) ++ bItem (entryLeft x) =
    [byte x.plan, flagByte x.accepted] ++ itemOr ((if x.accepted then x.admission else x.screening).map (· / 1000)) := by
  have hsec : seconds = (· / 1000) := rfl
  cases h : x.accepted <;> simp [b1_eq, bItem_eq, entryLeft, flagByte, h, hsec, byte]

/-- The running record (R148). -/
theorem bRun_eq (x : Option Run) : bRun x = (match x with
    | none => [0#8]
    | some r => [1#8, byte r.plan, byte r.train, byte r.next] ++
      (match r.hand with
        | .none => [0#8, 255#8] | .fresh => [1#8, 255#8] | .blocked why => [2#8, byte (codeReason why)]) ++
      counted (fun (x : Nat × Nat) => [byte x.1, byte x.2]) r.insts ++ inTwo (r.left / 1000) ++ [flagByte r.paused]) := by
  cases x with
  | none => exact b1_eq 0
  | some r =>
    cases h : r.hand <;> simp [bRun, h, bHand, b1_eq, b2_eq, bOpt_eq, bFlag_eq, bList_eq, seconds, fieldOr, byte]

theorem readDemo_eq : readDemo s = .done (demoBytes s) := by
  simp only [readDemo, open_eq, button_eq, entry_eq, bRun_eq]
  simp only [demoBytes, bFailing, bFlag_eq, bList_eq, funext b1_eq, List.append_assoc, List.cons_append, List.nil_append] <;>
    rfl

theorem readModule_eq (hn : n < 64) : readModule n s = .done
    ([byte (codeModKind (moduleAt s n).kind), byte (codeModState (moduleAt s n).state), byte (moduleAt s n).misses] ++
      (match (moduleAt s n).data with | some l => 1#8 :: l | none => [0#8])) := by
  rw [readModule, if_pos hn]
  cases h : (moduleAt s n).data <;> simp [h, b1_eq, byte]

/-- A sweep setting, or none (R163). -/
theorem bSetting_eq (o : Option SweepSetting) : bSetting o = (match o with
    | some v => byte (codeSweep v.mode) :: inTwo v.period
    | none => [255#8, 255#8, 255#8]) := by
  cases o <;> simp [bSetting, bOpt_eq, bItem_eq, b1_eq, b2_eq, fieldOr, itemOr, inTwo, byte]

/-- The command in the overflow slot (R163). -/
theorem bSlot_eq (o : Option RingCmd) (l : List Byte) :
    bOpt (o.map codeCmd) ++ (bItem (o.bind (fun c => targetItem (cmdTarget c))) ++ l) =
      (match o with
        | none => [255#8, 255#8, 255#8]
        | some (.aspect n _) => 0#8 :: inTwo n
        | some (.speed n _ _) => 1#8 :: inTwo n
        | some (.lamp n _) => 2#8 :: inTwo n
        | some (.pointMove n _) => 3#8 :: inTwo n
        | some (.deckTurn _ _) => [4#8, 255#8, 255#8]
        | some (.power _) => [5#8, 255#8, 255#8]) ++ l := by
  rcases o with _ | _ | _ | _ | _ | _ | _ <;>
    simp [bOpt_eq, bItem_eq, codeCmd, cmdTarget, targetItem, fieldOr, itemOr, inTwo, byte]

/-- The commanded power (R163). -/
theorem power_eq (o : Option Bool) : bOpt (o.map (fun on => if on then 1 else 0)) =
    [match o with | none => 255#8 | some on => flagByte on] := by
  rcases o with _ | _ | _ <;> rfl

theorem readRing_eq : readRing s = .done (ringBytes s.ring s.ctl.mode) := by
  simp only [readRing, ringBytes, List.append_assoc, bSlot_eq, bSetting_eq, power_eq, b1_eq, bFlag_eq, List.cons_append,
    List.nil_append] <;> rfl

theorem readPort_eq (x : PortId) : readPort (codePort x) s = .done (portBytes (portAt s x)) := by
  have hx : portOfCode (codePort x) = some x := by cases x <;> rfl
  simp [readPort, hx, portBytes, b1_eq, b2_eq, bOpt_eq, bFlag_eq, quantaLeft, Config.quantumMs]

theorem readMode_eq : readMode s = .done ([byte (codeMode s.ctl.mode), fieldOr (s.ctl.pendingRest.map codePort),
      fieldOr (s.store.session.map (fun x => codePort x.port))] ++
      (match s.ctl.allStop with
        | none => [0#8, 255#8, 255#8]
        | some (.port p) => [1#8, 1#8, byte (codePort p)]
        | some cause => [1#8, byte (codeStop cause), 255#8]) ++ [flagByte (!s.ctl.estop)]) := by
  have hestop : b1 (if s.ctl.estop then 0 else 1) = [flagByte (!s.ctl.estop)] := by cases s.ctl.estop <;> rfl
  simp only [readMode, hestop, b1_eq, bPort_eq, bFlag_eq, bOpt_eq, Option.map_map, List.cons_append,
    List.nil_append]
  rcases s.ctl.allStop with _ | _ | _ | _ | _ <;> rfl

theorem readCounters_eq : readCounters s = .done (s.counters.values.flatMap (fun v => inFour v.toNat) ++
    s.counters.sel.flatMap (fun x => [byte (codeEvent x.event), byte (codeQualifier x.qual)]) ++
    s.counters.half.map flagByte) := by
  have hsel : bSel = fun x => [byte (codeEvent x.event), byte (codeQualifier x.qual)] := by
    funext x
    simp [bSel, b1_eq]
  have hhalf : (s.counters.half.map bFlag).flatten = s.counters.half.map flagByte := by
    rw [funext bFlag_eq, ← List.flatMap_def, ← List.map_eq_flatMap]
  simp only [readCounters, hsel, hhalf, funext b4_eq, List.flatMap_def]

end

/-- Settles O41: the codes, the entries of a description, and the answer of each read. -/
theorem readAnswers : Obligations.ReadAnswers := by
  refine ⟨codesInOrder, fun p d s h => descriptionAnswered h, fun n s => ?_⟩
  refine ⟨fun h => ?_, fun h => ?_, fun h => ?_, fun h => ⟨?_, ?_⟩, fun h => ?_, fun h => ?_, fun h => ?_, fun h => ?_,
    fun st h => readSection_described n s h, fun st h => readPoint_described n s h, fun x h => readSignal_described n s h,
    readDistricts_eq s, fun hn h => readInstance_free n s hn h, fun i hn h => readInstance_held n s hn h, readEngine_eq s,
    fun r e hr he => ?_, fun r hr hsup => readSupervision_absent n s hr hsup, fun r u h hr hsup hhead => ?_,
    fun d e hd he => readDeck_described s hd he, readDemo_eq s, fun hn m hm => ?_, readRing_eq s, readPort_eq s,
    readMode_eq s, readCounters_eq s⟩
  · simp only [readSection, h]; rfl
  · simp only [readPoint, h]; rfl
  · simp only [readSignal, h]; rfl
  · simp only [readTrain, h]; rfl
  · simp only [readSupervision, h]; rfl
  · exact if_neg (Nat.not_lt.2 h)
  · exact if_neg (Nat.not_lt.2 h)
  · simp only [readPort, portOfCode_eq_none h]; rfl
  · simp only [readDeck, h]; rfl
  · obtain ⟨hlen, hfig⟩ := bSup_figures s.freeSeed r.sup
    exact ⟨_, hlen, hfig, readTrain_described n s hr he⟩
  · refine ⟨_, fun l1 x l2 hauth hx hbefore hdesc => ?_, fun hoff hzero hdesc => ?_,
      readSupervision_supervised n s hr hsup hhead⟩
    · rw [hauth]
      exact reportedDistance_on s hx hbefore hdesc
    · exact reportedDistance_before s hoff hzero hdesc
  · subst hm
    exact readModule_eq n s hn

end Sys2Proof.Machine
end

section
/-! PROOFS. COMMIT-CONFIG of a sound description (R2, R6, R7, R11, R84). -/

namespace Sys2Proof.Machine

open Sys2Proof

/-! ### Tables -/

/-- The entry of an item stands in its table. -/
theorem mem_of_findItem {α : Type} {t : Table α} {k : Nat} {a : α} (h : findItem t k = some a) : (k, a) ∈ t := by
  induction t with
  | nil => simp [findItem] at h
  | cons e t ih =>
    obtain ⟨i, b⟩ := e
    by_cases hk : i = k
    · simp_all [findItem]
    · simp only [findItem, hk, if_false] at h
      exact List.mem_cons_of_mem _ (ih h)

/-- An item that stands in a table has an entry. -/
theorem isSome_findItem_of_mem {α : Type} {t : Table α} {k : Nat} {a : α} (h : (k, a) ∈ t) :
    (findItem t k).isSome = true := by
  induction t with
  | nil => cases h
  | cons e t ih =>
    obtain ⟨i, b⟩ := e
    by_cases hk : i = k
    · simp [findItem, hk]
    · obtain h | h := List.mem_cons.1 h
      · exact absurd (congrArg Prod.fst h).symm hk
      · simpa [findItem, hk] using ih h

/-- A table made of the numbers of another has an entry for the same items. -/
theorem findItem_map_number {α β : Type} (t : Table α) (g : Nat → β) (k : Nat) :
    findItem (t.map (fun e => (e.1, g e.1))) k = (findItem t k).map (fun _ => g k) := by
  induction t with
  | nil => rfl
  | cons e t ih =>
    obtain ⟨i, a⟩ := e
    by_cases hk : i = k
    · simp [findItem, hk]
    · simpa [findItem, hk] using ih

/-! ### The service with no entry and no run -/

/-- What the lamps leave alone: the state aside, the trains, the queue and the run of the demonstrations, and the ring but for
its waiting commands. -/
def besideLamps (s : State) : State × Table TrainRec × List DemoEntry × Option Run × Ring :=
  (aside s, s.trains, s.demo.queue, s.demo.run, ringRest s.ring)

@[simp] theorem besideLamps_raise (n : Notice) (s : State) : besideLamps (raise n s) = besideLamps s := by
  simp [besideLamps]

@[simp] theorem besideLamps_offer (c : RingCmd) (s : State) : besideLamps (offer c s) = besideLamps s := by
  simp only [besideLamps, aside_offer, ringRest_offer, (inner_demo (inner_offer c s) :), (inner_trains (inner_offer c s) :)]

@[simp] theorem besideLamps_recomputeLamp (n : Nat) (s : State) : besideLamps (recomputeLamp n s) = besideLamps s := by
  unfold recomputeLamp
  split
  · rfl
  · split
    · rfl
    · exact besideLamps_offer _ _

@[simp] theorem besideLamps_recomputeLamps (s : State) : besideLamps (recomputeLamps s) = besideLamps s :=
  foldl_same besideLamps _ (fun s n => besideLamps_recomputeLamp n s) _ s

section

variable {s t : State}

theorem besideLamps_queue (h : besideLamps t = besideLamps s) : t.demo.queue = s.demo.queue :=
  congrArg (fun x => x.2.2.1) h

end

/-- With no entry and no run there is nothing to drop (R136). -/
theorem clearService_idle {s : State} (hqueue : s.demo.queue = []) (hrun : s.demo.run = none) : clearService s = s := by
  have hdemo : { s.demo with queue := [] } = s.demo := by rw [← hqueue]
  rw [clearService, hqueue, hdemo]
  simp [abort, hrun, State.withDemo]

/-- With no entry and no run the service changes nothing but its conditions and its lamps (R136, R137). -/
theorem besideLamps_recomputeService {s : State} (hqueue : s.demo.queue = []) (hrun : s.demo.run = none) :
    besideLamps (recomputeService s) = besideLamps s := by
  have hraise : ∀ n f, besideLamps (raise n (s.withDemo { s.demo with failing := f })) = besideLamps s :=
    fun n f => besideLamps_raise _ _
  unfold recomputeService
  dsimp only
  split
  · rfl
  · split
    · have hresume : ∀ x : State, x.demo.run = none → resumeRun x = x := fun x h => by simp [resumeRun, h]
      have htest : ∀ x : State, x.demo.queue = [] → admissionTest x = x := fun x h => by simp [admissionTest, h]
      rw [hresume _ (by simpa using hrun), htest _ (by
        rw [besideLamps_queue (besideLamps_recomputeLamps _)]; simpa using hqueue), besideLamps_recomputeLamps, hraise]
    · split
      · rw [besideLamps_recomputeLamps, clearService_idle (by simpa using hqueue) (by simpa using hrun), hraise]
      · split
        · rw [besideLamps_recomputeLamps, hraise]
        · have hpause : ∀ x : State, x.demo.run = none → pauseRun x = x := fun x h => by simp [pauseRun, h]
          rw [hpause _ (by simpa using hrun), besideLamps_recomputeLamps, hraise]

/-! ### What a sound description holds -/

/-- No claim of a list is first when none holds. -/
theorem not_firstOf_iff {l : List (Prop × FaultKind)} : (∀ f, ¬ FirstOf l f) ↔ ∀ c ∈ l, ¬ c.1 := by
  induction l with
  | nil => simp [FirstOf]
  | cons c l ih =>
    obtain ⟨P, k⟩ := c
    by_cases hP : P <;> simp [FirstOf, hP, ih]

/-- An item of a table without a fault has none of its checks. -/
theorem no_fault_of_items {α : Type} {id : TableId} {t : Table α} {fault : Nat → α → Option FaultAt}
    {checks : Nat → α → List (Prop × FaultKind)} (h : ∀ n e, FaultsAs id (fault n e) n (checks n e))
    (hnone : firstItemFault t fault = none) {x : Nat × α} (hx : x ∈ t) : ∀ c ∈ checks x.1 x.2, ¬ c.1 :=
  not_firstOf_iff.1 ((h x.1 x.2).eq_none_iff.1 (List.findSome?_eq_none_iff.1 hnone x hx))

/-- The addresses of a sound description: no module serves entries of two kinds, and a traction station is described
(R2, Table 1-8). -/
structure SoundAddresses (d : Desc) : Prop where
  point : ∀ {a}, PointUses d a → ¬ SecUses d a
  signal : ∀ {a}, SignalUses d a → ¬ SecUses d a ∧ ¬ PointUses d a
  plan : ∀ {a}, PlanUses d a → ¬ SecUses d a ∧ ¬ PointUses d a ∧ ¬ SignalUses d a ∧ ¬ DeckUses d a
  deck : ∀ {a}, DeckUses d a → ¬ SecUses d a ∧ ¬ PointUses d a ∧ ¬ SignalUses d a
  traction : ∃ a, d.traction = some a ∧
    ¬ SecUses d a ∧ ¬ PointUses d a ∧ ¬ SignalUses d a ∧ ¬ DeckUses d a ∧ ¬ PlanUses d a

/-- The walk finds no fault only where the addresses are sound. -/
theorem soundAddresses_of_validate {d : Desc} (h : validate d = none) : SoundAddresses d := by
  simp only [validate, List.findSome?_eq_none_iff, List.forall_mem_cons, id] at h
  obtain ⟨-, hpoint, hsignal, -, hdeck, -, hplan, htraction, -⟩ := h
  refine ⟨?_, ?_, ?_, ?_, ?_⟩
  · rintro a ⟨x, hx, rfl⟩
    have := no_fault_of_items (faultsAs_point d) hpoint hx
    simp only [pointChecks, List.forall_mem_cons, not_or] at this
    tauto
  · rintro a ⟨x, hx, rfl⟩
    have := no_fault_of_items (faultsAs_signal d) hsignal hx
    simp only [signalChecks, List.forall_mem_cons, not_or] at this
    tauto
  · rintro a ⟨x, hx, rfl⟩
    have := no_fault_of_items (faultsAs_plan d) hplan hx
    simp only [planChecks, List.forall_mem_cons, not_or] at this
    tauto
  · rintro a ⟨k, hk, rfl⟩
    simp only [faultDeck, hk] at hdeck
    split at hdeck
    · cases hdeck
    · split at hdeck
      · cases hdeck
      · have hused : (usedBySec d k.addr || usedByPoint d k.addr || usedBySignal d k.addr) = false := by
          simpa [firstFault] using hdeck
        simpa [← usedBySec_iff, ← usedByPoint_iff, ← usedBySignal_iff, and_assoc] using hused
  · unfold faultTraction at htraction
    split at htraction
    · cases htraction
    · rename_i a ha
      have hused : (usedBySec d a || usedByPoint d a || usedBySignal d a || usedByDeck d a || usedByPlan d a) = false := by
        simpa [firstFault] using htraction
      refine ⟨a, ha, ?_⟩
      simpa [← usedBySec_iff, ← usedByPoint_iff, ← usedBySignal_iff, ← usedByDeck_iff, ← usedByPlan_iff, and_assoc]
        using hused

/-- The kind of an address is that of the entries that name it (R2). -/
theorem kindOf_sound {d : Desc} (h : SoundAddresses d) (a : Nat) :
    (SecUses d a → kindOf d a = .detect) ∧ (PointUses d a → kindOf d a = .point) ∧
    (SignalUses d a → kindOf d a = .signal) ∧ (PlanUses d a → kindOf d a = .button) ∧
    (DeckUses d a → kindOf d a = .deck) ∧ (d.traction = some a → kindOf d a = .traction) ∧
    (¬ SecUses d a → ¬ PointUses d a → ¬ SignalUses d a → ¬ PlanUses d a → ¬ DeckUses d a → d.traction ≠ some a →
      kindOf d a = .absent) := by
  obtain ⟨hpoint, hsignal, hplan, hdeck, b, hb, htraction⟩ := h
  have sec := usedBySec_iff d a
  have point := usedByPoint_iff d a
  have signal := usedBySignal_iff d a
  have plan := usedByPlan_iff d a
  have deck := usedByDeck_iff d a
  unfold kindOf
  refine ⟨fun h => ?_, fun h => ?_, fun h => ?_, fun h => ?_, fun h => ?_, fun h => ?_, fun h1 h2 h3 h4 h5 h6 => ?_⟩
  · rw [if_pos (sec.2 h)]
  · rw [if_neg (mt sec.1 (hpoint h)), if_pos (point.2 h)]
  · obtain ⟨h1, h2⟩ := hsignal h
    rw [if_neg (mt sec.1 h1), if_neg (mt point.1 h2), if_pos (signal.2 h)]
  · obtain ⟨h1, h2, h3, -⟩ := hplan h
    rw [if_neg (mt sec.1 h1), if_neg (mt point.1 h2), if_neg (mt signal.1 h3), if_pos (plan.2 h)]
  · obtain ⟨h1, h2, h3⟩ := hdeck h
    have h4 : ¬ PlanUses d a := fun hp => (hplan hp).2.2.2 h
    rw [if_neg (mt sec.1 h1), if_neg (mt point.1 h2), if_neg (mt signal.1 h3), if_neg (mt plan.1 h4), if_pos (deck.2 h)]
  · obtain rfl : b = a := Option.some.inj (hb.symm.trans h)
    obtain ⟨h1, h2, h3, h4, h5⟩ := htraction
    rw [if_neg (mt sec.1 h1), if_neg (mt point.1 h2), if_neg (mt signal.1 h3), if_neg (mt plan.1 h5),
      if_neg (mt deck.1 h4), if_pos (by simpa using h)]
  · rw [if_neg (mt sec.1 h1), if_neg (mt point.1 h2), if_neg (mt signal.1 h3), if_neg (mt plan.1 h4),
      if_neg (mt deck.1 h5), if_neg (by simpa using h6)]

/-- A table made of a list of numbers has an entry for each of them. -/
theorem findItem_map_self {β : Type} (l : List Nat) (g : Nat → β) (k : Nat) :
    findItem (l.map (fun a => (a, g a))) k = if k ∈ l then some (g k) else none := by
  induction l with
  | nil => simp [findItem]
  | cons a l ih =>
    by_cases hk : a = k
    · simp [findItem, hk]
    · simp [findItem, hk, ih, Ne.symm hk]

/-- The module table of a description has the described addresses, each of its kind and ABSENT (R2, R149). -/
theorem findItem_modulesOf (d : Desc) (a : Nat) : findItem (modulesOf d) a =
    if a < 64 ∧ kindOf d a ≠ .absent then some (freshModule (kindOf d a)) else none := by
  rw [modulesOf, findItem_map_self]
  simp

/-- The module table after a commit, address by address (R2, R149). -/
theorem moduleAt_committed {d : Desc} {t : State} (h : t.ring.modules = modulesOf d) (a : Nat) :
    (moduleAt t a).state = .absent ∧ (moduleAt t a).kind = if a < 64 then kindOf d a else .absent := by
  rw [moduleAt, h, findItem_modulesOf]
  by_cases ha : a < 64
  · by_cases hk : kindOf d a = .absent <;> simp [ha, hk, freshModule]
  · simp [ha]

/-- A description with a traction station at a ring address has a module. -/
theorem modulesOf_ne_nil {d : Desc} (h : SoundAddresses d) (hfits : ∀ a, d.traction = some a → a ≤ 63) :
    modulesOf d ≠ [] := by
  obtain ⟨a, ha, -⟩ := h.traction
  obtain ⟨-, -, -, -, -, hkind, -⟩ := kindOf_sound h a
  have hitem := findItem_modulesOf d a
  rw [hkind ha, if_pos ⟨by have := hfits a ha; omega, by decide⟩] at hitem
  intro hnil
  rw [hnil] at hitem
  cases hitem

/-! ### The state that a commit leaves (R7) -/

section

variable (d : Desc) (s : State)

/-- The train records after a commit. -/
def committedTrains : Table TrainRec := d.trains.map (fun e => (e.1, commitTrain s.store.committed d s e.1))

/-- A train after a commit is described, and its record is that of R7. -/
theorem findItem_committedTrains (k : Nat) : findItem (committedTrains d s) k =
    (findItem d.trains k).map (fun _ => commitTrain s.store.committed d s k) := findItem_map_number _ _ _

/-- A train in the records after a commit is read as it stands there. -/
theorem findItem_of_mem_committedTrains {k : Nat} {r : TrainRec} (h : (k, r) ∈ committedTrains d s) :
    findItem (committedTrains d s) k = some r := by
  obtain ⟨⟨i, e⟩, hmem, heq⟩ := List.mem_map.1 h
  obtain ⟨rfl, rfl⟩ : i = k ∧ _ = r := by simpa using heq
  obtain ⟨a, ha⟩ := Option.isSome_iff_exists.1 (isSome_findItem_of_mem hmem)
  rw [findItem_committedTrains, ha]
  rfl

/-- The occupant of a section after a commit is the train that lists it (R7). -/
theorem listedTrain_eq_some {ts : Table TrainRec} {n k : Nat} (h : listedTrain ts n = some k) :
    ∃ r, (k, r) ∈ ts ∧ n ∈ r.list := by
  simp only [listedTrain, itemsWhere, List.head?_map, List.head?_filter, Option.map_eq_some_iff] at h
  obtain ⟨⟨k', r⟩, hfind, rfl⟩ := h
  exact ⟨r, List.mem_of_find?_eq_some hfind, by simpa using List.find?_some hfind⟩

/-- A section that no train lists has no train for an occupant (R7). -/
theorem listedTrain_eq_none {ts : Table TrainRec} {n : Nat} (h : listedTrain ts n = none) {k : Nat} {r : TrainRec}
    (hr : (k, r) ∈ ts) : n ∉ r.list := by
  simp only [listedTrain, itemsWhere, List.head?_map, List.head?_filter, Option.map_eq_none_iff, List.find?_eq_none] at h
  simpa using h (k, r) hr

/-- A train that keeps its place (R7). -/
theorem commitTrain_kept {k : Nat} {r : TrainRec} (hr : trainAt s k = some r)
    (hkeep : keepsRecord s.store.committed d k r = true) : commitTrain s.store.committed d s k =
      { r with driver := none, throttle := 0, pendRev := false, sup := r.sup.map (clampOffset d r.list) } := by
  simp only [commitTrain, hr, hkeep, if_true]

/-- A train that keeps no place is ABSENT (R7, R84). -/
theorem commitTrain_absent {k : Nat} (h : ∀ r, trainAt s k = some r → keepsRecord s.store.committed d k r = false) :
    commitTrain s.store.committed d s k = absentTrain := by
  unfold commitTrain
  split
  · rename_i r hr
    rw [h r hr]
    rfl
  · rfl

/-- Which trains keep their place (R7). -/
theorem keepsRecord_iff (old : Desc) (k : Nat) (r : TrainRec) : keepsRecord old d k r = true ↔
    r.state ≠ .absent ∧ findItem old.trains k = findItem d.trains k ∧
      ∀ n ∈ r.list, (findItem d.sections n).isSome = true := by
  simp [keepsRecord, hasSec, and_assoc]

/-- Nobody drives a train after a commit (R7). -/
theorem commitTrain_undriven (k : Nat) : (commitTrain s.store.committed d s k).driver = none ∧
    (commitTrain s.store.committed d s k).throttle = 0 ∧ (commitTrain s.store.committed d s k).pendRev = false := by
  unfold commitTrain
  split
  · split <;> exact ⟨rfl, rfl, rfl⟩
  · exact ⟨rfl, rfl, rfl⟩

/-- A kept head offset lies in the head section (R7). -/
theorem offset_clampOffset {list : List Nat} {u : Sup} {h : Nat} {y : SectionEntry} (hh : list.getLast? = some h)
    (hy : findItem d.sections h = some y) : (clampOffset d list u).offset = min u.offset (y.length * 20 - 1) := by
  simp [clampOffset, headOf, hh, hy]

end

/-! ### The request -/

section

variable {d : Desc} {s : State}

/-- The state from which the first whole sweep after a commit begins (R6, R7, R11, R136). -/
def enteredByCommit (d : Desc) (s : State) : State :=
  recomputeService (enterWaking .commit (raise (.mode (.sessionClosed .commit)) (commitState d s)))

/-- No entry of the demonstration queue stands after a commit, so entering WAKING changes the mode and commands the power,
and beside the lamps nothing more (R7, R11, R136). -/
theorem besideLamps_enteredByCommit (d : Desc) (s : State) : besideLamps (enteredByCommit d s) =
    (aside ((commitState d s).withCtl { s.ctl with mode := .waking, wakeBy := .commit }), committedTrains d s, [], none,
      { ringRest (commitState d s).ring with power := some true }) := by
  have hinner : inner (enterWaking .commit (raise (.mode (.sessionClosed .commit)) (commitState d s))) =
      inner ((commitState d s).withCtl { s.ctl with mode := .waking, wakeBy := .commit }) := by
    rw [inner_enterWaking, raise_ctl]
    exact inner_of_quiet (quiet_withCtl_congr (quiet_raise _ _) _)
  have hdemo : (enterWaking .commit (raise (.mode (.sessionClosed .commit)) (commitState d s))).demo =
      (commitState d s).demo := (inner_demo hinner :)
  have hring := ringRest_enterWaking .commit (raise (.mode (.sessionClosed .commit)) (commitState d s))
  rw [enteredByCommit, besideLamps_recomputeService (by rw [hdemo]; rfl) (by rw [hdemo]; rfl), besideLamps,
    aside_of_inner hinner, (inner_trains hinner :), hdemo, hring, raise_ring]
  rfl

/-- What stands in the blocks when the first whole sweep after a commit has begun. -/
theorem commit_blocks (hvalid : validate d = none) (hfits : ∀ a, d.traction = some a → a ≤ 63) {t : State}
    (ht : t = beginWhole (enteredByCommit d s)) :
    t.store = { committed := d, session := none } ∧ t.ctl = { s.ctl with mode := .waking, wakeBy := .commit } ∧
    t.il = (commitState d s).il ∧ t.engine.retry = [] ∧ t.trains = committedTrains d s ∧
    t.deck = (commitState d s).deck ∧ t.demo.queue = [] ∧
    t.ring.running = { mode := d.params.sweepMode, period := d.params.sweepPeriod } ∧ t.ring.pendingSetting = none ∧
    t.ring.modules = modulesOf d ∧ ∀ p, (portAt t p).responses = (portAt s p).responses := by
  have hbeside := besideLamps_enteredByCommit d s
  simp only [besideLamps, Prod.mk.injEq] at hbeside
  obtain ⟨haside, htrains, hqueue, -, hring⟩ := hbeside
  have hstore : (enteredByCommit d s).store = { committed := d, session := none } := aside_store haside
  have hctl : (enteredByCommit d s).ctl = { s.ctl with mode := .waking, wakeBy := .commit } := aside_ctl haside
  have hil : (enteredByCommit d s).il = (commitState d s).il := (aside_il haside :)
  have hengine : (enteredByCommit d s).engine.retry = [] := congrArg (fun e => e.retry) (aside_engine haside)
  have hdeck : (enteredByCommit d s).deck = (commitState d s).deck := (aside_deck haside :)
  have hresponses := aside_responses haside
  generalize enteredByCommit d s = x at *
  have hmods : x.ring.modules = modulesOf d := congrArg (fun r => r.modules) hring
  obtain ⟨r, hr, hmodules, hrunning, hpending, -⟩ := beginWhole_within x
    (fun _ => by rw [hmods]; exact modulesOf_ne_nil (soundAddresses_of_validate hvalid) hfits)
  rw [ht, hr]
  exact ⟨hstore, hctl, hil, hengine, htrains, hdeck, hqueue,
    hrunning.trans (congrArg (fun r => r.running) hring), hpending.trans (congrArg (fun r => r.pendingSetting) hring),
    hmodules.trans hmods, hresponses⟩

section

variable {t : State}

/-- A section after a commit is described, unlocked, undisturbed and OCCUPIED (R7). -/
theorem secAt_committed (hil : t.il = (commitState d s).il) (n : Nat) : secAt t n =
    (findItem d.sections n).map (fun _ => commitSection (committedTrains d s) n) := by
  rw [secAt, hil]
  exact findItem_map_number _ _ _

/-- A section after a commit stands as `commitSection` leaves it (R7). -/
theorem committed_section (hil : t.il = (commitState d s).il) {n : Nat} {x : SecState} (hx : secAt t n = some x) :
    x = commitSection (committedTrains d s) n := by
  rw [secAt_committed hil] at hx
  obtain ⟨_, -, rfl⟩ := Option.map_eq_some_iff.1 hx
  rfl

/-- A section after a commit has an occupant (R7). -/
theorem occupant_commitSection_ne (ts : Table TrainRec) (n : Nat) : (commitSection ts n).occupant ≠ .none := by
  unfold commitSection
  split <;> simp

/-- The occupant of a section after a commit is the train that lists it (R7). -/
theorem occupant_commitSection_train {ts : Table TrainRec} {n k : Nat}
    (h : (commitSection ts n).occupant = .train k) : listedTrain ts n = some k := by
  unfold commitSection at h
  split at h
  · simp_all
  · cases h

/-- The occupant of a section after a commit is UNKNOWN where no train lists it (R7). -/
theorem occupant_commitSection_unknown {ts : Table TrainRec} {n : Nat}
    (h : (commitSection ts n).occupant = .unknown) : listedTrain ts n = none := by
  unfold commitSection at h
  split at h
  · cases h
  · assumption

/-- A described train after a commit: it has no driver, and it keeps its place or is ABSENT (R7, R84). -/
theorem committed_train (htrains : t.trains = committedTrains d s) {k : Nat} {e : TrainEntry} {r' : TrainRec}
    (he : findItem d.trains k = some e) (hr' : trainAt t k = some r') :
    r'.driver = none ∧ r'.throttle = 0 ∧ r'.pendRev = false ∧
    (∀ r, trainAt s k = some r → r.state ≠ .absent → findItem s.store.committed.trains k = some e →
      (∀ n ∈ r.list, (findItem d.sections n).isSome = true) →
      r'.state = r.state ∧ r'.list = r.list ∧ r'.heading = r.heading ∧ r'.cause = r.cause ∧
      (∀ u, r.sup = some u → ∃ v, r'.sup = some v ∧
        ∀ h y, r.list.getLast? = some h → findItem d.sections h = some y →
          v.offset = min u.offset (y.length * 20 - 1))) ∧
    ((∀ r, trainAt s k = some r → r.state = .absent ∨ findItem s.store.committed.trains k ≠ some e ∨
        ∃ n ∈ r.list, findItem d.sections n = none) →
      r'.state = .absent ∧ r'.list = [] ∧ r'.sup = none) := by
  rw [trainAt, htrains, findItem_committedTrains, he] at hr'
  obtain rfl : commitTrain s.store.committed d s k = r' := Option.some.inj hr'
  obtain ⟨hdriver, hthrottle, hrev⟩ := commitTrain_undriven d s k
  refine ⟨hdriver, hthrottle, hrev, fun r hr hpresent hsame hlist => ?_, fun hgone => ?_⟩
  · rw [commitTrain_kept d s hr ((keepsRecord_iff d _ k r).2 ⟨hpresent, hsame.trans he.symm, hlist⟩)]
    exact ⟨rfl, rfl, rfl, rfl, fun u hu =>
      ⟨_, congrArg (Option.map _) hu, fun h y hh hy => offset_clampOffset d hh hy⟩⟩
  · rw [commitTrain_absent d s (fun r hr => ?_)]
    · exact ⟨rfl, rfl, rfl⟩
    · have := hgone r hr
      rw [← Bool.not_eq_true, keepsRecord_iff, he]
      rintro ⟨hpresent, hsame, hlist⟩
      obtain h | h | ⟨n, hn, hnone⟩ := this
      · exact hpresent h
      · exact h hsame
      · simpa [hnone] using hlist n hn

end

/-- The state after an accepted COMMIT-CONFIG: the blocks, and the response at the port of the sender (R6). -/
theorem exec_commit_blocks {p : PortId} {tag : Byte} (h : Heads s p tag .commitConfig) (c : Configures s p d)
    (hvalid : validate d = none) (hfits : ∀ a, d.traction = some a → a ≤ 63) :
    ∃ t, exec (.commitConfig p) s = .next t ∧ t.store = { committed := d, session := none } ∧
    t.ctl = { s.ctl with mode := .waking, wakeBy := .commit } ∧
    t.il = (commitState d s).il ∧ t.engine.retry = [] ∧ t.trains = committedTrains d s ∧
    t.deck = (commitState d s).deck ∧ t.demo.queue = [] ∧
    t.ring.running = { mode := d.params.sweepMode, period := d.params.sweepPeriod } ∧ t.ring.pendingSetting = none ∧
    t.ring.modules = modulesOf d ∧
    (portAt t p).responses = (portAt s p).responses ++ [{ tag := tag, answer := .done [] }] := by
  have row := exec_commitConfig h
  rw [serveCommit_sound c hvalid, ← enteredByCommit] at row
  obtain ⟨hstore, hctl, hil, hengine, htrains, hdeck, hqueue, hrunning, hpending, hmodules, hresponses⟩ :=
    commit_blocks hvalid hfits (rfl : beginWhole (enteredByCommit d s) = _)
  have hblocks := served_blocks p tag (beginWhole (enteredByCommit d s), done)
  have hresponse := responses_served (tag := tag) (a := .done []) rfl h.2 (hresponses p)
  generalize beginWhole (enteredByCommit d s) = x at *
  obtain ⟨bstore, bctl, bil, bengine, btrains, bdeck, bdemo, bring⟩ := hblocks
  refine ⟨_, row, bstore.trans hstore, bctl.trans hctl, bil.trans hil, ?_, btrains.trans htrains, bdeck.trans hdeck,
    ?_, ?_, ?_, ?_, hresponse⟩
  · rw [bengine]; exact hengine
  · rw [bdemo]; exact hqueue
  · rw [bring]; exact hrunning
  · rw [bring]; exact hpending
  · rw [bring]; exact hmodules

end

/-- Settles O24: a sound description is committed, and every block takes the state of R7. -/
theorem commitOfASoundDescription : Obligations.CommitOfASoundDescription := by
  intro p tag s d h hmode hsession hvalid hfits
  obtain ⟨t, hexec, hstore, hctl, hil, hengine, htrains, hdeck, hqueue, hrunning, hpending, hmodules, hresponse⟩ :=
    exec_commit_blocks h ⟨hmode, hsession⟩ hvalid (fun a => hfits.2 _ a hsession)
  have htrain : ∀ {k r}, (k, r) ∈ committedTrains d s → trainAt t k = some r := fun hr => by
    rw [trainAt, htrains]
    exact findItem_of_mem_committedTrains d s hr
  refine ⟨t, hexec, hstore, hctl, fun n => ?_, fun n x hx => ?_, fun n => ?_, fun n => ?_, fun n x hx k hk => ?_,
    fun n x hx hunknown k r hr => ?_, fun k => ?_, fun k e r' he hr' => committed_train htrains he hr', ?_, ?_, hengine,
    hqueue, hdeck, hrunning, hpending, fun a => ?_, hresponse⟩
  · rw [secAt_committed hil, Option.isSome_map]
  · obtain rfl := committed_section hil hx
    exact ⟨rfl, rfl, rfl, occupant_commitSection_ne _ _⟩
  · rw [ptAt, hil]
    exact findItem_map_number d.points (fun _ =>
      ({ reported := .unproven, commanded := none, locks := 0, lockedPos := .normal, timer := none } : PtState)) n
  · rw [hil]
    exact findItem_map_number d.signals (fun _ => Aspect.stop) n
  · obtain rfl := committed_section hil hx
    obtain ⟨r, hr, hn⟩ := listedTrain_eq_some (occupant_commitSection_train hk)
    exact ⟨r, htrain hr, hn⟩
  · obtain rfl := committed_section hil hx
    rw [trainAt, htrains] at hr
    exact listedTrain_eq_none (occupant_commitSection_unknown hunknown) (mem_of_findItem hr)
  · rw [trainAt, htrains, findItem_committedTrains, Option.isSome_map]
  · rw [hil]; rfl
  · rw [hil]; rfl
  · obtain ⟨hstate, hkind⟩ := moduleAt_committed hmodules a
    refine ⟨hstate, ?_⟩
    dsimp only
    rw [hkind]
    refine ⟨fun ha => if_neg (by omega), fun ha => ?_⟩
    rw [if_pos ha]
    exact kindOf_sound (soundAddresses_of_validate hvalid) a

end Sys2Proof.Machine
end

section
/-! PROOFS. What leaves the outputs of the trains and the all-stop latch alone: the demonstrations, the settlement of WAKING,
and the ring between two sweeps. -/

namespace Sys2Proof.Machine

open Sys2Proof

/-! ### The latch and the outputs -/

/-- The output of each train, ABSENT trains without one. -/
def outputs (s : State) : Table (Option Nat) := s.trains.map (fun e => (e.1, e.2.sup.map Sup.output))

/-- The all-stop latch, the outputs, and the ring but for its waiting commands. -/
def motion (s : State) : Option StopCause × Table (Option Nat) × Ring := (s.ctl.allStop, outputs s, ringRest s.ring)

/-- The all-stop latch, the outputs, and the module table. -/
def standing (s : State) : Option StopCause × Table (Option Nat) × Table Module :=
  (s.ctl.allStop, outputs s, s.ring.modules)

/-- The entry of an item in a table whose entries are read by a function. -/
theorem findItem_map_entry {α β : Type} (t : Table α) (g : α → β) (k : Nat) :
    findItem (t.map (fun e => (e.1, g e.2))) k = (findItem t k).map g := by
  induction t with
  | nil => rfl
  | cons e t ih =>
    obtain ⟨i, a⟩ := e
    by_cases hk : i = k
    · simp [findItem, hk]
    · simpa [findItem, hk] using ih

/-- A reading of the entries that an update leaves alone. -/
theorem map_updateItem {α β : Type} (t : Table α) (k : Nat) (f : α → α) (g : α → β) (h : ∀ a, g (f a) = g a) :
    (updateItem t k f).map (fun e => (e.1, g e.2)) = t.map (fun e => (e.1, g e.2)) := by
  induction t with
  | nil => rfl
  | cons e t ih =>
    obtain ⟨i, a⟩ := e
    by_cases hk : i = k
    · simp [updateItem, hk, h]
    · simpa [updateItem, hk] using ih

/-- Every train has output 0 where the outputs say so. -/
theorem allStopped_iff (s : State) : AllStopped s ↔ ∀ k v, findItem (outputs s) k = some (some v) → v = 0 := by
  have hitem : ∀ k, findItem (outputs s) k = (trainAt s k).map (fun r => r.sup.map Sup.output) :=
    findItem_map_entry s.trains (fun r => r.sup.map Sup.output)
  simp only [hitem, Option.map_eq_some_iff]
  constructor
  · rintro h k v ⟨r, hr, u, hu, rfl⟩
    exact h k r u hr hu
  · exact fun h k r u hr hu => h k u.output ⟨r, hr, u, hu, rfl⟩

section

variable {s t : State}

theorem standing_of_motion (h : motion t = motion s) : standing t = standing s :=
  congrArg (fun x : Option StopCause × Table (Option Nat) × Ring => (x.1, x.2.1, x.2.2.modules)) h

theorem allStop_of_standing (h : standing t = standing s) : t.ctl.allStop = s.ctl.allStop := congrArg (fun x => x.1) h

theorem moduleAt_of_standing (h : standing t = standing s) (a : Nat) : moduleAt t a = moduleAt s a := by
  rw [moduleAt, moduleAt, show t.ring.modules = s.ring.modules from congrArg (fun x => x.2.2) h]

theorem allStopped_of_standing (h : standing t = standing s) (hs : AllStopped s) : AllStopped t := by
  rw [allStopped_iff, show outputs t = outputs s from congrArg (fun x => x.2.1) h]
  exact (allStopped_iff s).1 hs

theorem motion_of_inner (h : inner t = inner s) (hring : ringRest t.ring = ringRest s.ring) : motion t = motion s := by
  rw [motion, motion, outputs, outputs, (inner_ctl h :), (inner_trains h :), hring]

theorem standing_of_inner (h : inner t = inner s) (hmodules : t.ring.modules = s.ring.modules) : standing t = standing s := by
  rw [standing, standing, outputs, outputs, (inner_ctl h :), (inner_trains h :), hmodules]

theorem motion_of_quiet (h : quiet t = quiet s) : motion t = motion s :=
  motion_of_inner (inner_of_quiet h) (by rw [(quiet_ring h :)])

end

/-! ### The shared operations -/

@[simp] theorem motion_raise (n : Notice) (s : State) : motion (raise n s) = motion s := motion_of_quiet (quiet_raise n s)
@[simp] theorem motion_count (e : EventKind) (q : Option Party) (d : Option Nat) (s : State) :
    motion (count e q d s) = motion s := motion_of_quiet (quiet_count e q d s)
@[simp] theorem motion_offer (c : RingCmd) (s : State) : motion (offer c s) = motion s :=
  motion_of_inner (inner_offer c s) (ringRest_offer c s)
@[simp] theorem motion_withIl (s : State) (v : Interlock) : motion (s.withIl v) = motion s := rfl
@[simp] theorem motion_withDemo (s : State) (v : Demo) : motion (s.withDemo v) = motion s := rfl
@[simp] theorem motion_updateSec (s : State) (n : Nat) (f : SecState → SecState) : motion (updateSec s n f) = motion s := rfl

/-- A change of a train record that keeps its output. -/
theorem motion_updateTrain (s : State) (k : Nat) (f : TrainRec → TrainRec)
    (h : ∀ r, (f r).sup.map Sup.output = r.sup.map Sup.output) : motion (updateTrain s k f) = motion s := by
  have houtputs : outputs (updateTrain s k f) = outputs s := 
    map_updateItem s.trains k f (fun r => r.sup.map Sup.output) h
  rw [motion, houtputs]
  rfl

/-- A change of a supervision state that keeps the output. -/
theorem motion_updateSup (s : State) (k : Nat) (f : Sup → Sup) (h : ∀ u, (f u).output = u.output) :
    motion (updateSup s k f) = motion s :=
  motion_updateTrain s k _ (fun r => by cases hr : r.sup <;> simp [h])

@[simp] theorem motion_noteTrain (k : Nat) (ev : TrainEvent) (s : State) : motion (noteTrain k ev s) = motion s := by
  unfold noteTrain
  split
  · exact (motion_raise _ _).trans (motion_updateSup _ _ _ fun _ => rfl)
  · rfl

@[simp] theorem motion_dropDriver (k : Nat) (s : State) : motion (dropDriver k s) = motion s :=
  (motion_noteTrain _ _ _).trans (motion_updateTrain _ _ _ fun _ => rfl)

/-! ### The Demonstration Unit -/

@[simp] theorem motion_recomputeLamp (n : Nat) (s : State) : motion (recomputeLamp n s) = motion s := by
  unfold recomputeLamp
  split
  · rfl
  · split <;> simp

@[simp] theorem motion_recomputeLamps (s : State) : motion (recomputeLamps s) = motion s :=
  foldl_same motion _ (fun s n => motion_recomputeLamp n s) _ s

@[simp] theorem motion_startHeadTimer (s : State) : motion (startHeadTimer s) = motion s := by
  unfold startHeadTimer
  split
  · split <;> simp
  · rfl

/-- The admitted train has a driver and a throttle, and its output is left (R143). -/
@[simp] theorem motion_admitHead (n : Nat) (pl : PlanEntry) (s : State) : motion (admitHead n pl s) = motion s := by
  simp only [admitHead, motion_startHeadTimer, motion_withDemo, motion_recomputeLamp, motion_raise, motion_noteTrain]
  exact motion_updateTrain _ _ _ fun _ => rfl

@[simp] theorem motion_admissionTest (s : State) : motion (admissionTest s) = motion s := by
  unfold admissionTest
  split
  · split
    · split <;> simp
    · rfl
  · rfl

@[simp] theorem motion_abort (why : AbortReason) (s : State) : motion (abort why s) = motion s := by
  unfold abort
  split <;> simp

@[simp] theorem motion_clearService (s : State) : motion (clearService s) = motion s := by
  rw [clearService, motion_abort, foldl_same motion _ (fun s e => motion_raise _ s), motion_withDemo]

@[simp] theorem motion_pauseRun (s : State) : motion (pauseRun s) = motion s := by
  unfold pauseRun
  split
  · split <;> simp
  · rfl

@[simp] theorem motion_resumeRun (s : State) : motion (resumeRun s) = motion s := by
  unfold resumeRun
  split
  · split <;> simp
  · rfl

/-- The service recomputed leaves the latch and every output (R136). -/
@[simp] theorem motion_recomputeService (s : State) : motion (recomputeService s) = motion s := by
  unfold recomputeService
  dsimp only
  repeat' split
  all_goals simp

/-! ### The settlement of WAKING -/

@[simp] theorem motion_noteSection (n : Nat) (ev : OccEvent) (s : State) : motion (noteSection n ev s) = motion s := by
  unfold noteSection
  split <;> simp

@[simp] theorem motion_setOccupant (n : Nat) (o : Occupant) (s : State) : motion (setOccupant n o s) = motion s := by
  simp [setOccupant]

@[simp] theorem motion_recomputeOne (sig : Nat) (s : State) : motion (recomputeOne sig s) = motion s := by
  unfold recomputeOne
  dsimp only
  split
  · rfl
  · split <;> simp

@[simp] theorem motion_recomputeChain (k sig : Nat) (s : State) : motion (recomputeChain k sig s) = motion s := by
  induction k generalizing sig s with
  | zero => exact motion_recomputeOne sig s
  | succ k ih =>
    rw [recomputeChain]
    split
    · exact motion_recomputeOne sig s
    · rw [foldl_same motion _ (fun s u => ih u s), motion_recomputeOne]

@[simp] theorem motion_recomputeAll (l : List Nat) (s : State) : motion (recomputeAll l s) = motion s :=
  foldl_same motion _ (fun s g => motion_recomputeChain _ g s) l s

@[simp] theorem motion_handDisruption (k : Nat) (s : State) : motion (handDisruption k s) = motion s := by
  unfold handDisruption
  split <;> simp

@[simp] theorem motion_markDisrupted (k : Nat) (cause : Cause) (s : State) :
    motion (markDisrupted k cause s) = motion s :=
  motion_updateTrain s k _ (fun r => by split <;> rfl)

@[simp] theorem motion_disrupt (k : Nat) (cause : Cause) (s : State) : motion (disrupt k cause s) = motion s := by
  unfold disrupt
  split <;> simp

/-- A section leaves a train's list, and the train keeps its output (R97). -/
@[simp] theorem motion_leaveList (k n : Nat) (s : State) : motion (leaveList k n s) = motion s := by
  have hlist : motion (setOccupant n .none (updateTrain s k (fun r => { r with list := r.list.filter (· != n) }))) =
      motion s := (motion_setOccupant _ _ _).trans (motion_updateTrain _ _ _ fun _ => rfl)
  unfold leaveList
  dsimp only
  split
  · split
    · refine Eq.trans (motion_updateSup _ _ _ ?_) hlist
      exact fun _ => rfl
    · exact hlist
  · exact hlist

@[simp] theorem motion_becameClear (n : Nat) (s : State) : motion (becameClear n s) = motion s := by
  unfold becameClear
  split
  · split
    · simp
    · dsimp only
      split <;> simp
    · rfl
  · simp
  · rfl

@[simp] theorem motion_settleSection (n : Nat) (s : State) : motion (settleSection n s) = motion s := by
  unfold settleSection
  split
  · rfl
  · split
    · dsimp only
      split <;> simp
    · rfl

@[simp] theorem motion_settleAll (s : State) : motion (settleAll s) = motion s :=
  foldl_same motion _ (fun s n => motion_settleSection n s) _ s

/-- The end of WAKING leaves the latch and every output (R11, R17). -/
@[simp] theorem motion_endWaking (s : State) : motion (endWaking s) = motion s := by
  have hctl : ∀ x : State, motion (x.withCtl { x.ctl with mode := .inService }) = motion x := fun _ => rfl
  rw [endWaking, motion_recomputeService, motion_raise, hctl]
  split <;> simp

/-! ### The boundary of the whole sweep -/

theorem standing_raise (n : Notice) (s : State) : standing (raise n s) = standing s :=
  standing_of_motion (motion_raise n s)

theorem standing_offerPower (on : Bool) (s : State) : standing (offerPower on s) = standing s :=
  standing_of_inner (inner_offerPower on s) (congrArg (fun r => r.modules) (ringRest_offerPower on s))

theorem standing_expireAll (cause : ExpireCause) (s : State) :
    standing (expireEntries (fun _ => true) cause s) = standing s :=
  (standing_of_motion (motion_of_quiet (quiet_expireAll (s := s) rfl cause))).trans rfl

theorem standing_discardLatch (cause : DiscardCause) (s : State) : standing (discardLatch cause s) = standing s :=
  (standing_of_motion (motion_of_quiet (quiet_discardLatch (s := s) rfl cause))).trans rfl

theorem standing_withRing {s : State} {r : Ring} (h : r.modules = s.ring.modules) : standing (s.withRing r) = standing s :=
  standing_of_inner (inner_withRing s r) h

/-- The entry to REST leaves the latch, every output and the module table (R14). -/
theorem standing_enterRest (s : State) : standing (enterRest s) = standing s := by
  have hil : ∀ (x : State) (v : Interlock), standing (x.withIl v) = standing x := fun _ _ => rfl
  have hctl : ∀ c : Control, c.allStop = s.ctl.allStop → standing (s.withCtl c) = standing s := fun c hc => by
    simp only [standing]
    exact congrArg (fun o => (o, _)) hc
  unfold enterRest
  dsimp only
  rw [standing_of_motion (motion_recomputeService _), standing_discardLatch, standing_raise, standing_expireAll, hil]
  exact (standing_withRing rfl).trans ((standing_offerPower false _).trans (hctl _ rfl))

theorem standing_restBoundary (s : State) : standing (restBoundary s) = standing s := by
  have habandon : ∀ cause, standing (abandonRest cause s) = standing s := fun cause =>
    (standing_of_motion (motion_raise _ _)).trans rfl
  unfold restBoundary
  split
  · exact habandon _
  · split
    · exact habandon _
    · split
      · exact habandon _
      · exact standing_enterRest s

theorem standing_modeBoundary (s : State) : standing (modeBoundary s) = standing s := by
  have hwaking : standing (if s.ctl.mode = .waking then endWaking s else s) = standing s := by
    split
    · exact standing_of_motion (motion_endWaking s)
    · rfl
  have hrest : ∀ x : State, standing (if x.ctl.mode = .inService ∧ x.ctl.pendingRest.isSome then restBoundary x else x) =
      standing x := fun x => by
    split
    · exact standing_restBoundary x
    · rfl
  exact (hrest _).trans hwaking

/-- A whole-sweep boundary leaves the latch, every output and the module table (R155). -/
theorem standing_sweepBoundary (s : State) : standing (sweepBoundary s) = standing s := by
  have hraise : ∀ n (x : State), standing (raise n x) = standing x := fun n x => standing_of_motion (motion_raise n x)
  unfold sweepBoundary
  dsimp only
  split
  · split
    · exact (hraise _ _).trans (standing_modeBoundary s)
    · exact (hraise _ _).trans (standing_modeBoundary s)
  · split
    · exact standing_modeBoundary s
    · exact standing_modeBoundary s

theorem standing_settleSweep (s : State) : standing (settleSweep s) = standing s := by
  unfold settleSweep
  dsimp only
  split
  · split
    · exact standing_sweepBoundary _
    · rfl
  · rfl

/-- What follows the outcome of a poll leaves the latch, every output and the module table (R154, R155, R158). -/
theorem standing_afterOutcome (s : State) : standing (afterOutcome s) = standing s := by
  unfold afterOutcome
  dsimp only
  split
  · exact standing_settleSweep _
  · exact standing_settleSweep _

end Sys2Proof.Machine
end

section
/-! PROOFS. The all-stop latch and its four causes (R19, R20, R116, R151 to R153). -/

namespace Sys2Proof.Machine

open Sys2Proof

/-! ### The Speed Supervisor's work when the latch becomes set (R116) -/

/-- The supervision state that R116 leaves of another. -/
def stopSup (u : Sup) : Sup := { u with output := 0, refresh := 0 }

/-- The train has no output above 0. -/
def StillAt (s : State) (k : Nat) : Prop := ∀ r u, trainAt s k = some r → r.sup = some u → u.output = 0

/-- A stopped train is still. -/
theorem stillAt_stopSup_same (s : State) (k : Nat) : StillAt (updateSup s k stopSup) k := by
  intro r u hr hu
  rw [trainAt, updateSup, updateTrain] at hr
  obtain ⟨r0, -, rfl⟩ := Option.map_eq_some_iff.1 ((findItem_updateItem_same s.trains k _).symm.trans hr)
  obtain ⟨u0, -, rfl⟩ := Option.map_eq_some_iff.1 hu
  rfl

/-- A train that is still stays so when any train is stopped. -/
theorem stillAt_stopSup {s : State} {k : Nat} (j : Nat) (h : StillAt s k) : StillAt (updateSup s j stopSup) k := by
  by_cases hk : k = j
  · subst hk
    exact stillAt_stopSup_same s k
  · intro r u hr hu
    exact h r u ((findItem_updateItem_other s.trains j k _ hk).symm.trans hr) hu

/-- Every train of a list is still when all of them have been stopped. -/
theorem stillAt_stopAll {l : List Nat} {s : State} {k : Nat} (h : k ∈ l) :
    StillAt (l.foldl (fun s t => updateSup s t stopSup) s) k := by
  induction l generalizing s with
  | nil => cases h
  | cons j l ih =>
    obtain rfl | h := List.mem_cons.1 h
    · exact foldl_keeps (fun x => StillAt x k) _ (fun x t hx => stillAt_stopSup t hx) l _ (stillAt_stopSup_same s k)
    · exact ih h

/-- After the work of R116 every train's output is 0. -/
theorem allStopped_stopTrains (s : State) : AllStopped (stopTrains s) := by
  intro k
  show StillAt ((supervised s).foldl (fun s t => updateSup s t stopSup) s) k
  by_cases hk : k ∈ supervised s
  · exact stillAt_stopAll hk
  · refine foldl_keeps (fun x => StillAt x k) _ (fun x t hx => stillAt_stopSup t hx) _ s fun r u hr hu => ?_
    refine absurd ?_ hk
    have hmem : (k, r) ∈ s.trains.filter (fun e => e.2.sup.isSome) :=
      List.mem_filter.2 ⟨mem_of_findItem hr, by simp [hu]⟩
    exact List.mem_map_of_mem hmem

theorem modules_of_ringRest {r r' : Ring} (h : ringRest r = ringRest r') : r.modules = r'.modules :=
  congrArg (fun x => x.modules) h

theorem todo_of_ringRest {r r' : Ring} (h : ringRest r = ringRest r') : r.todo = r'.todo := congrArg (fun x => x.todo) h

@[simp] theorem aside_stopTrains (s : State) : aside (stopTrains s) = aside s :=
  foldl_same aside _ (fun s t => aside_updateSup s t stopSup) _ s

theorem ringRest_stopTrains (s : State) : ringRest (stopTrains s).ring = ringRest s.ring := by
  have hring : ((supervised s).foldl (fun s t => updateSup s t stopSup) s).ring = s.ring :=
    foldl_same State.ring (fun s t => updateSup s t stopSup) (fun _ _ => rfl) _ s
  have hremove : ∀ ts r, ringRest (removeSpeeds ts r) = ringRest r := fun ts r => ringRest_refillSlot _
  unfold stopTrains
  dsimp only
  split
  · exact (hremove _ _).trans (congrArg ringRest hring)
  · exact (hremove _ _).trans (congrArg ringRest hring)

/-! ### The latch becomes set (R20) -/

/-- An event that finds the latch clear stops every train, and beside trains, demonstrations and waiting commands it changes
the latch alone (R20, R116). -/
theorem setAllStop_clear {s : State} (h : s.ctl.allStop = none) (cause : StopCause) :
    aside (setAllStop cause s) = aside (s.withCtl { s.ctl with allStop := some cause }) ∧
    AllStopped (setAllStop cause s) ∧ ringRest (setAllStop cause s).ring = ringRest s.ring := by
  have hset : setAllStop cause s = recomputeService (stopTrains (raise (.mode (.allStop cause))
      (s.withCtl { s.ctl with allStop := some cause }))) := by simp [setAllStop, h]
  rw [hset]
  refine ⟨by simp, ?_, ?_⟩
  · exact allStopped_of_standing (standing_of_motion (motion_recomputeService _)) (allStopped_stopTrains _)
  · have hring : ∀ x : State, ringRest (recomputeService x).ring = ringRest x.ring := fun x =>
      congrArg (fun m => m.2.2) (motion_recomputeService x)
    rw [hring, ringRest_stopTrains, raise_ring]
    rfl

/-- An event that finds the latch set changes nothing (R20). -/
theorem setAllStop_set {s : State} (h : s.ctl.allStop.isSome = true) (cause : StopCause) : setAllStop cause s = s := by
  simp [setAllStop, h]

/-- A state that differs from another in trains, demonstrations, control and ring alone. -/
theorem inner_of_aside_withCtl {s t : State} {c : Control} (h : aside t = aside (s.withCtl c)) :
    inner (((t.withTrains s.trains).withCtl s.ctl).withDemo s.demo) = inner s :=
  congrArg (fun x : State => x.withCtl s.ctl) (inner_of_aside h)

/-! ### A response beside the blocks -/

/-- A response goes to its port whatever the other blocks hold. -/
theorem respond_comm (p : PortId) (tag : Byte) (a : Answer) {f : State → State}
    (hf : ∀ r s, pushResponse p r (f s) = f (pushResponse p r s)) (s : State) :
    respond p tag a (f s) = f (respond p tag a s) := by
  unfold respond
  induction responsesOf tag a generalizing s with
  | nil => rfl
  | cons r l ih => rw [List.foldl_cons, List.foldl_cons, hf, ih]

/-- States alike but for the ring are alike after a response. -/
theorem inner_respond_congr {s t : State} (p : PortId) (tag : Byte) (a : Answer) (h : inner t = inner s) :
    inner (respond p tag a t) = inner (respond p tag a s) := by
  have hring : ∀ x : State, respond p tag a (x.withRing Ring.reset) = (respond p tag a x).withRing Ring.reset :=
    respond_comm p tag a (f := fun x => x.withRing Ring.reset) (fun r x => by cases p <;> rfl)
  have hquiet : quiet (t.withRing Ring.reset) = quiet (s.withRing Ring.reset) := h
  have := quiet_respond_congr p tag a hquiet
  rwa [hring, hring] at this

/-! ### The outcome of a poll of the traction module -/

/-- What an event of the traction module leaves of the latch and the trains, as R20 has it. -/
def StoppedBy (cause : StopCause) (s t : State) : Prop :=
  (s.ctl.allStop = none → t.ctl.allStop = some cause ∧ AllStopped t ∧
    (s.ring.todo ≠ [] → t.ctl = { s.ctl with allStop := some cause } ∧
      inner (((t.withTrains s.trains).withCtl s.ctl).withDemo s.demo) = inner s)) ∧
  (s.ctl.allStop.isSome = true → t.ctl.allStop = s.ctl.allStop)

/-- With addresses left to poll the sweep does not end with this outcome (R154). -/
theorem afterOutcome_within {s : State} (h : s.ring.todo ≠ []) : ∃ r, afterOutcome s = s.withRing r := by
  obtain ⟨r, hr, -⟩ := settleSweep_within (s.withRing { s.ring with due := dueAfter s }) (.inl h)
  refine ⟨r, Eq.trans (if_neg ?_) hr⟩
  simpa [State.withRing] using fun _ => h

/-- The latch set as part of the outcome of a poll, and the sweep behind it (R20, R155). -/
theorem stoppedBy_outcome (cause : StopCause) {s x : State} (haside : aside x = aside s)
    (htodo : x.ring.todo = s.ring.todo) : StoppedBy cause s (afterOutcome (setAllStop cause x)) := by
  have hctl : x.ctl = s.ctl := aside_ctl haside
  have hafter := standing_afterOutcome (setAllStop cause x)
  refine ⟨fun hclear => ?_, fun hset => ?_⟩
  · obtain ⟨hx, hstopped, hring⟩ := setAllStop_clear (s := x) (by rw [hctl]; exact hclear) cause
    have hlatch : aside (setAllStop cause x) = aside (s.withCtl { s.ctl with allStop := some cause }) := by
      rw [hx, hctl]
      exact congrArg (fun y : State => y.withCtl { s.ctl with allStop := some cause }) haside
    refine ⟨?_, allStopped_of_standing hafter hstopped, fun hmore => ?_⟩
    · rw [allStop_of_standing hafter, (aside_ctl hlatch :)]
      rfl
    · have hleft : (setAllStop cause x).ring.todo ≠ [] := by
        rw [todo_of_ringRest hring, htodo]
        exact hmore
      obtain ⟨r, hr⟩ := afterOutcome_within hleft
      rw [hr]
      exact ⟨aside_ctl hlatch, inner_of_aside_withCtl (t := (setAllStop cause x).withRing r) hlatch⟩
  · rw [allStop_of_standing hafter, setAllStop_set (by rw [hctl]; exact hset), hctl]

@[simp] theorem aside_updateModule (s : State) (a : Nat) (f : Module → Module) : aside (updateModule s a f) = aside s := rfl

@[simp] theorem todo_updateModule (s : State) (a : Nat) (f : Module → Module) :
    (updateModule s a f).ring.todo = s.ring.todo := rfl

@[simp] theorem aside_refreshAll (s : State) : aside (refreshAll s) = aside s :=
  foldl_same aside _ (fun s t => aside_updateSup s t _) _ s

@[simp] theorem refreshAll_ring (s : State) : (refreshAll s).ring = s.ring :=
  foldl_same State.ring (fun s t => updateSup s t (fun u => { u with refresh := Config.refreshDue })) (fun _ _ => rfl) _ s

/-- The owner of the traction module commands power and speeds when the module has become ACTIVE, and changes no block aside
(R115, R151). -/
theorem aside_ownerActive_traction (a : Nat) (s : State) : aside (ownerActive a .traction s) = aside s := by
  unfold ownerActive
  dsimp only
  split
  · exact (aside_of_inner (inner_offerPower _ _)).trans (aside_refreshAll s)
  · exact aside_refreshAll s

/-- The addresses left to poll stay when the traction module has become ACTIVE (R151). -/
theorem todo_ownerActive_traction (a : Nat) (s : State) : (ownerActive a .traction s).ring.todo = s.ring.todo := by
  have hrefresh : (refreshAll s).ring.todo = s.ring.todo := congrArg (fun r => r.todo) (refreshAll_ring s)
  unfold ownerActive
  dsimp only
  split
  · exact (congrArg (fun r => r.todo) (ringRest_offerPower _ (refreshAll s))).trans hrefresh
  · exact hrefresh

/-- A good answer of the traction module that shows OVERLOAD sets the latch (R153). -/
theorem takeAnswer_overload {a : Nat} {frame : List Byte} {b : Byte} {s : State} (hkind : (moduleAt s a).kind = .traction)
    (hpayload : payloadOf frame = [b]) (hover : b.getLsbD 1 = true) : StoppedBy .overload s (takeAnswer a frame s) := by
  have hdata : ∀ x, handData a .traction [b] x = setAllStop .overload x := fun x => by simp [handData, tractionAnswer, hover]
  unfold takeAnswer
  dsimp only
  rw [hkind, hpayload, hdata]
  refine stoppedBy_outcome .overload ?_ ?_
  · rw [aside_updateModule]
    split
    · rw [aside_withRing, aside_updateModule]
    · rw [aside_ownerActive_traction, aside_raise, aside_updateModule, aside_withRing, aside_updateModule]
  · rw [todo_updateModule]
    split
    · rfl
    · rw [todo_ownerActive_traction, raise_ring, todo_updateModule]
      rfl

/-- The state in which the failure of a module is handed to its owner: the module FAILED, its commands gone, the failure told
and counted (R152 steps 1 to 3). -/
def failedModule (a : Nat) (s : State) : State :=
  let s1 := updateModule s a (fun m => { m with state := .failed, misses := Config.missLimit })
  count .moduleFailures none none (raise (.module (.failed a (moduleAt s a).kind))
    (s1.withRing (removeCommands (desc s1) a s1.ring)))

theorem failModule_eq (a : Nat) (s : State) :
    failModule a s = ownerFailed a (moduleAt s a).kind (failedModule a s) := rfl

theorem aside_failedModule (a : Nat) (s : State) : aside (failedModule a s) = aside s := by
  simp [failedModule]

theorem ringRest_failedModule (a : Nat) (s : State) : ringRest (failedModule a s).ring =
    ringRest (updateModule s a (fun m => { m with state := .failed, misses := Config.missLimit })).ring := by
  rw [failedModule, count_ring, raise_ring]
  exact ringRest_refillSlot _

/-- A module that is described is FAILED when its failure is handed on. -/
theorem state_failedModule {a : Nat} {m : Module} {s : State} (h : findItem s.ring.modules a = some m) :
    (moduleAt (failedModule a s) a).state = .failed := by
  have hitem : findItem (failedModule a s).ring.modules a =
      some { m with state := .failed, misses := Config.missLimit } := by
    rw [modules_of_ringRest (ringRest_failedModule a s)]
    refine (findItem_updateItem_same s.ring.modules a _).trans ?_
    rw [h]
    rfl
  rw [moduleAt, hitem]
  rfl

/-- An event that sets the latch leaves the module table (R20, R116). -/
theorem moduleAt_setAllStop (cause : StopCause) (s : State) (a : Nat) : moduleAt (setAllStop cause s) a = moduleAt s a := by
  cases h : s.ctl.allStop with
  | none =>
    obtain ⟨-, -, hring⟩ := setAllStop_clear h cause
    rw [moduleAt, modules_of_ringRest hring, moduleAt]
  | some c => rw [setAllStop_set (by simp [h])]

/-- The third miss of an ACTIVE traction module fails it and sets the latch (R152). -/
theorem takeMiss_failed {a : Nat} {m : Module} {s : State} (hm : findItem s.ring.modules a = some m)
    (hkind : m.kind = .traction) (hactive : m.state = .active) (hmisses : 2 ≤ m.misses) :
    (moduleAt (takeMiss a s) a).state = .failed ∧ StoppedBy .tractionFailed s (takeMiss a s) := by
  obtain ⟨s1, hs1⟩ : ∃ x, x = count .ringErrors none none (s.withRing { s.ring with window := none }) := ⟨_, rfl⟩
  have hring : s1.ring = { s.ring with window := none } := by rw [hs1, count_ring]; rfl
  have hitem : findItem s1.ring.modules a = some m := by rw [hring]; exact hm
  have hmodule : moduleAt s1 a = m := by rw [moduleAt, hitem]; rfl
  have hmiss : takeMiss a s = afterOutcome (setAllStop .tractionFailed (failedModule a s1)) := by
    have hlimit : ¬ m.misses + 1 < Config.missLimit := by simp only [Config.missLimit]; omega
    rw [takeMiss, ← hs1]
    simp only [hmodule, hactive, if_true, hlimit, if_false, failModule_eq, hkind, ownerFailed]
  rw [hmiss]
  refine ⟨?_, stoppedBy_outcome .tractionFailed ?_ ?_⟩
  · rw [moduleAt_of_standing (standing_afterOutcome _), moduleAt_setAllStop, state_failedModule hitem]
  · rw [aside_failedModule, hs1, aside_count, aside_withRing]
  · rw [todo_of_ringRest (ringRest_failedModule a s1), todo_updateModule, hring]

/-- A good answer in the open window is taken (R150, R151). -/
theorem exec_goodAnswer {a : Nat} {frame : List Byte} {s : State} (hwindow : s.ring.window = some a)
    (hgood : goodFrame a (moduleAt s a).kind frame = true) :
    exec (.goodAnswer frame) s = .next (takeAnswer a frame s) := by
  show execGoodAnswer frame s = _
  simp only [execGoodAnswer, hwindow, hgood, if_true]

/-- What is no good answer in the open window is a miss (R150, R152). -/
theorem exec_miss {a : Nat} {got : List Byte} {s : State} (hwindow : s.ring.window = some a)
    (hbad : goodFrame a (moduleAt s a).kind got = false) : exec (.miss got) s = .next (takeMiss a s) := by
  show execMiss got s = _
  simp [execMiss, hwindow, hbad]

/-- ALL-STOP at an ONLINE port is answered DONE and sets the latch (R19, R20). -/
theorem exec_allStop {p : PortId} {tag : Byte} {s : State} (h : (portAt s p).state = .online) :
    exec (.allStop p tag) s = .next (respond p tag (.done []) (setAllStop (.port p) (heard p s))) :=
  exec_immediate rfl h rfl

/-- What a cause of the latch leaves alone, it leaves alone behind the response too. -/
theorem inner_respond_stopped {p : PortId} {tag : Byte} {a : Answer} {s t : State}
    (h : inner (((t.withTrains s.trains).withCtl s.ctl).withDemo s.demo) = inner s) :
    inner ((((respond p tag a t).withTrains s.trains).withCtl s.ctl).withDemo s.demo) = inner (respond p tag a s) := by
  rw [← inner_respond_congr p tag a h, respond_comm p tag a
    (f := fun x => ((x.withTrains s.trains).withCtl s.ctl).withDemo s.demo) (fun r x => by cases p <;> rfl)]

/-- The assertion of the input at a latch that is set changes the input's state alone (R19, R20). -/
theorem estopAsserted_set {s : State} (h : s.ctl.allStop.isSome = true) :
    estopAsserted s = s.withCtl { s.ctl with estop := true } := by
  unfold estopAsserted
  split
  · rename_i hset
    rw [← hset]
    rfl
  · exact setAllStop_set (s := s.withCtl { s.ctl with estop := true }) h .emergency

/-- Settles O7: each cause comes to `setAllStop`, which stops every train when it finds the latch clear and does nothing
when it finds it set. -/
theorem allStopLatchSet : Obligations.AllStopLatchSet := by
  intro s
  refine ⟨fun hclear => ⟨fun hreleased => ?_, fun p tag honline _ => ?_⟩, fun cause hset => ⟨?_, fun p tag honline => ?_⟩,
    fun a m hwindow hm hkind => ?_, rfl⟩
  · obtain ⟨haside, hstopped, -⟩ := setAllStop_clear (s := s.withCtl { s.ctl with estop := true }) hclear .emergency
    have hexec : exec .emergencyStopAsserted s =
        .next (setAllStop .emergency (s.withCtl { s.ctl with estop := true })) := by
      show Host.Outcome.next (estopAsserted s) = _
      rw [estopAsserted, if_neg (by simp [hreleased])]
    exact ⟨_, hexec, aside_ctl haside, hstopped, inner_of_aside_withCtl haside⟩
  · obtain ⟨haside, hstopped, -⟩ := setAllStop_clear (s := heard p s) hclear (.port p)
    refine ⟨_, exec_allStop honline, ?_, ?_, inner_respond_stopped (inner_of_aside_withCtl haside)⟩
    · rw [respond_ctl]
      exact aside_ctl haside
    · simpa only [AllStopped, trainAt, respond_trains] using hstopped
  · exact congrArg Host.Outcome.next (estopAsserted_set (by simp [hset]))
  · rw [exec_allStop honline, setAllStop_set (by simp [hset])]
  · have hmodule : moduleAt s a = m := by rw [moduleAt, hm]; rfl
    have hmkind : (moduleAt s a).kind = .traction := by rw [hmodule, hkind]
    refine ⟨fun frame b hgood hpayload hover => ?_, fun got hbad hactive hmisses => ?_⟩
    · exact ⟨_, exec_goodAnswer hwindow (by rw [hmkind]; exact hgood), takeAnswer_overload hmkind hpayload hover⟩
    · exact ⟨_, exec_miss hwindow (by rw [hmkind]; exact hbad), takeMiss_failed hm hkind hactive hmisses⟩

end Sys2Proof.Machine
end

section
/-! PROOFS. What reporting and the offers of ring commands keep: the room of the queues, and the commands that wait. -/

namespace Sys2Proof.Machine

open Sys2Proof

-- One theorem at a time: theorems that wait for each other would hold a thread each.
set_option Elab.async false

/-! ### The room of the notice queues and of the counters -/

/-- The notice queue of a port and its lost count keep their ranges (R175, R176). -/
def PortReports (q : Port) : Prop := q.notices.length ≤ 32 ∧ q.lost ≤ 255

/-- What reporting may change keeps its ranges: notice queues, lost counts, counter values and half-full flags (R175, R176,
R179, R184). -/
def Reports (s : State) : Prop :=
  (∀ p, PortReports (portAt s p)) ∧ s.counters.values.length = 12 ∧ s.counters.half.length = 12

/-- The record of lost notices is appended only to a queue with a free place (R176). -/
theorem portReports_appendLost {q : Port} (now : Nat) (h : PortReports q) : PortReports (appendLost now q) := by
  unfold appendLost
  split
  · rename_i hfree
    have hlt : q.notices.length < 32 := hfree.2
    exact ⟨by simp; omega, Nat.zero_le _⟩
  · exact h

theorem portReports_recordLoss {q : Port} (h : PortReports q) : PortReports (recordLoss q) := ⟨h.1, Nat.min_le_left _ _⟩

/-- A record that replaces another leaves the number of records (R176). -/
theorem length_coalesceInto {n : Notice} {l k : List QueuedNotice} (h : coalesceInto n l = some k) :
    k.length = l.length := by
  induction l generalizing k with
  | nil => simp [coalesceInto] at h
  | cons e l ih =>
    simp only [coalesceInto] at h
    split at h
    · simp [← Option.some.inj h]
    · obtain ⟨m, hm, rfl⟩ := Option.map_eq_some_iff.1 h
      simp [ih hm]

/-- A record offered to a port finds a place within the capacity or is lost (R176). -/
theorem portReports_offerNotice {q : Port} (now : Nat) (n : Notice) (h : PortReports q) :
    PortReports (offerNotice now n q).1 := by
  unfold offerNotice
  split
  · split
    · unfold placeNotice
      split
      · rename_i l hl
        exact ⟨(length_coalesceInto hl).trans_le h.1, h.2⟩
      · have happ := portReports_appendLost now h
        split
        · rename_i hfree
          have hlt : (appendLost now q).notices.length < 32 := hfree
          exact ⟨by simp; omega, happ.2⟩
        · exact portReports_recordLoss happ
    · exact portReports_recordLoss h
    · exact h
  · exact h

theorem portAt_offerAll (n : Notice) (s : State) (p : PortId) :
    portAt (offerAll n s) p = (offerNotice s.now n (portAt s p)).1 := by cases p <;> rfl

theorem reports_offerAll {s : State} (n : Notice) (h : Reports s) : Reports (offerAll n s) := by
  obtain ⟨hports, hcounters⟩ := h
  exact ⟨fun p => portAt_offerAll n s p ▸ portReports_offerNotice s.now n (hports p), hcounters⟩

/-- A counting event changes values and flags in place (R179). -/
theorem lengths_bump (c : Counters) (ev : EventKind) (party : Option Party) (district : Option Nat) :
    ((bump c ev party district).1.values.length, (bump c ev party district).1.half.length) =
      (c.values.length, c.half.length) := by
  refine foldl_same (fun acc : Counters × List CounterEvent => (acc.1.values.length, acc.1.half.length)) _
    (fun acc i => ?_) (List.range 12) (c, [])
  dsimp only
  unfold bumpOne
  split <;> simp

theorem reports_withCounters {s : State} {v : Counters} (h : Reports s) (hvalues : v.values.length = 12)
    (hhalf : v.half.length = 12) : Reports (s.withCounters v) := by
  obtain ⟨hports, -⟩ := h
  exact ⟨hports, hvalues, hhalf⟩

theorem reports_bump {s : State} (ev : EventKind) (party : Option Party) (district : Option Nat) (h : Reports s) :
    Reports (s.withCounters (bump s.counters ev party district).1) := by
  obtain ⟨-, hvalues, hhalf⟩ := id h
  obtain ⟨hv, hh⟩ := Prod.mk.inj (lengths_bump s.counters ev party district)
  exact reports_withCounters h (hv.trans hvalues) (hh.trans hhalf)

theorem reports_raiseAt {s : State} (k : Nat) (n : Notice) (h : Reports s) : Reports (raiseAt k n s) := by
  induction k generalizing n s with
  | zero => exact h
  | succ k ih =>
    exact foldl_keeps Reports _ (fun t p ht => foldl_keeps Reports _ (fun u ev hu => ih (.counter ev) hu) _ _
      (reports_bump _ _ _ ht)) _ _ (reports_offerAll n h)

/-- Raising a notice keeps the ranges of what reporting may change. -/
theorem reports_raise {s : State} (n : Notice) (h : Reports s) : Reports (raise n s) := reports_raiseAt 8 n h

/-- So does a counting event. -/
theorem reports_count {s : State} (ev : EventKind) (party : Option Party) (district : Option Nat) (h : Reports s) :
    Reports (count ev party district s) :=
  foldl_keeps Reports _ (fun _ e ht => reports_raise (.counter e) ht) _ _ (reports_bump ev party district h)

/-! ### The commands that wait -/

/-- A command waits in the stop run, the queue or the overflow slot. -/
def Waits (c : RingCmd) (r : Ring) : Prop := c ∈ r.stopRun ∨ c ∈ r.queue ∨ r.slot = some c

theorem mem_of_mem_evictLamp {c : RingCmd} {l : List RingCmd} (h : c ∈ evictLamp l) : c ∈ l := by
  induction l with
  | nil => exact h
  | cons x l ih =>
    simp only [evictLamp] at h
    split at h
    · exact List.mem_cons_of_mem _ h
    · obtain rfl | h := List.mem_cons.1 h
      · exact List.mem_cons_self
      · exact List.mem_cons_of_mem _ (ih h)

theorem waits_refillSlot {c : RingCmd} {r : Ring} (h : Waits c (refillSlot r)) : Waits c r := by
  unfold refillSlot at h
  split at h
  · rename_i w hw
    split at h
    · obtain h | h | h := h
      · exact .inl h
      · obtain h | h := List.mem_append.1 h
        · exact .inr (.inl h)
        · exact .inr (.inr (by rw [hw, List.mem_singleton.1 h]))
      · cases h
    · exact h
  · exact h

theorem waits_toSlot {x c : RingCmd} {r : Ring} (h : Waits x (toSlot r c).1) : Waits x r ∨ x = c := by
  obtain h | h | h := h
  · exact .inl (.inl h)
  · exact .inl (.inr (.inl h))
  · exact .inr (Option.some.inj h).symm

theorem waits_append {x c : RingCmd} {r : Ring} (h : Waits x { r with queue := r.queue ++ [c] }) : Waits x r ∨ x = c := by
  obtain h | h | h := h
  · exact .inl (.inl h)
  · obtain h | h := List.mem_append.1 h
    · exact .inl (.inr (.inl h))
    · exact .inr (List.mem_singleton.1 h)
  · exact .inl (.inr (.inr h))

theorem waits_placeOver {x c : RingCmd} (k : Nat) {r : Ring} (h : Waits x (placeOver k r c).1) : Waits x r ∨ x = c := by
  induction k generalizing r with
  | zero => exact waits_toSlot h
  | succ k ih =>
    unfold placeOver at h
    split at h
    · exact waits_append h
    · split at h
      · refine (ih h).imp_left fun hx => ?_
        obtain hx | hx | hx := waits_refillSlot hx
        · exact .inl hx
        · exact .inr (.inl (mem_of_mem_evictLamp hx))
        · exact .inr (.inr hx)
      · exact waits_toSlot h

theorem mem_of_mem_replaceCmd {x c : RingCmd} {l : List RingCmd} (h : x ∈ replaceCmd c l) : x ∈ l ∨ x = c := by
  obtain ⟨y, hy, hx⟩ := List.mem_map.1 h
  split at hx
  · exact .inr hx.symm
  · exact .inl (hx ▸ hy)

/-- A command waits after another is placed only where it waited before or is that other (R159, R161). -/
theorem waits_placeCmd {x c : RingCmd} {r : Ring} (h : Waits x (placeCmd r c).1) : Waits x r ∨ x = c := by
  unfold placeCmd at h
  split at h
  · obtain h | h := h
    · exact (mem_of_mem_replaceCmd h).imp_left .inl
    · exact .inl (.inr h)
  · split at h
    · obtain h | h | h := h
      · exact .inl (.inl h)
      · exact (mem_of_mem_replaceCmd h).imp_left (fun hx => .inr (.inl hx))
      · exact .inl (.inr (.inr h))
    · split at h
      · exact waits_toSlot h
      · split at h
        · exact waits_append h
        · unfold placeFull at h
          split at h
          · exact .inl h
          · exact waits_placeOver 3 h
          · exact waits_placeOver 3 h
          · exact waits_toSlot h

/-- No command waits for the module at an address (R152). -/
def NoneFor (d : Desc) (a : Nat) (r : Ring) : Prop := ∀ c, Waits c r → cmdModule d c ≠ some a

/-- A command offered for another module, or for one that is not ACTIVE, leaves none waiting (R159 case 1). -/
theorem noneFor_offer {a : Nat} {s : State} (c : RingCmd) (hidle : moduleActive s a = false)
    (h : NoneFor (desc s) a s.ring) : NoneFor (desc s) a (offer c s).ring := by
  rw [offer_ring]
  split
  · rename_i hreach
    intro x hx hmod
    obtain hx | rfl := waits_placeCmd hx
    · exact h x hx hmod
    · simp [cmdReaches, hmod, hidle] at hreach
  · exact h

end Sys2Proof.Machine
end

section
/-! PROOFS. What the work inside the controller leaves alone.  `Ripples s t` says what the consequences of a change, however
far they run through aspects, instances, trains and demonstrations, keep of the state they began in. -/

namespace Sys2Proof.Machine

open Sys2Proof

-- One theorem at a time: theorems that wait for each other would hold a thread each.
set_option Elab.async false

/-- A section without what trains, locks and settlement write. -/
def groundSec (x : SecState) : SecState := { x with occupant := .none, lock := none, disturbed := false }

/-- A point without its lock count. -/
def groundPt (x : PtState) : PtState := { x with locks := 0 }

/-- A retry entry without its mark. -/
def groundRetry (e : RetryEntry) : RetryEntry := { e with eligible := false }

/-- The Interlocking Unit without occupants, locks, aspects and instances. -/
def groundIl (v : Interlock) : Interlock :=
  { sections := v.sections.map (fun e => (e.1, groundSec e.2)), points := v.points.map (fun e => (e.1, groundPt e.2)),
    signals := [], districts := v.districts, instances := [] }

/-- The part of the state that consequences leave: all but occupants, locks, aspects, instances, eligibility, trains,
demonstrations, waiting ring commands and what reporting may change. -/
def ground (s : State) : State :=
  { quiet s with
    il := groundIl s.il, engine := { s.engine with retry := s.engine.retry.map groundRetry }, trains := [],
    demo := State.reset.demo, ring := ringRest s.ring }

section

variable {s t : State}

theorem ground_store (h : ground t = ground s) : t.store = s.store := congrArg (fun x => x.store) h
theorem ground_ctl (h : ground t = ground s) : t.ctl = s.ctl := congrArg (fun x => x.ctl) h
theorem ground_deck (h : ground t = ground s) : t.deck = s.deck := congrArg (fun x => x.deck) h
theorem ground_districts (h : ground t = ground s) : t.il.districts = s.il.districts :=
  congrArg (fun x => x.il.districts) h
theorem ground_ring (h : ground t = ground s) : ringRest t.ring = ringRest s.ring := congrArg (fun x => x.ring) h
theorem ground_port (h : ground t = ground s) (p : PortId) : quietPort (portAt t p) = quietPort (portAt s p) := by
  cases p
  · exact congrArg (fun x => x.ports.a) h
  · exact congrArg (fun x => x.ports.b) h
  · exact congrArg (fun x => x.ports.c) h
  · exact congrArg (fun x => x.ports.d) h
theorem ground_sel (h : ground t = ground s) : t.counters.sel = s.counters.sel :=
  congrArg (fun x => x.counters.sel) h

theorem ground_retry (h : ground t = ground s) :
    t.engine.retry.map (·.route) = s.engine.retry.map (·.route) := by
  have hmap : t.engine.retry.map groundRetry = s.engine.retry.map groundRetry := congrArg (fun x => x.engine.retry) h
  simpa only [List.map_map, Function.comp_def, groundRetry] using congrArg (List.map RetryEntry.route) hmap

theorem ground_secAt (h : ground t = ground s) (n : Nat) : (secAt t n).map (·.occ) = (secAt s n).map (·.occ) := by
  have htable : t.il.sections.map (fun e => (e.1, groundSec e.2)) = s.il.sections.map (fun e => (e.1, groundSec e.2)) :=
    congrArg (fun x => x.il.sections) h
  have hitem := congrArg (fun x => (findItem x n).map SecState.occ) htable
  rw [findItem_map_entry _ groundSec, findItem_map_entry _ groundSec, Option.map_map, Option.map_map] at hitem
  exact hitem

theorem ground_ptAt (h : ground t = ground s) (n : Nat) : (ptAt t n).map groundPt = (ptAt s n).map groundPt := by
  have htable : t.il.points.map (fun e => (e.1, groundPt e.2)) = s.il.points.map (fun e => (e.1, groundPt e.2)) :=
    congrArg (fun x => x.il.points) h
  simpa only [findItem_map_entry, ptAt] using congrArg (fun x => findItem x n) htable

theorem ground_modules (h : ground t = ground s) : t.ring.modules = s.ring.modules := modules_of_ringRest (ground_ring h)

theorem ground_moduleAt (h : ground t = ground s) (a : Nat) : moduleAt t a = moduleAt s a := by
  rw [moduleAt, ground_modules h, moduleAt]

theorem ground_moduleActive (h : ground t = ground s) (a : Nat) : moduleActive t a = moduleActive s a := by
  rw [moduleActive, ground_moduleAt h, moduleActive]

theorem ground_desc (h : ground t = ground s) : desc t = desc s := by rw [desc, ground_store h, desc]

/-- What differs from a state in demonstrations, trains and waiting commands alone has its ground. -/
theorem ground_of_aside (h : aside t = aside s) (hring : ringRest t.ring = ringRest s.ring) : ground t = ground s := by
  have hg : ∀ x : State, ground x = (((aside x).withIl (groundIl x.il)).withEngine
    { x.engine with retry := x.engine.retry.map groundRetry }).withRing (ringRest x.ring) := fun x => by cases x; rfl
  rw [hg, hg, h, aside_il h, aside_engine h, hring]

theorem ground_of_inner (h : inner t = inner s) (hring : ringRest t.ring = ringRest s.ring) : ground t = ground s :=
  ground_of_aside (aside_of_inner h) hring

theorem ground_of_quiet (h : quiet t = quiet s) : ground t = ground s :=
  ground_of_inner (inner_of_quiet h) (by rw [quiet_ring h])

end

/-- A ring command that only shows something: an ASPECT or a LAMP. -/
def isShown : RingCmd → Bool
  | .aspect _ _ | .lamp _ _ => true
  | _ => false

/-- What shows something has another target than what moves something. -/
theorem cmdTarget_ne_of_isShown {c d : RingCmd} (hc : isShown c = false) (hd : isShown d = true) :
    cmdTarget c ≠ cmdTarget d := by
  cases d with
  | aspect | lamp => cases c <;> simp_all [isShown, cmdTarget]
  | _ => simp [isShown] at hd

/-- The consequences of a change: they keep the ground, the ranges of what reporting may change, the places of the ring
command queue and of the demonstration queue, and the commands that move points, deck, trains or power; and they offer no
command to a module that is not ACTIVE. -/
structure Ripples (s t : State) : Prop where
  same : ground t = ground s
  reports : Reports s → Reports t
  queue : s.ring.queue.length ≤ 32 → t.ring.queue.length ≤ 32 ∧
    ∀ c, isShown c = false → WaitsOrFull c s.ring → WaitsOrFull c t.ring
  bare : ∀ a, moduleActive s a = false → NoneFor (desc s) a s.ring → NoneFor (desc s) a t.ring
  demo : s.demo.queue.length ≤ 6 → t.demo.queue.length ≤ 6

namespace Ripples

variable {s t u : State}

protected theorem refl (s : State) : Ripples s s :=
  ⟨rfl, id, fun h => ⟨h, fun _ _ => id⟩, fun _ _ => id, id⟩

protected theorem trans (h : Ripples s t) (k : Ripples t u) : Ripples s u where
  same := k.same.trans h.same
  reports := k.reports ∘ h.reports
  queue hs := by
    obtain ⟨ht, hc⟩ := h.queue hs
    obtain ⟨hu, hd⟩ := k.queue ht
    exact ⟨hu, fun c hshown hwaits => hd c hshown (hc c hshown hwaits)⟩
  bare a hidle hnone := by
    have hidle' : moduleActive t a = false := (ground_moduleActive h.same a).trans hidle
    have hstep := k.bare a hidle'
    rw [ground_desc h.same] at hstep
    exact hstep (h.bare a hidle hnone)
  demo := k.demo ∘ h.demo

/-- A step that leaves the ground, the ring, the reports and the room of the demonstration queue. -/
theorem step (h : Ripples s t) (hground : ground u = ground t) (hring : u.ring = t.ring)
    (hreports : Reports t → Reports u) (hdemo : t.demo.queue.length ≤ 6 → u.demo.queue.length ≤ 6) : Ripples s u :=
  h.trans ⟨hground, hreports, fun hq => by rw [hring]; exact ⟨hq, fun _ _ => id⟩, fun a _ hnone => by rwa [hring], hdemo⟩

protected theorem raise (h : Ripples s t) (n : Notice) : Ripples s (raise n t) :=
  h.step (ground_of_quiet (quiet_raise n t)) (raise_ring n t) (reports_raise n) (by rw [raise_demo]; exact id)

protected theorem count (h : Ripples s t) (e : EventKind) (q : Option Party) (d : Option Nat) :
    Ripples s (count e q d t) :=
  h.step (ground_of_quiet (quiet_count e q d t)) (count_ring e q d t) (reports_count e q d)
    (by rw [count_demo]; exact id)

/-- A command that shows something is offered. -/
protected theorem offer (h : Ripples s t) {c : RingCmd} (hc : isShown c = true := by rfl) : Ripples s (offer c t) := by
  have hreports : Reports t → Reports (Machine.offer c t) := fun ht => by
    unfold Machine.offer
    dsimp only
    repeat' split
    · exact reports_raise (s := t.withRing _) _ ht
    · exact ht
    · exact ht
  refine h.trans ⟨ground_of_inner (inner_offer c t) (ringRest_offer c t), hreports, fun hq => ?_,
    fun a hidle => noneFor_offer c hidle, by rw [(inner_demo (inner_offer c t) :)]; exact id⟩
  rw [offer_ring]
  split
  · exact ⟨(placeCmd_waits t.ring c hq).2, fun d hd hwaits =>
      (placeCmd_keeps t.ring d c hq (cmdTarget_ne_of_isShown hd hc) hwaits).1⟩
  · exact ⟨hq, fun _ _ => id⟩

protected theorem foldl {α : Type} (h : Ripples s t) {f : State → α → State} (hf : ∀ x a, Ripples s x → Ripples s (f x a))
    (l : List α) : Ripples s (l.foldl f t) := foldl_keeps (Ripples s) f hf l t h

/-! ### The blocks -/

protected theorem withTrains (h : Ripples s t) (v : Table TrainRec) : Ripples s (t.withTrains v) :=
  h.step rfl rfl id id
protected theorem updateTrain (h : Ripples s t) (k : Nat) (f : TrainRec → TrainRec) : Ripples s (updateTrain t k f) :=
  h.withTrains _
protected theorem updateSup (h : Ripples s t) (k : Nat) (f : Sup → Sup) : Ripples s (updateSup t k f) :=
  h.updateTrain k _

/-- Another Demonstration Unit whose queue is in its room. -/
protected theorem withDemo (h : Ripples s t) {v : Demo}
    (hv : t.demo.queue.length ≤ 6 → v.queue.length ≤ 6 := by exact id) :
    Ripples s (t.withDemo v) := h.step rfl rfl id hv

/-- Another Interlocking Unit on the same ground. -/
protected theorem withIl (h : Ripples s t) {v : Interlock} (hv : groundIl v = groundIl t.il := by rfl) :
    Ripples s (t.withIl v) := by
  refine h.step ?_ rfl id id
  have hg : ground (t.withIl v) = (ground t).withIl (groundIl v) := rfl
  rw [hg, hv]
  rfl

protected theorem updateInst (h : Ripples s t) (k : Nat) (f : Inst → Inst) : Ripples s (updateInst t k f) := h.withIl

/-- A section changed but for its occupancy. -/
protected theorem updateSec (h : Ripples s t) (n : Nat) {f : SecState → SecState}
    (hf : ∀ x, groundSec (f x) = groundSec x := by exact fun _ => rfl) :
    Ripples s (updateSec t n f) := by
  refine h.withIl ?_
  simp only [groundIl, map_updateItem t.il.sections n f groundSec hf]

/-- The lock count of a point changed. -/
protected theorem updatePt (h : Ripples s t) (n : Nat) {f : PtState → PtState}
    (hf : ∀ x, groundPt (f x) = groundPt x := by exact fun _ => rfl) :
    Ripples s (updatePt t n f) := by
  refine h.withIl ?_
  simp only [groundIl, map_updateItem t.il.points n f groundPt hf]

/-! ### Aspects, locks and records -/

protected theorem recomputeOne (h : Ripples s t) (sig : Nat) : Ripples s (recomputeOne sig t) := by
  unfold Machine.recomputeOne
  split
  · exact h
  · dsimp only
    split
    · exact h
    · exact (h.withIl.offer).raise _

protected theorem recomputeChain (h : Ripples s t) (k sig : Nat) : Ripples s (recomputeChain k sig t) := by
  induction k generalizing sig t with
  | zero => exact h.recomputeOne sig
  | succ k ih =>
    rw [Machine.recomputeChain]
    split
    · exact h.recomputeOne sig
    · exact (h.recomputeOne sig).foldl (fun x u hx => ih hx u) _

protected theorem recompute (h : Ripples s t) (sig : Nat) : Ripples s (recompute sig t) := h.recomputeChain _ sig

protected theorem recomputeAll (h : Ripples s t) (l : List Nat) : Ripples s (recomputeAll l t) :=
  h.foldl (fun _ g hx => hx.recompute g) l

protected theorem noteSection (h : Ripples s t) (n : Nat) (ev : OccEvent) : Ripples s (noteSection n ev t) := by
  unfold Machine.noteSection
  split
  · exact h.raise _
  · exact h

protected theorem notePoint (h : Ripples s t) (n : Nat) (ev : PointEvent) : Ripples s (notePoint n ev t) := by
  unfold Machine.notePoint
  split
  · exact h.raise _
  · exact h

protected theorem setOccupant (h : Ripples s t) (n : Nat) (o : Occupant) : Ripples s (setOccupant n o t) :=
  Ripples.noteSection (h.updateSec n) _ _

/-- An eligibility event marks the entries of the retry list and the request in hand (R58). -/
protected theorem eligible (h : Ripples s t) : Ripples s (eligible t) := by
  have hmark : Ripples s (t.withEngine { t.engine with retry := t.engine.retry.map (fun e => { e with eligible := true }) }) := by
    refine h.step ?_ rfl id id
    have hretry : (t.engine.retry.map (fun e => { e with eligible := true })).map groundRetry =
        t.engine.retry.map groundRetry := by
      rw [List.map_map]
      rfl
    simp only [ground, State.withEngine_engine, hretry]
    rfl
  unfold Machine.eligible
  dsimp only
  split
  · split
    · split
      · exact hmark
      · exact hmark.withDemo
    · exact hmark
  · exact hmark

protected theorem setLock (h : Ripples s t) (n : Nat) (l : Option Lock) : Ripples s (setLock n l t) :=
  Ripples.noteSection (h.updateSec n) _ _

protected theorem freeSection (h : Ripples s t) (n : Nat) : Ripples s (freeSection n t) := (h.setLock n none).eligible

protected theorem unlockPoint (h : Ripples s t) (n : Nat) : Ripples s (unlockPoint n t) :=
  Ripples.notePoint (h.updatePt n) _ _

/-! ### Trains -/

protected theorem noteTrain (h : Ripples s t) (k : Nat) (ev : TrainEvent) : Ripples s (noteTrain k ev t) := by
  unfold Machine.noteTrain
  split
  · exact Ripples.raise (h.updateSup _ _) _
  · exact h

protected theorem dropDriver (h : Ripples s t) (k : Nat) : Ripples s (dropDriver k t) :=
  Ripples.noteTrain (h.updateTrain k _) _ _

protected theorem releaseTrain (h : Ripples s t) (k : Nat) : Ripples s (releaseTrain k t) :=
  Ripples.noteTrain (h.updateTrain k _) _ _

protected theorem giveOccupant (h : Ripples s t) (n : Nat) (o : Occupant) : Ripples s (giveOccupant n o t) :=
  Ripples.recomputeAll (h.setOccupant n o) _

end Ripples

end Sys2Proof.Machine
end

section
/-! PROOFS. The work of the Demonstration Unit and of the route instances is made of consequences (chapters 3, 4 and 8). -/

namespace Sys2Proof.Machine.Ripples

open Sys2Proof Sys2Proof.Machine

-- One theorem at a time: theorems that wait for each other would hold a thread each.
set_option Elab.async false

variable {s t : State}

/-! ### The Demonstration Unit -/

protected theorem recomputeLamp (h : Ripples s t) (n : Nat) : Ripples s (recomputeLamp n t) := by
  unfold Machine.recomputeLamp
  split
  · exact h
  · split
    · exact h
    · exact h.withDemo.offer

protected theorem recomputeLamps (h : Ripples s t) : Ripples s (recomputeLamps t) :=
  h.foldl (fun _ n hx => hx.recomputeLamp n) _

protected theorem resendLamps (h : Ripples s t) (a : Nat) : Ripples s (resendLamps a t) := by
  refine h.foldl (fun x n hx => ?_) _
  split
  · exact hx.offer
  · exact hx

protected theorem startHeadTimer (h : Ripples s t) : Ripples s (startHeadTimer t) := by
  unfold Machine.startHeadTimer
  split
  · rename_i e l hl
    split
    · refine h.withDemo fun hq => ?_
      rwa [hl] at hq
    · exact h
  · exact h

protected theorem admitHead (h : Ripples s t) (n : Nat) (pl : PlanEntry) : Ripples s (admitHead n pl t) := by
  have hleave : Ripples s (t.withDemo { t.demo with
      queue := t.demo.queue.drop 1,
      run := some { plan := n, train := pl.train, next := 1, hand := .none, insts := [],
                    left := (desc t).params.runLimit * 1000, paused := false } }) :=
    h.withDemo fun hq => (by simp : (t.demo.queue.drop 1).length ≤ t.demo.queue.length).trans hq
  exact (((((hleave.updateTrain _ _).noteTrain _ _).raise _).recomputeLamp n).withDemo).startHeadTimer

protected theorem admissionTest (h : Ripples s t) : Ripples s (admissionTest t) := by
  unfold Machine.admissionTest
  split
  · split
    · split
      · exact h.admitHead _ _
      · exact h
    · exact h
  · exact h

protected theorem headReady (h : Ripples s t) : Ripples s (headReady t) := by
  unfold Machine.headReady
  split
  · split
    · exact h.startHeadTimer.admissionTest
    · exact h
  · exact h

protected theorem leaveQueue (h : Ripples s t) (n : Nat) : Ripples s (leaveQueue n t) := by
  have hleave : Ripples s (recomputeLamp n (t.withDemo { t.demo with queue := t.demo.queue.filter (fun e => e.plan != n) })) :=
    (h.withDemo fun hq => (List.length_filter_le _ _).trans hq).recomputeLamp n
  unfold Machine.leaveQueue
  dsimp only
  split
  · exact hleave.headReady
  · exact hleave

protected theorem acceptEntry (h : Ripples s t) (n : Nat) (cause : AcceptCause) : Ripples s (acceptEntry n cause t) := by
  have haccept := (h.withDemo (v := { t.demo with
    queue := t.demo.queue.map (fun e => if e.plan = n then { e with accepted := true, screening := none } else e) })
    (by rw [List.length_map]; exact id)).raise (.demo (.accepted n cause))
  unfold Machine.acceptEntry
  dsimp only
  split
  · exact haccept.headReady
  · exact haccept

/-- A press joins a queue only where it finds room (R139). -/
protected theorem press (h : Ripples s t) (n : Nat) : Ripples s (press n t) := by
  have hjoin : ∀ (x : State) (e : DemoEntry), ¬ Config.demoCapacity ≤ x.demo.queue.length →
      Ripples s x → Ripples s (x.withDemo { x.demo with queue := x.demo.queue ++ [e] }) := fun x e hroom hx =>
    hx.withDemo fun _ => by
      simp only [Config.demoCapacity] at hroom
      simp only [List.length_append, List.length_singleton]
      omega
  have hcount := h.count .buttonPresses (some .demo) (planDistrict t n)
  unfold Machine.press
  dsimp only
  split
  · exact hcount
  · split
    · exact hcount
    · split
      · exact (hcount.count _ _ _).raise _
      · rename_i hroom
        split
        · have haccept := ((hjoin _ { plan := n, accepted := true, screening := none, admission := none } hroom
            hcount).raise (.demo (.accepted n .window))).recomputeLamp n
          split
          · exact haccept.headReady
          · exact haccept
        · exact ((hjoin _ _ hroom hcount).raise _).recomputeLamp n

protected theorem buttonAnswer (h : Ripples s t) (n : Nat) (pressed : Bool) : Ripples s (buttonAnswer n pressed t) := by
  unfold Machine.buttonAnswer
  split
  · exact h
  · dsimp only
    split
    · exact h.withDemo.press n
    · exact h.withDemo

protected theorem abort (h : Ripples s t) (why : AbortReason) : Ripples s (abort why t) := by
  unfold Machine.abort
  split
  · exact h
  · exact ((((h.withDemo.dropDriver _).count _ _ _).raise _).withDemo.recomputeLamp _).admissionTest

protected theorem complete (h : Ripples s t) (r : Run) : Ripples s (complete r t) :=
  ((((h.dropDriver r.train).count _ _ _).raise _).withDemo.recomputeLamp r.plan).admissionTest

protected theorem demoExpiry (h : Ripples s t) (k : Nat) : Ripples s (demoExpiry k t) := by
  unfold Machine.demoExpiry
  extract_lets s1
  have hend : Ripples s s1 := by
    dsimp only [s1]
    split
    · split
      · exact h.complete _
      · exact h
    · exact h
  clear_value s1
  split
  · split
    · exact hend.admissionTest
    · exact hend
  · exact hend

protected theorem demoStep (h : Ripples s t) (k n : Nat) : Ripples s (demoStep k n t) := by
  unfold Machine.demoStep
  split
  · split
    · split
      · exact h.withDemo
      · exact h
    · exact h
  · exact h

protected theorem leaveCancel (h : Ripples s t) (slot : Nat) : Ripples s (leaveCancel slot t) := by
  unfold Machine.leaveCancel
  split
  · dsimp only
    split
    · exact h.withDemo.admissionTest
    · exact h.withDemo
  · exact h

protected theorem demoFreed (h : Ripples s t) (slot : Nat) : Ripples s (demoFreed slot t) := h.withDemo.leaveCancel slot

protected theorem demoFailed (h : Ripples s t) (slot : Nat) : Ripples s (demoFailed slot t) := by
  unfold Machine.demoFailed
  dsimp only
  split
  · exact (h.leaveCancel slot).abort _
  · exact h.leaveCancel slot

/-- What is handed over for an instance of the Demonstration Unit alone (R82). -/
protected theorem ifDemo (h : Ripples s t) (q : Party) {f : State → State} (hf : ∀ x, Ripples s x → Ripples s (f x)) :
    Ripples s (ifDemo q f t) := by
  unfold Machine.ifDemo
  split
  · exact hf t h
  · exact h

protected theorem clearService (h : Ripples s t) : Ripples s (clearService t) :=
  ((h.withDemo (by exact fun _ => Nat.zero_le 6)).foldl (fun _ _ hx => hx.raise _) _).abort _

protected theorem pauseRun (h : Ripples s t) : Ripples s (pauseRun t) := by
  unfold Machine.pauseRun
  split
  · split
    · exact h
    · exact h.withDemo.raise _
  · exact h

protected theorem resumeRun (h : Ripples s t) : Ripples s (resumeRun t) := by
  unfold Machine.resumeRun
  split
  · split
    · exact h.withDemo.raise _
    · exact h
  · exact h

/-- The service recomputed, with all that follows from a change of its conditions (R136). -/
protected theorem recomputeService (h : Ripples s t) : Ripples s (recomputeService t) := by
  unfold Machine.recomputeService
  dsimp only
  split
  · exact h
  · split
    · exact (h.withDemo.raise _).resumeRun.recomputeLamps.admissionTest
    · split
      · exact (h.withDemo.raise _).clearService.recomputeLamps
      · split
        · exact (h.withDemo.raise _).recomputeLamps
        · exact (h.withDemo.raise _).pauseRun.recomputeLamps

/-! ### What an instance gives up -/

protected theorem recomputeEntry (h : Ripples s t) (i : Inst) : Ripples s (recomputeEntry i t) := by
  unfold Machine.recomputeEntry
  split
  · exact h.recompute _
  · exact h

protected theorem recomputeUpstream (h : Ripples s t) (i : Inst) : Ripples s (recomputeUpstream i t) := by
  unfold Machine.recomputeUpstream
  split
  · exact h.recomputeAll _
  · exact h

protected theorem freeSlot (h : Ripples s t) (slot : Nat) : Ripples s (freeSlot slot t) := h.withIl

protected theorem unlockAll (h : Ripples s t) (l : List HeldPoint) : Ripples s (unlockAll l t) :=
  h.foldl (fun _ p hx => hx.unlockPoint p.point) l

protected theorem freeHeld (h : Ripples s t) (slot : Nat) (role : LockRole) (l : List Nat) :
    Ripples s (freeHeld slot role l t) := by
  refine h.foldl (fun x n hx => ?_) l
  split
  · exact hx.freeSection n
  · exact hx

protected theorem giveUpAll (h : Ripples s t) (slot : Nat) (i : Inst) : Ripples s (giveUpAll slot i t) :=
  ((h.freeHeld slot .route _).freeHeld slot .overlap _).unlockAll _

protected theorem failInst (h : Ripples s t) (slot : Nat) (why : FailReason) : Ripples s (failInst slot why t) := by
  unfold Machine.failInst
  split
  · exact h
  · rename_i i _
    exact (((((h.giveUpAll slot i).raise _).count _ _ _).freeSlot slot).recomputeEntry i).ifDemo _
      fun _ hx => hx.demoFailed slot

protected theorem releaseAtOnce (h : Ripples s t) (slot : Nat) (cause : ReleaseCause) :
    Ripples s (releaseAtOnce slot cause t) := by
  unfold Machine.releaseAtOnce
  split
  · exact h
  · rename_i i _
    exact ((((h.giveUpAll slot i).freeSlot slot).raise _).recomputeEntry i).ifDemo _ fun _ hx => hx.demoFreed slot

protected theorem freeTest (h : Ripples s t) (slot : Nat) : Ripples s (freeTest slot t) := by
  unfold Machine.freeTest
  split
  · exact h
  · rename_i i _
    split
    · exact (((((h.unlockAll i.held).freeSlot slot).raise _).recomputeEntry i).recomputeUpstream i).ifDemo _
        fun _ hx => hx.demoFreed slot
    · exact h

/-! ### Sectional release -/

protected theorem releaseOne (h : Ripples s t) (slot k : Nat) : Ripples s (releaseOne slot k t) := by
  unfold Machine.releaseOne
  split
  · exact h
  · extract_lets s1 s2 gone here flanks s3
    have hfreed : Ripples s s2 := by
      dsimp only [s2]
      split
      · exact (h.updateInst slot _).freeSection _
      · exact h.updateInst slot _
    exact (((hfreed.unlockAll _).unlockAll _).updateInst slot _).recomputeEntry _

protected theorem cascade (h : Ripples s t) (slot fuel k : Nat) : Ripples s (cascade slot fuel k t) := by
  induction fuel generalizing k t with
  | zero => exact h
  | succ fuel ih =>
    rw [Machine.cascade]
    split
    · exact ih (h.releaseOne slot k) (k + 1)
    · exact h

protected theorem releaseFrom (h : Ripples s t) (slot k : Nat) : Ripples s (releaseFrom slot k t) := by
  unfold Machine.releaseFrom
  split
  · exact (h.cascade slot 13 k).freeTest slot
  · exact h

protected theorem offerRelease (h : Ripples s t) (n : Nat) : Ripples s (offerRelease n t) := by
  unfold Machine.offerRelease
  split
  · exact h
  · split
    · exact h
    · split
      · exact h
      · split
        · exact (h.releaseOne _ _).freeTest _
        · exact h.releaseFrom _ _

/-! ### The life of an instance -/

protected theorem enterOccupied (h : Ripples s t) (slot : Nat) : Ripples s (enterOccupied slot t) := by
  unfold Machine.enterOccupied
  split
  · exact h
  · split
    · exact h
    · exact ((((h.updateInst slot _).raise _).recomputeEntry _).ifDemo _ fun _ hx => hx.leaveCancel slot).releaseFrom slot 0

protected theorem setTest (h : Ripples s t) (slot : Nat) : Ripples s (setTest slot t) := by
  unfold Machine.setTest
  split
  · exact h
  · split
    · extract_lets s1 s2
      have hset : Ripples s s2 := ((h.updateInst slot _).raise _).count _ _ _
      split
      · exact hset.enterOccupied slot
      · exact hset.recomputeEntry _
    · exact h

protected theorem firstPassed (h : Ripples s t) (slot k : Nat) : Ripples s (firstPassed slot k t) := by
  unfold Machine.firstPassed
  split
  · exact h
  · split
    · exact h.enterOccupied slot
    · split
      · exact ((h.updateInst slot _).raise _).enterOccupied slot
      · exact h
    · exact h

protected theorem instStep (h : Ripples s t) (n k : Nat) : Ripples s (instStep n k t) := by
  unfold Machine.instStep
  split
  · exact h
  · split
    · exact h
    · split
      · exact h
      · split
        · dsimp only
          split
          · exact (h.updateInst _ _).firstPassed _ k
          · exact h.updateInst _ _
        · exact h

protected theorem pointTold (h : Ripples s t) (n : Nat) (why : FailReason) (slot : Nat) :
    Ripples s (pointTold n why slot t) := by
  unfold Machine.pointTold
  split
  · exact h
  · split
    · split
      · exact h.setTest slot
      · exact h.failInst slot why
    · exact h

protected theorem pointHandOn (h : Ripples s t) (n : Nat) (why : FailReason) : Ripples s (pointHandOn n why t) := by
  have htold : Ripples s ((slotsWhere t (fun i => i.held.any (fun g => g.point == n))).foldl
      (fun s i => pointTold n why i s) t) := h.foldl (fun _ slot hx => hx.pointTold n why slot) _
  unfold Machine.pointHandOn
  dsimp only
  split
  · exact htold.eligible.recomputeAll _
  · exact htold.recomputeAll _

/-! ### The deck's claims -/

protected theorem claimAligned (h : Ripples s t) (j slot : Nat) : Ripples s (claimAligned j slot t) := by
  unfold Machine.claimAligned
  split
  · exact h
  · split
    · split
      · dsimp only
        split
        · split
          · exact ((h.updateInst slot _).setLock _ _).setTest slot
          · exact (h.updateInst slot _).setTest slot
        · exact (h.updateInst slot _).setTest slot
      · exact h.failInst slot _
    · exact h

protected theorem deckAlignedTo (h : Ripples s t) (j : Nat) : Ripples s (deckAlignedTo j t) :=
  Ripples.eligible (Ripples.recomputeAll (h.foldl (fun _ slot hx => hx.claimAligned j slot) _) _)

protected theorem giveUpDeck (h : Ripples s t) (slot n : Nat) : Ripples s (giveUpDeck slot n t) := by
  unfold Machine.giveUpDeck
  split
  · exact (h.freeSection n).updateInst slot _
  · exact ((h.freeSection n).updateInst slot _).freeTest slot

protected theorem deckLostTold (h : Ripples s t) (slot : Nat) : Ripples s (deckLostTold slot t) := by
  unfold Machine.deckLostTold
  split
  · split <;> split
    · exact h.failInst slot _
    · exact h
    · exact h.failInst slot _
    · exact h
    · exact h.giveUpDeck slot _
    · exact h
  · exact h

protected theorem deckLost (h : Ripples s t) : Ripples s (deckLost t) :=
  Ripples.recomputeAll (h.foldl (fun _ slot hx => hx.deckLostTold slot) _) _

/-! ### The overlap -/

protected theorem releaseOverlap (h : Ripples s t) (slot : Nat) : Ripples s (releaseOverlap slot t) := by
  unfold Machine.releaseOverlap
  split
  · exact h
  · split
    · exact h.updateInst slot _
    · exact (((h.freeHeld slot .overlap _).updateInst slot _).raise _).recomputeEntry _

protected theorem overlapExpiry (h : Ripples s t) (slot : Nat) : Ripples s (overlapExpiry slot t) :=
  (h.releaseOverlap slot).freeTest slot

protected theorem startOverlap (h : Ripples s t) (slot : Nat) : Ripples s (startOverlap slot t) := by
  unfold Machine.startOverlap
  split
  · exact h.overlapExpiry slot
  · exact h.updateInst slot _

protected theorem overlapReport (h : Ripples s t) (head out slot : Nat) : Ripples s (overlapReport head out slot t) := by
  unfold Machine.overlapReport
  split
  · exact h
  · split
    · split
      · exact h.startOverlap slot
      · exact h
    · split
      · exact h.updateInst slot _
      · exact h

protected theorem reportToInstances (h : Ripples s t) (k head out : Nat) : Ripples s (reportToInstances k head out t) :=
  h.foldl (fun _ slot hx => hx.overlapReport head out slot) _

protected theorem enteringGone (h : Ripples s t) (k : Nat) : Ripples s (enteringGone k t) :=
  h.foldl (fun _ slot hx => hx.startOverlap slot) _

protected theorem absorbedTold (h : Ripples s t) (slot receiver : Nat) (taken : List Nat) :
    Ripples s (absorbedTold slot receiver taken t) := by
  unfold Machine.absorbedTold
  split
  · exact h
  · dsimp only
    split
    · exact ((((h.updateInst slot _).updateInst slot _).raise _).recomputeEntry _).freeTest slot
    · exact (h.updateInst slot _).recomputeEntry _

/-! ### Cancelling -/

protected theorem enterReleasing (h : Ripples s t) (slot : Nat) (o : Origin) (by_ : Party) :
    Ripples s (enterReleasing slot o by_ t) := by
  unfold Machine.enterReleasing
  split
  · exact h
  · exact ((h.updateInst slot _).raise _).recomputeEntry _

protected theorem expireOccupied (h : Ripples s t) (slot : Nat) : Ripples s (expireOccupied slot t) := by
  unfold Machine.expireOccupied
  split
  · exact h
  · refine ((((h.updateInst slot _).foldl (fun x k hx => ?_) _).releaseOverlap slot).freeTest slot)
    split
    · split
      · exact hx.releaseOne slot k
      · exact hx
    · exact hx

protected theorem cancelInst (h : Ripples s t) (slot : Nat) (by_ : Party) : Ripples s (cancelInst slot by_ t).2 := by
  unfold Machine.cancelInst
  split
  · exact h
  · split
    · exact h.enterReleasing slot _ _
    · split
      · exact h.enterReleasing slot _ _
      · exact h.releaseAtOnce slot _
    · exact h.releaseAtOnce slot _

protected theorem absorb (h : Ripples s t) (slot : Nat) (taken : List (Nat × Nat)) : Ripples s (absorb slot taken t) :=
  Ripples.foldl (h.foldl (fun _ e hx => hx.setLock e.1 _) _) (fun _ old hx => hx.absorbedTold old slot _) _

protected theorem lockSections (h : Ripples s t) (slot : Nat) (r : RouteEntry) (taken : List (Nat × Nat)) (ovl : List Nat)
    (moves : Bool) : Ripples s (lockSections slot r taken ovl moves t) :=
  Ripples.foldl (h.foldl (fun _ n hx => hx.setLock n _) _) (fun _ n hx => hx.setLock n _) _

end Sys2Proof.Machine.Ripples
end

section
/-! PROOFS. The work of the Train Tracker is made of consequences (chapters 5 and 6), and so is the settlement of WAKING
(R17). -/

namespace Sys2Proof.Machine.Ripples

open Sys2Proof Sys2Proof.Machine

-- One theorem at a time: theorems that wait for each other would hold a thread each.
set_option Elab.async false

variable {s t : State}

/-! ### Disruption -/

protected theorem handDisruption (h : Ripples s t) (k : Nat) : Ripples s (handDisruption k t) := by
  unfold Machine.handDisruption
  split
  · exact h.abort _
  · exact h

protected theorem markDisrupted (h : Ripples s t) (k : Nat) (cause : Cause) : Ripples s (markDisrupted k cause t) :=
  h.updateTrain k _

protected theorem disrupt (h : Ripples s t) (k : Nat) (cause : Cause) : Ripples s (disrupt k cause t) := by
  unfold Machine.disrupt
  split
  · exact (((h.markDisrupted k cause).count _ _ _).noteTrain k _).handDisruption k
  · exact h

protected theorem overrunEffects (h : Ripples s t) (k sig n : Nat) : Ripples s (overrunEffects k sig n t) := by
  unfold Machine.overrunEffects
  extract_lets fresh s1 s2
  have hover : Ripples s s2 := ((h.markDisrupted k .overrun).raise _).count _ _ _
  split
  · exact ((hover.count _ _ _).noteTrain k _).handDisruption k
  · exact hover

/-! ### Steps -/

protected theorem overflow (h : Ripples s t) (k : Nat) : Ripples s (overflow k t) := by
  unfold Machine.overflow
  split
  · split
    · split
      · exact ((h.updateTrain k _).giveOccupant _ _).disrupt k _
      · exact h
    · exact h
  · exact h

protected theorem turnStep (h : Ripples s t) (k n : Nat) (route prev : Option Nat) :
    Ripples s (turnStep k n route prev t) := by
  unfold Machine.turnStep
  split
  · dsimp only
    split
    · exact h.updateTrain k _
    · exact (h.updateTrain k _).disrupt k _
  · exact h.updateTrain k _

/-- A step of a train into a section (R92). -/
protected theorem stepInto (h : Ripples s t) (k n : Nat) (route past : Option Nat) :
    Ripples s (stepInto k n route past t) := by
  unfold Machine.stepInto
  extract_lets prev s1 s2 s3 sig s4 s5
  have hlisted : Ripples s s1 := ((h.updateTrain k _).setOccupant n _).overflow k
  have hturned : Ripples s s2 := (hlisted.updateSup k _).turnStep k n route prev
  have htold : Ripples s s4 := (hturned.count _ _ _).instStep n k
  have hpassed : Ripples s s5 := by
    dsimp only [s5]
    clear_value sig
    split
    · exact htold.overrunEffects k _ n
    · exact htold
  exact (hpassed.noteTrain k _).demoStep k n

/-- A section becomes OCCUPIED (R91, R93, R94). -/
protected theorem becameOccupied (h : Ripples s t) (n : Nat) : Ripples s (becameOccupied n t) := by
  unfold Machine.becameOccupied
  split
  · split
    · exact h.stepInto _ n _ _
    · split
      · exact h.stepInto _ n _ _
      · exact (h.setOccupant n _).noteSection n _
  · exact h

protected theorem leaveList (h : Ripples s t) (k n : Nat) : Ripples s (leaveList k n t) := by
  unfold Machine.leaveList
  extract_lets wasHead s1
  have hleft : Ripples s s1 := (h.updateTrain k _).setOccupant n _
  split
  · split
    · exact hleft.updateSup k _
    · exact hleft
  · exact hleft

/-- A section becomes CLEAR (R97). -/
protected theorem becameClear (h : Ripples s t) (n : Nat) : Ripples s (becameClear n t) := by
  unfold Machine.becameClear
  split
  · split
    · exact h.disrupt _ _
    · extract_lets parted s1
      split
      · exact (h.leaveList _ n).disrupt _ _
      · exact (h.leaveList _ n).noteTrain _ _
    · exact h
  · exact h.setOccupant n _
  · exact h

/-! ### Settlement -/

protected theorem settleSection (h : Ripples s t) (n : Nat) : Ripples s (settleSection n t) := by
  unfold Machine.settleSection
  split
  · exact h
  · split
    · extract_lets s1
      have hsettled : Ripples s s1 := h.updateSec n
      split
      · exact (hsettled.becameClear n).recomputeAll _
      · exact hsettled
      · exact ((hsettled.updateSec n).noteSection n _).recomputeAll _
    · exact h

protected theorem settleAll (h : Ripples s t) : Ripples s (settleAll t) := h.foldl (fun _ n hx => hx.settleSection n) _

/-! ### Trains placed, removed and reversed -/

protected theorem placeTrain (h : Ripples s t) (k n : Nat) (d : Dir) : Ripples s (placeTrain k n d t) :=
  ((h.updateTrain k _).giveOccupant n _).noteTrain k _

protected theorem removeTrain (h : Ripples s t) (k : Nat) : Ripples s (removeTrain k t) := by
  unfold Machine.removeTrain
  extract_lets list s1 s2 s3
  have hgiven : Ripples s s1 := h.foldl (fun _ n hx => hx.giveOccupant n _) _
  have hended : Ripples s s2 := by
    dsimp only [s2]
    split
    · split
      · exact hgiven.raise _
      · exact hgiven
    · exact hgiven
  exact ((hended.updateTrain k _).noteTrain k _).enteringGone k

protected theorem interventionStep (h : Ripples s t) (k head : Nat) (v : Sup) :
    Ripples s (interventionStep k head v t) := by
  have hflag := h.updateSup k (fun u => { u with intervening := decide (v.permitted < v.demanded) })
  unfold Machine.interventionStep
  dsimp only
  split
  · exact (hflag.raise _).count _ _ _
  · split
    · exact hflag.raise _
    · exact hflag

protected theorem reverseTrain (h : Ripples s t) (k : Nat) : Ripples s (reverseTrain k t) := by
  unfold Machine.reverseTrain
  split
  · exact h
  · split
    · exact h
    · exact (h.updateTrain k _).noteTrain k _

protected theorem speedNotice (h : Ripples s t) (k : Nat) : Ripples s (speedNotice k t) := by
  unfold Machine.speedNotice
  split
  · exact h
  · split
    · exact h.noteTrain k _
    · exact h

/-! ### Modules that answer again -/

protected theorem resendAspects (h : Ripples s t) (a : Nat) : Ripples s (resendAspects a t) := by
  refine h.foldl (fun x g hx => ?_) _
  split
  · exact hx.offer
  · exact hx

protected theorem refreshAll (h : Ripples s t) : Ripples s (refreshAll t) := h.foldl (fun _ k hx => hx.updateSup k _) _

/-! ### Occupancies -/

/-- What a change of an accepted occupancy brings with it (R25). -/
protected theorem occupancyChanged (s : State) (n : Nat) (occ : Occupancy) :
    Ripples (Machine.updateSec s n (fun st => { st with occ := occ })) (occupancyChanged n occ s) := by
  unfold Machine.occupancyChanged
  extract_lets s1 s2 s3
  have hnoted : Ripples (Machine.updateSec s n (fun st => { st with occ := occ })) s1 := (Ripples.refl _).noteSection n _
  have htracked : Ripples (Machine.updateSec s n (fun st => { st with occ := occ })) s2 := by
    dsimp only [s2]
    split
    · exact hnoted.updateSec n
    · split
      · exact hnoted.becameOccupied n
      · exact hnoted.becameClear n
  have hreleased : Ripples (Machine.updateSec s n (fun st => { st with occ := occ })) s3 := by
    dsimp only [s3]
    split
    · exact (htracked.offerRelease n).eligible
    · exact htracked
  exact hreleased.recomputeAll _

end Sys2Proof.Machine.Ripples
end

section
/-! PROOFS. The capacities and holdings of the blocks (R38, R57, R135, R159, R165 to R179): what changes of each block keep
them. -/

namespace Sys2Proof.Machine

open Sys2Proof

-- One theorem at a time: theorems that wait for each other would hold a thread each.
set_option Elab.async false

/-! ### The parts of the capacities -/

/-- The capacities without the holders of the districts. -/
def Room (s : State) : Prop :=
  PortsFit s ∧ CountersFit s ∧ ListsFit s ∧ StoreFits s ∧ (s.engine.retry.map (·.route)).Nodup

/-- Every holder of a district is ONLINE (R38). -/
def HoldersOnline (s : State) : Prop := ∀ k p, (districtAt s k).holder = some p → (portAt s p).state = .online

theorem capacities_iff (s : State) : Capacities s ↔ Room s ∧ HoldersOnline s := by
  simp only [Capacities, Room, HoldingsFit, HoldersOnline]
  tauto

/-- A port keeps its capacities when its reports do and its quiet part does. -/
theorem portFits_iff (q : Port) : PortFits q ↔ PortReports q ∧ PortFits (quietPort q) := by
  simp only [PortFits, PortReports, quietPort, List.length_nil]
  constructor
  · rintro ⟨h1, h2, h3, h4, h5⟩
    exact ⟨⟨h3, h4⟩, h1, h2, Nat.zero_le _, Nat.zero_le _, h5⟩
  · rintro ⟨⟨h3, h4⟩, h1, h2, -, -, h5⟩
    exact ⟨h1, h2, h3, h4, h5⟩

section

variable {s t : State}

theorem reports_of_room (h : Room s) : Reports s := by
  obtain ⟨hports, ⟨hvalues, hhalf, -⟩, -⟩ := h
  exact ⟨fun p => ((portFits_iff _).1 (hports p)).1, hvalues, hhalf⟩

/-- The room of the blocks reads the quiet parts of the ports, the ground of the other blocks, the reports and the two
queues. -/
theorem Room.congr (h : Room s) (hports : ∀ p, quietPort (portAt t p) = quietPort (portAt s p)) (hreports : Reports t)
    (hsel : t.counters.sel = s.counters.sel) (hdistricts : t.il.districts = s.il.districts)
    (hretry : t.engine.retry.map (·.route) = s.engine.retry.map (·.route)) (hring : t.ring.queue.length ≤ 32)
    (hdemo : t.demo.queue.length ≤ 6) (hstore : t.store = s.store) : Room t := by
  obtain ⟨sports, ⟨-, -, ssel⟩, ⟨sdistricts, sretry, -, -⟩, sstore, snodup⟩ := h
  have hlen : t.engine.retry.length = s.engine.retry.length := by simpa using congrArg List.length hretry
  refine ⟨fun p => ?_, ⟨hreports.2.1, hreports.2.2, by rwa [hsel]⟩,
    ⟨by rwa [hdistricts], by rwa [hlen], hring, hdemo⟩, by rwa [StoreFits, hstore], by rwa [hretry]⟩
  rw [portFits_iff, hports p]
  exact ⟨hreports.1 p, ((portFits_iff _).1 (sports p)).2⟩

theorem HoldersOnline.congr (h : HoldersOnline s) (hports : ∀ p, quietPort (portAt t p) = quietPort (portAt s p))
    (hdistricts : t.il.districts = s.il.districts) : HoldersOnline t := by
  intro k p hk
  rw [districtAt, hdistricts] at hk
  exact (congrArg Port.state (hports p)).trans (h k p hk)

/-- Consequences keep the room of the blocks. -/
theorem Room.ripple (h : Room s) (r : Ripples s t) : Room t := by
  obtain ⟨-, -, ⟨-, -, sring, sdemo⟩, -, -⟩ := id h
  exact h.congr (ground_port r.same) (r.reports (reports_of_room h)) (ground_sel r.same) (ground_districts r.same)
    (ground_retry r.same) (r.queue sring).1 (r.demo sdemo) (ground_store r.same)

/-- States that differ in reports alone have the same room. -/
theorem Room.quiet (h : Room s) (hq : quiet t = quiet s) (hreports : Reports t) : Room t := by
  obtain ⟨-, -, ⟨-, -, sring, sdemo⟩, -, -⟩ := id h
  exact h.congr (quiet_port hq) hreports (quiet_sel hq) (by rw [quiet_il hq]) (by rw [quiet_engine hq])
    (by rwa [quiet_ring hq]) (by rwa [quiet_demo hq]) (quiet_store hq)

end

namespace Capacities

variable {s t : State}

protected theorem room (h : Capacities s) : Room s := ((capacities_iff s).1 h).1

/-- Consequences keep every capacity and holding. -/
theorem ripple (h : Capacities s) (r : Ripples s t) : Capacities t := by
  obtain ⟨hroom, hheld⟩ := (capacities_iff s).1 h
  exact (capacities_iff t).2 ⟨hroom.ripple r, hheld.congr (ground_port r.same) (ground_districts r.same)⟩

/-- States that differ in reports alone keep the same capacities. -/
protected theorem quiet (h : Capacities s) (hq : quiet t = quiet s) (hreports : Reports t) : Capacities t := by
  obtain ⟨hroom, hheld⟩ := (capacities_iff s).1 h
  exact (capacities_iff t).2 ⟨hroom.quiet hq hreports, hheld.congr (quiet_port hq) (by rw [quiet_il hq])⟩

protected theorem raise (h : Capacities s) (n : Notice) : Capacities (raise n s) := h.ripple ((Ripples.refl s).raise n)
protected theorem count (h : Capacities s) (e : EventKind) (q : Option Party) (d : Option Nat) :
    Capacities (count e q d s) := h.ripple ((Ripples.refl s).count e q d)

protected theorem foldl {α : Type} (h : Capacities s) {f : State → α → State}
    (hf : ∀ x a, Capacities x → Capacities (f x a)) (l : List α) : Capacities (l.foldl f s) :=
  foldl_keeps Capacities f hf l s h

/-! ### The blocks -/

protected theorem withCtl (h : Capacities s) (v : Control) : Capacities (s.withCtl v) := h
protected theorem withDeck (h : Capacities s) (v : Option DeckState) : Capacities (s.withDeck v) := h
protected theorem withTrains (h : Capacities s) (v : Table TrainRec) : Capacities (s.withTrains v) := h
protected theorem withSeed (h : Capacities s) (v : Nat) : Capacities (s.withSeed v) := h
protected theorem updateDeck (h : Capacities s) (f : DeckState → DeckState) : Capacities (updateDeck s f) := h
protected theorem updateTrain (h : Capacities s) (k : Nat) (f : TrainRec → TrainRec) : Capacities (updateTrain s k f) := h
protected theorem updateSup (h : Capacities s) (k : Nat) (f : Sup → Sup) : Capacities (updateSup s k f) := h

/-- Another Interlocking Unit with the same districts. -/
protected theorem withIl (h : Capacities s) {v : Interlock} (hv : v.districts = s.il.districts := by rfl) :
    Capacities (s.withIl v) := by
  obtain ⟨hports, hcounters, ⟨hdistricts, hlists⟩, hstore, hheld, hretry⟩ := h
  refine ⟨hports, hcounters, ⟨(congrArg List.length hv).trans hdistricts, hlists⟩, hstore, fun k p hk => hheld k p ?_, hretry⟩
  rw [districtAt, ← hv]
  exact hk

protected theorem updateSec (h : Capacities s) (n : Nat) (f : SecState → SecState) : Capacities (updateSec s n f) := h.withIl
protected theorem updatePt (h : Capacities s) (n : Nat) (f : PtState → PtState) : Capacities (updatePt s n f) := h.withIl
protected theorem updateInst (h : Capacities s) (k : Nat) (f : Inst → Inst) : Capacities (updateInst s k f) := h.withIl

/-- A ring whose command queue is in its room (R159). -/
protected theorem withRing (h : Capacities s) {r : Ring}
    (hr : s.ring.queue.length ≤ 32 → r.queue.length ≤ 32 := by exact id) : Capacities (s.withRing r) := by
  obtain ⟨hports, hcounters, ⟨hdistricts, hretry, hring, hdemo⟩, hstore⟩ := h
  exact ⟨hports, hcounters, ⟨hdistricts, hretry, hr hring, hdemo⟩, hstore⟩

protected theorem updateModule (h : Capacities s) (a : Nat) (f : Module → Module) : Capacities (updateModule s a f) :=
  h.withRing

/-- A Route Engine whose retry entries are among those there were (R57). -/
protected theorem withEngine (h : Capacities s) {v : Engine}
    (hv : (v.retry.map (·.route)).Sublist (s.engine.retry.map (·.route)) := by exact List.Sublist.refl _) :
    Capacities (s.withEngine v) := by
  obtain ⟨hports, hcounters, ⟨hdistricts, hretry, hring, hdemo⟩, hstore, hheld, hnodup⟩ := h
  have hlen : v.retry.length ≤ s.engine.retry.length := by simpa using hv.length_le
  exact ⟨hports, hcounters, ⟨hdistricts, hlen.trans hretry, hring, hdemo⟩, hstore, hheld, hnodup.sublist hv⟩

/-- A Demonstration Unit whose queue is in its room (R135). -/
protected theorem withDemo (h : Capacities s) {v : Demo}
    (hv : s.demo.queue.length ≤ 6 → v.queue.length ≤ 6 := by exact id) : Capacities (s.withDemo v) := by
  obtain ⟨hports, hcounters, ⟨hdistricts, hretry, hring, hdemo⟩, hstore⟩ := h
  exact ⟨hports, hcounters, ⟨hdistricts, hretry, hring, hv hdemo⟩, hstore⟩

/-- A Layout Store whose traction addresses name ring addresses (Table 1-5). -/
protected theorem withStore (h : Capacities s) {v : Store} (hv : StoreFits (s.withStore v)) :
    Capacities (s.withStore v) := by
  obtain ⟨hports, hcounters, hlists, -, hheld⟩ := h
  exact ⟨hports, hcounters, hlists, hv, hheld⟩

/-- Counters of the same number. -/
protected theorem withCounters (h : Capacities s) {v : Counters} (hvalues : v.values.length = s.counters.values.length)
    (hhalf : v.half.length = s.counters.half.length) (hsel : v.sel.length = s.counters.sel.length) :
    Capacities (s.withCounters v) := by
  obtain ⟨hports, ⟨h1, h2, h3⟩, hrest⟩ := h
  exact ⟨hports, ⟨hvalues.trans h1, hhalf.trans h2, hsel.trans h3⟩, hrest⟩

/-- A district given to a port that is ONLINE, or to none (R38, R39). -/
protected theorem setDistrict (h : Capacities s) (k : Nat) {v : District}
    (hv : ∀ p, v.holder = some p → (portAt s p).state = .online) : Capacities (setDistrict s k v) := by
  obtain ⟨hports, hcounters, ⟨hdistricts, hlists⟩, hstore, hheld, hretry⟩ := h
  refine ⟨hports, hcounters, ⟨by simpa [setDistrict] using hdistricts, hlists⟩, hstore, fun j p hj => ?_, hretry⟩
  simp only [districtAt, setDistrict, entryAt, State.withIl_il, List.getElem?_set] at hj
  split at hj
  · split at hj
    · exact hv p hj
    · cases hj
  · exact hheld j p hj

end Capacities

/-! ### The ports -/

section

variable {s : State} {p : PortId}

theorem Room.setPort (h : Room s) {v : Port} (hv : PortFits v) : Room (setPort s p v) := by
  obtain ⟨hports, hrest⟩ := h
  refine ⟨fun q => ?_, hrest⟩
  by_cases hq : q = p
  · subst hq
    simpa using hv
  · rw [portAt_setPort_other _ _ _ _ hq]
    exact hports q

theorem Room.updatePort (h : Room s) {f : Port → Port} (hf : PortFits (f (portAt s p))) : Room (updatePort s p f) :=
  Room.setPort h hf

/-- A port replaced by one that keeps its capacities and is ONLINE where the old one was. -/
protected theorem Capacities.setPort (h : Capacities s) {v : Port} (hv : PortFits v)
    (honline : (portAt s p).state = .online → v.state = .online) : Capacities (setPort s p v) := by
  obtain ⟨hroom, hheld⟩ := (capacities_iff s).1 h
  refine (capacities_iff _).2 ⟨hroom.setPort hv, fun k q hk => ?_⟩
  have hq : (portAt s q).state = .online := hheld k q hk
  by_cases hp : q = p
  · subst hp
    simpa using honline hq
  · rwa [portAt_setPort_other _ _ _ _ hp]

protected theorem Capacities.updatePort (h : Capacities s) {f : Port → Port}
    (hf : PortFits (portAt s p) → PortFits (f (portAt s p)))
    (honline : (f (portAt s p)).state = (portAt s p).state := by rfl) : Capacities (updatePort s p f) :=
  Capacities.setPort h (hf (h.1 p)) (honline.trans ·)

/-- A response finds a place or is counted as an overrun (R172). -/
protected theorem Capacities.pushResponse (h : Capacities s) (p : PortId) (r : Response) : Capacities (pushResponse p r s) := by
  refine h.updatePort (fun hp => ?_) (by split <;> rfl)
  obtain ⟨h1, h2, h3, h4, h5, h6⟩ := hp
  split
  · rename_i hfree
    have hlt : (portAt s p).responses.length < 16 := hfree
    exact ⟨h1, by simp; omega, h3, h4, h5, h6⟩
  · exact ⟨h1, h2, h3, h4, Nat.min_le_left _ _, h6⟩

protected theorem Capacities.respond (h : Capacities s) (p : PortId) (tag : Byte) (a : Answer) :
    Capacities (respond p tag a s) := h.foldl (fun _ r hx => hx.pushResponse p r) _

/-- The head's leaving makes room (R171). -/
protected theorem Capacities.popHead (h : Capacities s) (p : PortId) : Capacities (popHead p s) := by
  refine h.updatePort (fun hp => ?_) (by unfold leaveHead; dsimp only; split <;> rfl)
  obtain ⟨h1, h2, h3, h4, h5, h6, h7, h8, h9⟩ := hp
  have hdrop : ((portAt s p).queue.drop 1).length ≤ 8 := by simp; omega
  have hempty : (portAt s p).state = .online ∨ (portAt s p).queue.drop 1 = [] := h9.imp_right fun hq => by simp [hq]
  unfold leaveHead
  dsimp only
  split
  · exact ⟨hdrop, h2, h3, h4, h5, h6, h7, h8, hempty⟩
  · exact ⟨hdrop, h2, h3, h4, h5, h6, h7, h8, hempty⟩

end

/-! ### Ring commands -/

namespace Capacities

variable {s : State}

/-- A ring command offered finds a place within the capacity of the queue (R159, R161). -/
protected theorem offer (h : Capacities s) (c : RingCmd) : Capacities (offer c s) := by
  have hplace : Capacities (s.withRing (placeCmd s.ring c).1) := h.withRing fun hq => (placeCmd_waits s.ring c hq).2
  unfold Machine.offer
  split
  · dsimp only
    split
    · exact hplace.raise _
    · exact hplace
  · exact h

protected theorem offerPower (h : Capacities s) (on : Bool) : Capacities (offerPower on s) := Capacities.offer h.withRing _

/-- The slot's command joins a queue with a free place (R161). -/
theorem length_queue_refillSlot {r : Ring} (h : r.queue.length ≤ 32) : (refillSlot r).queue.length ≤ 32 := by
  unfold refillSlot
  split
  · split
    · rename_i hfree
      have hlt : r.queue.length < 32 := hfree
      simp
      omega
    · exact h
  · exact h

end Capacities

end Sys2Proof.Machine
end

section
/-! PROOFS. Points, the deck, the tracker, the modes and the supervision keep the capacities (chapters 2, 5, 6 and 7). -/

namespace Sys2Proof.Machine.Capacities

open Sys2Proof Sys2Proof.Machine

-- One theorem at a time: theorems that wait for each other would hold a thread each.
set_option Elab.async false

variable {s : State}

/-! ### Points and sections -/

protected theorem notePoint (h : Capacities s) (n : Nat) (ev : PointEvent) : Capacities (notePoint n ev s) :=
  h.ripple ((Ripples.refl s).notePoint n ev)

protected theorem recomputeAll (h : Capacities s) (l : List Nat) : Capacities (recomputeAll l s) :=
  h.ripple ((Ripples.refl s).recomputeAll l)

protected theorem setNeither (h : Capacities s) (n v : Nat) : Capacities (setNeither n v s) := by
  unfold Machine.setNeither
  split
  · exact h.updateModule _ _
  · exact h

protected theorem lockPoint (h : Capacities s) (n : Nat) (pos : Position) : Capacities (lockPoint n pos s) :=
  (h.updatePt n _).notePoint n _

protected theorem commandPoint (h : Capacities s) (n : Nat) (pos : Position) : Capacities (commandPoint n pos s) := by
  unfold Machine.commandPoint
  split
  · exact h
  · split
    · exact h.updatePt n _
    · split
      · exact h
      · exact (Capacities.notePoint (((((h.updatePt n _).offer _).updatePt n _).setNeither n 0)) n _).recomputeAll _

protected theorem lockPoints (h : Capacities s) (l : List HeldPoint) : Capacities (lockPoints l s) :=
  Capacities.foldl (h.foldl (fun _ p hx => hx.lockPoint p.point p.pos) l) (fun _ p hx => hx.commandPoint p.point p.pos) _

protected theorem setClearCount (h : Capacities s) (n v : Nat) : Capacities (setClearCount n v s) := by
  unfold Machine.setClearCount
  split
  · exact h.updateModule _ _
  · exact h

protected theorem occupancyChanged (h : Capacities s) (n : Nat) (occ : Occupancy) :
    Capacities (occupancyChanged n occ s) := (h.updateSec n _).ripple (Ripples.occupancyChanged s n occ)

protected theorem filterSection (h : Capacities s) (n : Nat) (shown : Occupancy) : Capacities (filterSection n shown s) := by
  unfold Machine.filterSection
  split
  · exact h
  · split
    · exact (h.setClearCount n 0).occupancyChanged n _
    · exact h.setClearCount n 0
    · exact h.setClearCount n 0
    · split
      · exact h.setClearCount n 1
      · exact (h.setClearCount n 0).occupancyChanged n _

protected theorem failSection (h : Capacities s) (n : Nat) : Capacities (failSection n s) := by
  unfold Machine.failSection
  dsimp only
  split
  · exact (h.setClearCount n 0).occupancyChanged n _
  · exact h.setClearCount n 0

protected theorem pointHandOn (h : Capacities s) (n : Nat) (why : FailReason) : Capacities (pointHandOn n why s) :=
  h.ripple ((Ripples.refl s).pointHandOn n why)

protected theorem pointAnswer (h : Capacities s) (n : Nat) (shown : Option Position) :
    Capacities (pointAnswer n shown s) := by
  unfold Machine.pointAnswer
  split
  · exact h
  · extract_lets changed
    have hchanged : ∀ r, Capacities (changed r s) := fun r =>
      (((h.updatePt n _).setNeither n 0).notePoint n _).pointHandOn n _
    clear_value changed
    split
    · split
      · exact hchanged _
      · exact h.setNeither n 0
    · exact h.setNeither n 0
    · exact hchanged _
    · exact h
    · split
      · exact h.setNeither n 0
      · exact hchanged _
    · split
      · exact h.setNeither n 1
      · exact hchanged _

protected theorem pointTimeout (h : Capacities s) (n : Nat) : Capacities (pointTimeout n s) :=
  ((h.updatePt n _).notePoint n _).pointHandOn n _

protected theorem failPoints (h : Capacities s) (l : List Nat) : Capacities (failPoints l s) :=
  Capacities.foldl (h.foldl (fun _ n hx => (hx.updatePt n _).setNeither n 0) l)
    (fun _ n hx => (hx.notePoint n _).pointHandOn n _) _

/-! ### The deck -/

protected theorem noteDeck (h : Capacities s) (ev : DeckEvent) : Capacities (noteDeck ev s) := by
  unfold Machine.noteDeck
  split
  · exact h.raise _
  · exact h

protected theorem discardLatch (h : Capacities s) (cause : DiscardCause) : Capacities (discardLatch cause s) := by
  unfold Machine.discardLatch
  split
  · split
    · exact (h.updateDeck _).noteDeck _
    · exact h
  · exact h

protected theorem startMove (h : Capacities s) (k : Nat) (sense : ReqSense) (req : MoveReq) :
    Capacities (startMove k sense req s) := by
  unfold Machine.startMove
  split
  · exact (((h.offer _).updateDeck _).noteDeck _).recomputeAll _
  · exact h

protected theorem recheckLatch (h : Capacities s) : Capacities (recheckLatch s) := by
  unfold Machine.recheckLatch
  split
  · split
    · split
      · exact h
      · extract_lets s1
        have hempty : Capacities s1 := h.updateDeck _
        split
        · exact hempty.noteDeck _
        · split
          · exact (hempty.startMove _ _ _).noteDeck _
          · exact hempty.noteDeck _
    · exact h
  · exact h

protected theorem becomeAligned (h : Capacities s) (j : Nat) (ev : DeckEvent) : Capacities (becomeAligned j ev s) :=
  (h.noteDeck ev).ripple ((Ripples.refl _).deckAlignedTo j)

protected theorem deckLost (h : Capacities s) : Capacities (deckLost s) := h.ripple (Ripples.refl s).deckLost

protected theorem moveTimeout (h : Capacities s) : Capacities (moveTimeout s) := by
  unfold Machine.moveTimeout
  split
  · split
    · exact (((h.updateDeck _).noteDeck _).discardLatch _).deckLost
    · exact h
  · exact h

protected theorem completeMove (h : Capacities s) (k : Nat) (req : Option MoveReq) : Capacities (completeMove k req s) := by
  unfold Machine.completeMove
  extract_lets s1 s2
  have hcounted : Capacities s2 := Capacities.count (s := s1) h _ _ _
  exact (hcounted.becomeAligned k _).recheckLatch

protected theorem stopElsewhere (h : Capacities s) (i k : Nat) : Capacities (stopElsewhere i k s) :=
  ((h.updateDeck _).becomeAligned i _).recheckLatch

protected theorem loseDeck (h : Capacities s) : Capacities (loseDeck s) :=
  (((h.updateDeck _).discardLatch _).noteDeck _).deckLost

protected theorem deckAnswer (h : Capacities s) (i : Nat) (rests : Bool) : Capacities (deckAnswer i rests s) := by
  unfold Machine.deckAnswer
  extract_lets s1
  have hseen : Capacities s1 := h.updateDeck _
  split
  · exact hseen
  · split
    · split
      · exact hseen
      · split
        · exact hseen.completeMove _ _
        · split
          · exact hseen
          · exact hseen.stopElsewhere _ _
    · split
      · exact hseen.updateDeck _
      · split
        · exact hseen.updateDeck _
        · exact hseen.loseDeck
    · split
      · exact Capacities.becomeAligned (hseen.updateDeck _) _ _
      · exact hseen

protected theorem deckModuleFailed (h : Capacities s) : Capacities (deckModuleFailed s) :=
  (((h.updateDeck _).noteDeck _).discardLatch _).deckLost

/-! ### The modes -/

protected theorem recomputeService (h : Capacities s) : Capacities (recomputeService s) :=
  h.ripple (Ripples.refl s).recomputeService

/-- Waiting SPEED commands leave, and none joins the queue but that of the overflow slot (R116). -/
protected theorem stopTrains (h : Capacities s) : Capacities (stopTrains s) := by
  unfold Machine.stopTrains
  extract_lets ts s1 r
  have hstopped : Capacities s1 := h.foldl (fun _ k hx => hx.updateSup k _) ts
  have hr : s1.ring.queue.length ≤ 32 → r.queue.length ≤ 32 := fun hq =>
    length_queue_refillSlot ((List.length_filter_le _ _).trans hq)
  split
  · exact hstopped.withRing hr
  · exact hstopped.withRing hr

protected theorem setAllStop (h : Capacities s) (cause : StopCause) : Capacities (setAllStop cause s) := by
  unfold Machine.setAllStop
  split
  · exact h
  · exact ((h.withCtl _).raise _).stopTrains.recomputeService

protected theorem clearAllStop (h : Capacities s) (p : PortId) : Capacities (clearAllStop p s) :=
  ((h.withCtl _).raise _).recheckLatch.recomputeService

/-- Retry entries leave the list (R60). -/
protected theorem expireEntries (h : Capacities s) (q : RetryEntry → Bool) (cause : ExpireCause) :
    Capacities (expireEntries q cause s) :=
  (h.withEngine (by exact (List.filter_sublist).map _)).foldl (fun _ _ hx => hx.raise _) _

protected theorem enterWaking (h : Capacities s) (cause : WakeCause) : Capacities (enterWaking cause s) :=
  ((h.withCtl _).offerPower true).raise _

protected theorem endWaking (h : Capacities s) : Capacities (endWaking s) := by
  unfold Machine.endWaking
  extract_lets s1
  have hsettled : Capacities s1 := by
    dsimp only [s1]
    split
    · exact h.ripple (Ripples.refl s).settleAll
    · exact h
  exact ((hsettled.withCtl _).raise _).recomputeService

protected theorem abandonRest (h : Capacities s) (cause : AbandonCause) : Capacities (abandonRest cause s) :=
  (h.withCtl _).raise _

protected theorem enterRest (h : Capacities s) : Capacities (enterRest s) := by
  unfold Machine.enterRest
  extract_lets c s1 r s2 v s3 s4
  have hpower : Capacities s1 := (h.withCtl _).offerPower false
  have hring : Capacities s2 := hpower.withRing
  have hsections : Capacities s3 := hring.withIl
  have hraised : Capacities s4 := (hsections.expireEntries _ _).raise _
  exact (hraised.discardLatch _).recomputeService

protected theorem restBoundary (h : Capacities s) : Capacities (restBoundary s) := by
  unfold Machine.restBoundary
  split
  · exact h.abandonRest _
  · split
    · exact h.abandonRest _
    · split
      · exact h.abandonRest _
      · exact h.enterRest

protected theorem modeBoundary (h : Capacities s) : Capacities (modeBoundary s) := by
  unfold Machine.modeBoundary
  extract_lets s1
  have hwoken : Capacities s1 := by
    dsimp only [s1]
    split
    · exact h.endWaking
    · exact h
  split
  · exact hwoken.restBoundary
  · exact hwoken

/-! ### Supervision -/

protected theorem speedStep (h : Capacities s) (k old : Nat) (v : Sup) : Capacities (speedStep k old v s) := by
  unfold Machine.speedStep
  split
  · exact (h.updateSup k _).offer _
  · exact h.updateSup k _

protected theorem superviseTrain (h : Capacities s) (k : Nat) : Capacities (superviseTrain k s) := by
  unfold Machine.superviseTrain
  split
  · split
    · extract_lets v s1 s2 s3 s4
      have hspeed : Capacities s2 :=
        Capacities.speedStep (Capacities.ripple (h.updateSup k _) ((Ripples.refl _).interventionStep k _ v)) k _ v
      have hreported : Capacities s3 := hspeed.ripple ((Ripples.refl _).reportToInstances k _ _)
      have hturned : Capacities s4 := by
        dsimp only [s4]
        split
        · exact hreported.ripple ((Ripples.refl _).reverseTrain k)
        · exact hreported
      exact hturned.ripple (((Ripples.refl _).speedNotice k).demoExpiry k)
    · exact h
  · exact h

end Sys2Proof.Machine.Capacities
end

section
/-! PROOFS. The ring and the Route Engine keep the capacities (chapters 3, 4 and 9). -/

namespace Sys2Proof.Machine.Capacities

open Sys2Proof Sys2Proof.Machine

-- One theorem at a time: theorems that wait for each other would hold a thread each.
set_option Elab.async false

variable {s : State}

/-! ### Sweeps -/

protected theorem sweepBoundary (h : Capacities s) : Capacities (sweepBoundary s) := by
  unfold Machine.sweepBoundary
  extract_lets s1 r s2
  have hmode : Capacities s1 := h.modeBoundary
  have hset : Capacities s2 := by
    dsimp only [s2]
    split
    · exact Capacities.raise hmode.withRing _
    · exact hmode
  split
  · exact hset.withRing
  · exact hset

protected theorem settleSweep (h : Capacities s) : Capacities (settleSweep s) := by
  unfold Machine.settleSweep
  split
  · dsimp only
    split
    · exact Capacities.sweepBoundary h.withRing
    · exact h.withRing
  · exact h

protected theorem beginPartial (h : Capacities s) : Capacities (beginPartial s) := Capacities.settleSweep h.withRing

protected theorem beginWhole (h : Capacities s) : Capacities (beginWhole s) := Capacities.beginPartial h.withRing

protected theorem sweepExpiry (h : Capacities s) : Capacities (sweepExpiry s) := by
  unfold Machine.sweepExpiry
  extract_lets r s1 s2 k r2 s3
  have htimed : Capacities s1 := h.withRing
  split
  · have hcounted : Capacities s2 := htimed.count _ _ _
    clear_value s2
    have hpostponed : Capacities s3 := hcounted.withRing
    split
    · exact Capacities.raise hpostponed.withRing _
    · exact hpostponed
  · exact Capacities.beginPartial htimed.withRing

protected theorem ringWake (h : Capacities s) : Capacities (ringWake s) := by
  unfold Machine.ringWake
  extract_lets r s1
  have hset : Capacities s1 := h.withRing
  split
  · exact hset.withRing
  · exact hset.beginWhole

protected theorem afterOutcome (h : Capacities s) : Capacities (afterOutcome s) := by
  unfold Machine.afterOutcome
  extract_lets r s1
  have hdue : Capacities s1 := h.withRing
  split
  · exact hdue.beginWhole
  · exact hdue.settleSweep

protected theorem sendPoll (h : Capacities s) : Capacities (sendPoll s) := by
  unfold Machine.sendPoll
  split
  · split
    · exact h.withRing
    · exact h
  · exact h

protected theorem sendCommand (h : Capacities s) : Capacities (sendCommand s) := by
  unfold Machine.sendCommand
  split
  · split
    · exact Capacities.settleSweep h.withRing
    · rename_i c l hq
      refine Capacities.settleSweep (h.withRing fun hlen => length_queue_refillSlot ?_)
      rw [hq] at hlen
      exact (Nat.le_succ _).trans hlen
    · exact h
  · exact h

/-! ### Modules -/

protected theorem ownerActive (h : Capacities s) (a : Nat) (k : ModKind) : Capacities (ownerActive a k s) := by
  unfold Machine.ownerActive
  split
  · exact h.ripple (((Ripples.refl s).recomputeAll _).resendAspects a)
  · exact h.ripple ((Ripples.refl s).resendLamps a)
  · have hrefresh : Capacities (refreshAll s) := h.ripple (Ripples.refl s).refreshAll
    dsimp only
    split
    · exact hrefresh.offerPower _
    · exact hrefresh
  · exact h

protected theorem ownerFailed (h : Capacities s) (a : Nat) (k : ModKind) : Capacities (ownerFailed a k s) := by
  cases k with
  | detect => exact h.foldl (fun _ n hx => hx.failSection n) _
  | point => exact h.failPoints _
  | signal => exact h.recomputeAll _
  | button => exact h.withDemo
  | deck => exact h.deckModuleFailed
  | traction => exact h.setAllStop _
  | absent => exact h

protected theorem tractionAnswer (h : Capacities s) (flags : Byte) : Capacities (tractionAnswer flags s) := by
  unfold Machine.tractionAnswer
  split
  · exact h.setAllStop _
  · split
    · exact h
    · split
      · exact h.withRing
      · extract_lets r s1
        have hmismatch : Capacities s1 := by
          dsimp only [s1]
          split
          · exact h
          · exact Capacities.raise h.withRing _
        split
        · exact hmismatch
        · exact hmismatch.offerPower _

protected theorem handData (h : Capacities s) (a : Nat) (k : ModKind) (payload : List Byte) :
    Capacities (handData a k payload s) := by
  unfold Machine.handData
  split
  · refine h.foldl (fun x n hx => ?_) _
    split
    · exact hx.filterSection n _
    · exact hx
  · refine h.foldl (fun x n hx => ?_) _
    split
    · exact hx.pointAnswer n _
    · exact hx
  · refine h.foldl (fun x n hx => ?_) _
    split
    · exact hx.ripple ((Ripples.refl x).buttonAnswer n _)
    · exact hx
  · exact h.deckAnswer _ _
  · exact h.tractionAnswer _
  · exact h

protected theorem takeAnswer (h : Capacities s) (a : Nat) (frame : List Byte) : Capacities (takeAnswer a frame s) := by
  unfold Machine.takeAnswer
  extract_lets old s1 r s2 s3 s4
  have hclosed : Capacities s2 := (h.updateModule a _).withRing
  have howned : Capacities s3 := by
    dsimp only [s3]
    split
    · exact hclosed
    · exact ((hclosed.updateModule a _).raise _).ownerActive a _
  have hstored : Capacities s4 := howned.updateModule a _
  exact (hstored.handData a _ _).afterOutcome

protected theorem failModule (h : Capacities s) (a : Nat) : Capacities (failModule a s) := by
  unfold Machine.failModule
  extract_lets k s1 s2 s3
  have hremoved : Capacities s2 := (h.updateModule a _).withRing fun hq =>
    length_queue_refillSlot ((List.length_filter_le _ _).trans hq)
  have hcounted : Capacities s3 := (hremoved.raise _).count _ _ _
  exact hcounted.ownerFailed a k

protected theorem takeMiss (h : Capacities s) (a : Nat) : Capacities (takeMiss a s) := by
  unfold Machine.takeMiss
  extract_lets r s1 m s2
  have hcounted : Capacities s1 := Capacities.count h.withRing _ _ _
  have hmissed : Capacities s2 := by
    dsimp only [s2]
    split
    · split
      · exact hcounted.updateModule a _
      · exact hcounted.failModule a
    · exact hcounted
  exact hmissed.afterOutcome

/-! ### The Route Engine -/

/-- A grant moves the pointer and the batch count (R46). -/
protected theorem afterGrant (h : Capacities s) (m : Member) : Capacities (afterGrant m s) := by
  unfold Machine.afterGrant
  extract_lets batch k
  clear_value batch k
  split
  · exact h.withEngine
  · exact h.withEngine

protected theorem acceptRoute (h : Capacities s) (party : Party) (route slot : Nat) (r : RouteEntry)
    {outcome : State → State} (ho : ∀ x, Capacities x → Capacities (outcome x)) :
    Capacities (acceptRoute party route slot r outcome s) := by
  unfold Machine.acceptRoute
  extract_lets deck taken ovl v s0 s1 s2 s3 s4 s5 s6
  have hplaced : Capacities s0 := h.withIl
  have hsections : Capacities s2 := hplaced.ripple (((Ripples.refl _).absorb slot taken).lockSections slot r taken ovl _)
  have hpoints : Capacities s3 := hsections.lockPoints _
  have hturned : Capacities s4 := by
    dsimp only [s4]
    clear_value deck
    split
    · exact hpoints.startMove _ _ _
    · exact hpoints
  have htold : Capacities s6 := (ho s4 hturned).raise _
  exact htold.ripple (((Ripples.refl s6).recomputeAll _).setTest slot)

protected theorem evaluate (h : Capacities s) (party : Party) (route : Nat) {onFail : Failure → State → State}
    {outcome : Nat → State → State} (hfail : ∀ f, Capacities (onFail f s))
    (ho : ∀ slot x, Capacities x → Capacities (outcome slot x)) : Capacities (evaluate party route onFail outcome s) := by
  unfold Machine.evaluate
  split
  · exact hfail _
  · split
    · exact h.acceptRoute _ _ _ _ (ho _)
    · exact h

protected theorem countRefused (h : Capacities s) (party : Party) (route : Nat) : Capacities (countRefused party route s) :=
  h.count _ _ _

/-- A request joins a retry list that has room and no entry for its route (R56, R57). -/
protected theorem queueBlocked (h : Capacities s) (p : PortId) (route : Nat) (why : Reason) :
    Capacities (queueBlocked p route why s).2 := by
  unfold Machine.queueBlocked
  split
  · exact h
  · rename_i hnew
    split
    · exact h
    · rename_i hroom
      refine Capacities.raise ?_ _
      obtain ⟨hports, hcounters, ⟨hdistricts, -, hring, hdemo⟩, hstore, hheld, hnodup⟩ := h
      have hlen : s.engine.retry.length < 8 := Nat.lt_of_not_le hroom
      have hfresh : route ∉ s.engine.retry.map (·.route) := by simpa using hnew
      refine ⟨hports, hcounters, ⟨hdistricts, ?_, hring, hdemo⟩, hstore, hheld, ?_⟩
      · simp only [State.withEngine_engine, List.length_append, List.length_singleton]
        omega
      · simp only [State.withEngine_engine, List.map_append, List.map_cons, List.map_nil]
        exact List.concat_eq_append ▸ hnodup.concat hfresh

protected theorem refuseSet (h : Capacities s) (p : PortId) (tag : Byte) (route : Nat) (why : Reason) :
    Capacities (refuseSet p tag route why s) := (h.respond p tag _).countRefused _ route

protected theorem portSetFails (h : Capacities s) (p : PortId) (tag : Byte) (route : Nat) (queueable : Bool) (f : Failure) :
    Capacities (portSetFails p tag route queueable f s) := by
  unfold Machine.portSetFails
  split
  · dsimp only
    split
    · exact (h.queueBlocked p route _).refuseSet p tag route _
    · exact (h.queueBlocked p route _).respond p tag _
  · exact h.refuseSet p tag route _

protected theorem portSet (h : Capacities s) (p : PortId) (tag : Byte) (route option : Nat) :
    Capacities (portSet p tag route option s) := by
  unfold Machine.portSet
  split
  · exact h.evaluate _ route (h.portSetFails p tag route false) (fun _ _ hx => hx.respond p tag _)
  · exact h.evaluate _ route (h.portSetFails p tag route true) (fun _ _ hx => hx.respond p tag _)
  · split
    · exact h.refuseSet p tag route _
    · exact (h.respond p tag _).countRefused _ route

protected theorem dropRetry (h : Capacities s) (route : Nat) : Capacities (dropRetry route s) :=
  h.withEngine (by exact (List.filter_sublist).map _)

protected theorem retryFails (h : Capacities s) (e : RetryEntry) (f : Failure) : Capacities (retryFails e f s) := by
  unfold Machine.retryFails
  split
  · rename_i why
    have hsame : (s.engine.retry.map (fun x => if x.route = e.route then { x with eligible := false, reason := why }
        else x)).map (·.route) = s.engine.retry.map (·.route) := by
      rw [List.map_map]
      refine List.map_congr_left fun x _ => ?_
      dsimp only [Function.comp_def]
      split <;> rfl
    exact h.withEngine (by simp only [hsame, List.Sublist.refl])
  · exact ((h.dropRetry e.route).raise _).countRefused _ e.route

protected theorem evalRetry (h : Capacities s) (e : RetryEntry) : Capacities (evalRetry e s) :=
  h.evaluate _ e.route (h.retryFails e) (fun _ _ hx => (hx.dropRetry e.route).raise _)

protected theorem updateRun (h : Capacities s) (f : Run → Run) : Capacities (updateRun f s) := h.withDemo

protected theorem demoSetFails (h : Capacities s) (route : Nat) (f : Failure) : Capacities (demoSetFails route f s) := by
  unfold Machine.demoSetFails
  split
  · exact h.updateRun _
  · exact (h.countRefused .demo route).ripple ((Ripples.refl _).abort _)

protected theorem evalDemo (h : Capacities s) : Capacities (evalDemo s) := by
  unfold Machine.evalDemo
  split
  · split
    · exact h.evaluate _ _ (h.demoSetFails _) (fun _ _ hx => hx.updateRun _)
    · exact h
  · exact h

protected theorem portCancel (h : Capacities s) (p : PortId) (tag : Byte) (route : Nat) :
    Capacities (portCancel p tag route s) := by
  unfold Machine.portCancel
  split
  · exact h.respond p tag _
  · exact (h.ripple ((Ripples.refl s).cancelInst _ _)).respond p tag _

protected theorem evalDemoCancel (h : Capacities s) : Capacities (evalDemoCancel s) := by
  unfold Machine.evalDemoCancel
  split
  · split
    · split
      · exact h.ripple (((Ripples.refl s).cancelInst _ _).leaveCancel _)
      · exact h.ripple ((Ripples.refl s).leaveCancel _)
    · exact h.ripple ((Ripples.refl s).leaveCancel _)
  · exact h

protected theorem setRouteTurn (h : Capacities s) (p : PortId) : Capacities (setRouteTurn p s) := by
  unfold Machine.setRouteTurn
  split
  · split
    · split
      · split
        · exact (h.popHead p).refuseSet p _ _ _
        · exact h
      · split
        · exact ((h.popHead p).portSet p _ _ _).afterGrant _
        · exact h
    · exact h
  · exact h

protected theorem cancelRouteTurn (h : Capacities s) (p : PortId) : Capacities (cancelRouteTurn p s) := by
  unfold Machine.cancelRouteTurn
  split
  · split
    · split
      · split
        · exact (h.popHead p).respond p _ _
        · exact h
      · split
        · exact ((h.popHead p).portCancel p _ _).afterGrant _
        · exact h
    · exact h
  · exact h

protected theorem retryTurn (h : Capacities s) : Capacities (retryTurn s) := by
  unfold Machine.retryTurn
  split
  · split
    · exact (h.evalRetry _).afterGrant _
    · exact h
  · exact h

protected theorem demoSetTurn (h : Capacities s) : Capacities (demoSetTurn s) := by
  unfold Machine.demoSetTurn
  split
  · exact h.evalDemo.afterGrant _
  · exact h

protected theorem demoCancelTurn (h : Capacities s) : Capacities (demoCancelTurn s) := by
  unfold Machine.demoCancelTurn
  split
  · exact h.evalDemoCancel.afterGrant _
  · exact h

end Sys2Proof.Machine.Capacities
end

section
/-! PROOFS. The desk ports keep the capacities: port states, receiving, the request queue, and transmitting (chapter 10). -/

namespace Sys2Proof.Machine

open Sys2Proof

-- One theorem at a time: theorems that wait for each other would hold a thread each.
set_option Elab.async false

variable {s : State} {p : PortId}

/-! ### Port states -/

/-- A port that has left ONLINE: its timers stopped, its hold state and its request queue empty (R168). -/
def leftPort (new : PortState) (q : Port) : Port :=
  { q with state := new, silenceTimer := none, holdTimer := none, holding := false, queue := [] }

/-- Steps 1 and 2 of R168 are one change of the port, but for the record. -/
theorem quiet_left (p : PortId) (new old : PortState) (s : State) :
    quiet (updatePort (raise (.port p new old) (updatePort s p (fun q =>
      { q with state := new, silenceTimer := none, holdTimer := none, holding := false }))) p
        (fun q => { q with queue := [] })) = quiet (updatePort s p (leftPort new)) := by
  refine (quiet_updatePort_congr p (fun q => rfl) (quiet_raise _ _)).trans ?_
  cases p <;> rfl

theorem reports_updatePort {f : Port → Port} (h : Reports s) (hf : PortReports (portAt s p) → PortReports (f (portAt s p))) :
    Reports (updatePort s p f) := by
  obtain ⟨hports, hcounters⟩ := h
  refine ⟨fun q => ?_, hcounters⟩
  by_cases hq : q = p
  · subst hq
    simpa using hf (hports q)
  · rw [portAt_updatePort_other _ _ _ _ hq]
    exact hports q

/-- What keeps the ground keeps the state of every port. -/
theorem ground_portState {t : State} (h : ground t = ground s) (q : PortId) : (portAt t q).state = (portAt s q).state :=
  (congrArg Port.state (ground_port h q) : _)

/-- No district of the eight is left to the port (R41). -/
theorem freeDistricts_spec (p : PortId) (new : PortState) {l : List Nat} (h : Room s) :
    let t := l.foldl (fun s k => if (districtAt s k).holder = some p then
      raise (.district k (.freed p new)) (setDistrict s k { holder := none, demoOk := false }) else s) s
    Room t ∧ (∀ q, (portAt t q).state = (portAt s q).state) ∧ (∀ k ∈ l, (districtAt t k).holder ≠ some p) ∧
      ∀ k q, (districtAt t k).holder = some q → (districtAt s k).holder = some q := by
  induction l generalizing s with
  | nil => exact ⟨h, fun _ => rfl, nofun, fun _ _ => id⟩
  | cons j l ih =>
    have hset : ∀ k q, (districtAt (setDistrict s j { holder := none, demoOk := false }) k).holder = some q →
        k ≠ j ∧ (districtAt s k).holder = some q := fun k q hk => by
      simp only [districtAt, setDistrict, entryAt, State.withIl_il, List.getElem?_set] at hk
      split at hk
      · split at hk <;> cases hk
      · exact ⟨Ne.symm ‹_›, hk⟩
    simp only [List.foldl_cons]
    split
    · have hdrop : Room (setDistrict s j { holder := none, demoOk := false }) := by
        obtain ⟨hports, hcounters, ⟨hdistricts, hlists⟩, hrest⟩ := h
        exact ⟨hports, hcounters, ⟨by simpa [setDistrict] using hdistricts, hlists⟩, hrest⟩
      have hraise := (Ripples.refl (setDistrict s j { holder := none, demoOk := false })).raise (.district j (.freed p new))
      obtain ⟨hroom, hstates, hfree, hkept⟩ := ih (hdrop.ripple hraise)
      have hold : ∀ k q, (districtAt (raise (.district j (.freed p new)) (setDistrict s j { holder := none, demoOk := false }))
          k).holder = some q → k ≠ j ∧ (districtAt s k).holder = some q := fun k q hk => by
        rw [districtAt, ground_districts hraise.same] at hk
        exact hset k q hk
      refine ⟨hroom, fun q => (hstates q).trans (ground_portState hraise.same q), fun k hk => ?_,
        fun k q hk => (hold k q (hkept k q hk)).2⟩
      obtain rfl | hk := List.mem_cons.1 hk
      · exact fun hj => (hold k p (hkept k p hj)).1 rfl
      · exact hfree k hk
    · rename_i hj
      obtain ⟨hroom, hstates, hfree, hkept⟩ := ih h
      refine ⟨hroom, hstates, fun k hk => ?_, hkept⟩
      obtain rfl | hk := List.mem_cons.1 hk
      · exact fun h' => hj (hkept k p h')
      · exact hfree k hk

theorem freeDistricts_all (p : PortId) (new : PortState) (h : Room s) :
    Room (freeDistricts p new s) ∧ (∀ q, (portAt (freeDistricts p new s) q).state = (portAt s q).state) ∧
      (∀ k < 8, (districtAt (freeDistricts p new s) k).holder ≠ some p) ∧
      ∀ k q, (districtAt (freeDistricts p new s) k).holder = some q → (districtAt s k).holder = some q := by
  obtain ⟨hroom, hstates, hfree, hkept⟩ := freeDistricts_spec p new (l := List.range 8) h
  exact ⟨hroom, hstates, fun k hk => hfree k (List.mem_range.2 hk), hkept⟩

/-- The session of a lost port is closed, and nothing else but the record of it (R8). -/
theorem room_loseSession (h : Room s) : Room (loseSession p s) ∧
    (∀ q, (portAt (loseSession p s) q).state = (portAt s q).state) ∧ (loseSession p s).il = s.il := by
  unfold loseSession
  split
  · split
    · have hclosed : Room (s.withStore { s.store with session := none }) := by
        obtain ⟨hports, hcounters, hlists, ⟨hcommitted, -⟩, hnodup⟩ := h
        exact ⟨hports, hcounters, hlists, ⟨hcommitted, fun _ _ hx => by cases hx⟩, hnodup⟩
      have hraise := (Ripples.refl (s.withStore { s.store with session := none })).raise (.mode (.sessionClosed .portLost))
      exact ⟨hclosed.ripple hraise, fun q => ground_portState hraise.same q, raise_il _ _⟩
    · exact ⟨h, fun _ => rfl, rfl⟩
  · exact ⟨h, fun _ => rfl, rfl⟩

/-- A port that leaves ONLINE gives up its districts, so that every holder left is ONLINE (R168). -/
theorem capacities_freed {new : PortState} {t : State} (hleft : Room (updatePort s p (leftPort new)))
    (hheld : HoldersOnline s) (hquiet : quiet t = quiet (updatePort s p (leftPort new))) (hreports : Reports t) :
    Capacities (freeDistricts p new (loseSession p t)) ∧
      (portAt (freeDistricts p new (loseSession p t)) p).state = new := by
  obtain ⟨hroom, hlost, hil⟩ := room_loseSession (p := p) (hleft.quiet hquiet hreports)
  obtain ⟨hfreed, hstates, hfree, hkept⟩ := freeDistricts_all p new hroom
  generalize freeDistricts p new (loseSession p t) = u at *
  have hquietState : ∀ q, (portAt t q).state = (portAt (updatePort s p (leftPort new)) q).state := fun q =>
    (congrArg Port.state (quiet_port hquiet q) : _)
  have hstate : ∀ q, (portAt u q).state = (portAt (updatePort s p (leftPort new)) q).state := fun q =>
    ((hstates q).trans (hlost q)).trans (hquietState q)
  have hnew : (portAt (updatePort s p (leftPort new)) p).state = new := by
    rw [portAt_updatePort_same]
    rfl
  refine ⟨(capacities_iff _).2 ⟨hfreed, fun k q hk => ?_⟩, (hstate p).trans hnew⟩
  have hlt : k < 8 := by
    have hlen : u.il.districts.length = 8 := hfreed.2.2.1.1
    by_contra hge
    rw [districtAt, entryAt, List.getElem?_eq_none (by omega)] at hk
    cases hk
  have hne : q ≠ p := fun heq => hfree k hlt (heq ▸ hk)
  have hbefore : (districtAt t k).holder = some q := by
    have := hkept k q hk
    rwa [districtAt, hil] at this
  rw [hstate q, portAt_updatePort_other _ _ _ _ hne]
  refine hheld k q ?_
  rwa [districtAt, quiet_il hquiet] at hbefore

/-- The retry entries that leave change no port. -/
theorem portState_expireEntries (f : RetryEntry → Bool) (cause : ExpireCause) (s : State) (q : PortId) :
    (portAt (expireEntries f cause s) q).state = (portAt s q).state :=
  ground_portState ((Ripples.refl (s.withEngine { s.engine with
    retry := s.engine.retry.filter (fun e => !f e) })).foldl (fun _ _ hx => hx.raise _) _).same q

/-- The whole work of R168 at a port that was ONLINE. -/
theorem capacities_leaveOnline {new : PortState} (hleft : Room (updatePort s p (leftPort new)))
    (hreports : Reports s) (hheld : HoldersOnline s) :
    Capacities (leaveOnline p new s) ∧ (portAt (leaveOnline p new s) p).state = new := by
  unfold leaveOnline
  extract_lets s1 s2 s3 s4
  have hreports2 : Reports s2 := reports_updatePort (reports_raise _ (reports_updatePort hreports id)) id
  have hquiet : quiet s2 = quiet (updatePort s p (leftPort new)) := quiet_left p new .online s
  clear_value s2
  obtain ⟨hfreed, hstate⟩ := capacities_freed hleft hheld hquiet hreports2
  have htrains : Ripples (freeDistricts p new (loseSession p s2)) s3 := (Ripples.refl _).foldl (fun _ k hx => hx.releaseTrain k) _
  clear_value s3
  have hservice : Capacities s4 := ((hfreed.ripple htrains).expireEntries _ _).recomputeService
  have hstate4 : (portAt s4 p).state = new := (ground_portState (Ripples.refl _).recomputeService.same p).trans
    ((portState_expireEntries _ _ s3 p).trans ((ground_portState htrains.same p).trans hstate))
  clear_value s4
  split
  · refine ⟨hservice.updatePort fun hq => ?_, ?_⟩
    · obtain ⟨h1, -, -, -, h5, h6⟩ := hq
      exact ⟨h1, Nat.zero_le _, Nat.zero_le _, Nat.zero_le _, h5, h6⟩
    · rw [portAt_updatePort_same]
      exact hstate4
  · exact ⟨hservice, hstate4⟩

/-- The record of lost notices keeps the capacities of a port (R176). -/
theorem portFits_appendLost {q : Port} (now : Nat) (hq : PortFits q) : PortFits (appendLost now q) := by
  obtain ⟨hreports, hquiet⟩ := (portFits_iff q).1 hq
  have hsame : quietPort (appendLost now q) = quietPort q := by
    unfold appendLost
    split <;> rfl
  exact (portFits_iff _).2 ⟨portReports_appendLost now hreports, hsame ▸ hquiet⟩

/-- A port that leaves ONLINE keeps its capacities. -/
theorem portFits_leftPort {q : Port} {new : PortState} (h : PortFits q) : PortFits (leftPort new q) ∨ q.state = .isolated := by
  obtain ⟨-, h2, h3, h4, h5, h6 | h6, h7, h8, -⟩ := h
  · exact .inl ⟨Nat.zero_le _, h2, h3, h4, h5, .inl h6, h7, h8, .inr rfl⟩
  · exact .inr h6

namespace Capacities

protected theorem leaveOnline (h : Capacities s) {new : PortState} (honline : (portAt s p).state = .online) :
    Capacities (leaveOnline p new s) ∧ (portAt (leaveOnline p new s) p).state = new := by
  obtain ⟨hroom, hheld⟩ := (capacities_iff s).1 h
  refine capacities_leaveOnline (hroom.updatePort ?_) (reports_of_room hroom) hheld
  exact (portFits_leftPort (h.1 p)).resolve_right (by rw [honline]; nofun)

/-- A port that becomes ONLINE (R166). -/
protected theorem becomeOnline (h : Capacities s) (hquiet : (portAt s p).state ≠ .isolated) :
    Capacities (becomeOnline p s) ∧ (portAt (becomeOnline p s) p).state = .online := by
  have hfits : PortFits (appendLost s.now (restartSilence { portAt s p with state := .online })) := by
    obtain ⟨h1, h2, h3, h4, h5, h6, h7, h8, -⟩ := h.1 p
    have hopen : PortFits (restartSilence { portAt s p with state := .online }) :=
      ⟨h1, h2, h3, h4, h5, .inl (h6.resolve_right hquiet), h7, h8, .inl rfl⟩
    exact portFits_appendLost _ hopen
  have hstate : (appendLost s.now (restartSilence { portAt s p with state := .online })).state = .online := by
    unfold appendLost
    split <;> rfl
  have hopened : Capacities (Machine.updatePort s p (fun q => appendLost s.now (restartSilence { q with state := .online }))) :=
    Capacities.setPort h hfits (fun _ => hstate)
  have hripple := ((Ripples.refl (Machine.updatePort s p (fun q => appendLost s.now (restartSilence
    { q with state := .online })))).raise (.port p .online (portAt s p).state)).recomputeService
  refine ⟨hopened.ripple hripple, (ground_portState hripple.same p).trans ?_⟩
  rw [portAt_updatePort_same]
  exact hstate

end Capacities

/-- What ISOLATED empties keeps the capacities of a port (R168). -/
theorem portFits_emptyForIsolated {q : Port} (h : PortFits q) : PortFits (emptyForIsolated q) := by
  obtain ⟨h1, -, -, -, h5, h6⟩ := h
  exact ⟨h1, Nat.zero_le _, Nat.zero_le _, Nat.zero_le _, h5, h6⟩

/-- A malformed frame counted at a port that is not ISOLATED. -/
def countedPort (q : Port) : Port := { q with malformed := q.malformed + 1 }

/-- The eighth malformed frame isolates the port (R165, R168). -/
theorem capacities_isolate (h : Capacities s) (hquiet : (portAt s p).state ≠ .isolated) :
    Capacities (isolate p (updatePort s p countedPort)) := by
  obtain ⟨hroom, hheld⟩ := (capacities_iff s).1 h
  obtain ⟨h1, h2, h3, h4, h5, -, h7, h8, h9⟩ := h.1 p
  have hlater : ∀ f : Port → Port, updatePort (updatePort s p countedPort) p f = updatePort s p (f ∘ countedPort) := fun f => by
    cases p <;> rfl
  unfold isolate
  dsimp only
  split
  · refine (capacities_leaveOnline ?_ (reports_updatePort (reports_of_room hroom) id) ?_).1
    · rw [hlater]
      exact hroom.updatePort ⟨Nat.zero_le _, h2, h3, h4, h5, .inr rfl, h7, h8, .inr rfl⟩
    · intro k q hk
      by_cases hq : q = p
      · subst hq
        simpa [countedPort] using hheld k q hk
      · rw [portAt_updatePort_other _ _ _ _ hq]
        exact hheld k q hk
  · rename_i hnot
    have hnot' : (portAt s p).state ≠ .online := by simpa [countedPort] using hnot
    have hempty : (portAt s p).queue = [] := h9.resolve_left hnot'
    rw [hlater]
    refine Capacities.updatePort (Capacities.raise (Capacities.setPort h ?_ fun hon => absurd hon hnot') _)
      portFits_emptyForIsolated
    exact ⟨h1, h2, h3, h4, h5, .inr rfl, h7, h8, .inr hempty⟩

namespace Capacities

/-- A malformed frame (R165). -/
protected theorem malformedSeen (h : Capacities s) (p : PortId) : Capacities (malformedSeen p s) := by
  unfold Machine.malformedSeen
  split
  · exact h
  · rename_i hquiet
    dsimp only
    split
    · exact capacities_isolate h hquiet
    · rename_i hfew
      refine h.updatePort fun hp => ?_
      obtain ⟨h1, h2, h3, h4, h5, -, h789⟩ := hp
      have hlt : (portAt s p).malformed + 1 < 8 := by
        rw [portAt_updatePort_same] at hfew
        exact Nat.lt_of_not_le hfew
      exact ⟨h1, h2, h3, h4, h5, .inl (Nat.le_of_lt_succ hlt), h789⟩

/-- A break (R169). -/
protected theorem breakPort (h : Capacities s) (p : PortId) : Capacities (breakPort p s) := by
  have hreset : ∀ tx, PortFits { Port.reset with tx := tx } := fun tx => by
    simp [PortFits, Port.reset, Config.defaultSilence]
  have hclosed : ∀ x : State, Capacities x → (portAt x p).state ≠ .online →
      Capacities (Machine.updatePort x p (fun q => { Port.reset with tx := q.tx })) := fun x hx hoff =>
    Capacities.setPort hx (hreset _) fun hon => absurd hon hoff
  unfold Machine.breakPort
  extract_lets old s1
  by_cases honline : old = .online
  · have hs1 : s1 = Machine.leaveOnline p .offline s := if_pos honline
    rw [hs1]
    obtain ⟨hleft, hstate⟩ := h.leaveOnline honline (new := .offline)
    exact hclosed _ hleft (by rw [hstate]; nofun)
  · by_cases hoffline : old = .offline
    · have hs1 : s1 = s := (if_neg honline).trans (if_pos hoffline)
      rw [hs1]
      exact hclosed s h honline
    · have hs1 : s1 = Machine.raise (.port p .offline old) (Machine.updatePort s p (fun q => { q with state := .offline })) :=
        (if_neg honline).trans (if_neg hoffline)
      rw [hs1]
      refine (hclosed s h honline).quiet ((quiet_updatePort_congr p (fun q => rfl) (quiet_raise _ _)).trans ?_)
        (reports_updatePort (reports_raise (s := Machine.updatePort s p _) _ (reports_updatePort (reports_of_room h.room) id))
          fun _ => ⟨Nat.zero_le _, Nat.zero_le _⟩)
      cases p <;> rfl

end Capacities

end Sys2Proof.Machine
end

section
/-! PROOFS. The requests of the desk ports keep the capacities: frames, the request queue and its services (chapters 1, 2, 5
to 11). -/

namespace Sys2Proof.Machine.Capacities

open Sys2Proof Sys2Proof.Machine

-- One theorem at a time: theorems that wait for each other would hold a thread each.
set_option Elab.async false

variable {s : State}

/-! ### Receiving -/

protected theorem setAssembler (h : Capacities s) (p : PortId) (a : Assembler) : Capacities (setAssembler p a s) :=
  h.updatePort id

protected theorem receive (h : Capacities s) (p : PortId) (c : RxChar) : Capacities (receive p s c) := by
  unfold Machine.receive
  split
  · exact h
  · split
    · split
      · exact h.setAssembler p _
      · exact h
    · dsimp only
      split
      · exact (h.setAssembler p _).malformedSeen p
      · split
        · split
          · exact h.setAssembler p _
          · exact (h.setAssembler p _).malformedSeen p
        · exact h.setAssembler p _

protected theorem receiveAll (h : Capacities s) (p : PortId) (l : List RxChar) : Capacities (l.foldl (receive p) s) :=
  h.foldl (fun _ c hx => hx.receive p c) l

protected theorem gapEnds (h : Capacities s) (p : PortId) : Capacities (gapEnds p s) := by
  unfold Machine.gapEnds
  split
  · exact h
  · exact (h.setAssembler p _).malformedSeen p

/-- A valid frame leaves its port ONLINE with no malformed frames counted (R165, R166). -/
protected theorem takeFrame (h : Capacities s) {p : PortId} {t : State} (ht : takeFrame p s = some t) :
    Capacities t ∧ (portAt t p).state = .online := by
  have hidle := h.setAssembler p .idle
  have hstate : (portAt (setAssembler p .idle s) p).state = (portAt s p).state := by
    rw [setAssembler, portAt_updatePort_same]
  have hcalm : ∀ q : Port, PortFits q → PortFits { q with malformed := 0 } := fun q hq => by
    obtain ⟨h1, h2, h3, h4, h5, -, h7⟩ := hq
    exact ⟨h1, h2, h3, h4, h5, .inl (Nat.zero_le _), h7⟩
  unfold Machine.takeFrame at ht
  dsimp only at ht
  split at ht
  · cases ht
  · rename_i honline
    obtain rfl := Option.some.inj ht
    refine ⟨hidle.updatePort fun hq => hcalm (portAt (setAssembler p .idle s) p) hq, ?_⟩
    rw [portAt_updatePort_same]
    exact hstate.trans honline
  · rename_i hisolated _
    obtain rfl := Option.some.inj ht
    obtain ⟨hopen, hon⟩ := hidle.becomeOnline (hstate ▸ hisolated)
    refine ⟨hopen.updatePort fun hq => hcalm _ hq, ?_⟩
    rw [portAt_updatePort_same]
    exact hon

/-- An immediate request whose work keeps the capacities (R170). -/
protected theorem immediate (h : Capacities s) (p : PortId) (tag : Byte) {work : State → State × Option Answer}
    (hw : ∀ x, Capacities x → Capacities (work x).1) : Capacities (immediate p tag work s) := by
  unfold Machine.immediate
  split
  · exact h
  · rename_i hframe
    have hdone := hw _ (h.takeFrame hframe).1
    split
    · exact hdone.respond p tag _
    · exact hdone

/-! ### The request queue -/

/-- A request joins the queue of an ONLINE port with a free place (R170). -/
theorem portFits_joinQueue {q : Port} (tag : Byte) (r : Request) (hq : PortFits q) (honline : q.state = .online)
    (hfree : q.queue.length < 8) : PortFits (joinQueue tag r q) := by
  obtain ⟨-, h2, h3, h4, h5, h6, h7, h8, -⟩ := hq
  have hjoin : (q.queue ++ [({ tag := tag, req := r } : QueuedRequest)]).length ≤ 8 := by
    simp only [List.length_append, List.length_singleton]
    omega
  unfold joinQueue
  dsimp only
  split
  · exact ⟨hjoin, h2, h3, h4, h5, h6, h7, h8, .inl honline⟩
  · exact ⟨hjoin, h2, h3, h4, h5, h6, h7, h8, .inl honline⟩

protected theorem countQueueFull (h : Capacities s) (p : PortId) (r : Request) : Capacities (countQueueFull p r s) := by
  unfold Machine.countQueueFull
  split
  · exact h.countRefused _ _
  · exact h

protected theorem takeOrdered (h : Capacities s) (p : PortId) (tag : Byte) (r : Request) : Capacities (takeOrdered p tag r s) := by
  unfold Machine.takeOrdered
  split
  · exact h
  · rename_i hframe
    obtain ⟨htaken, honline⟩ := h.takeFrame hframe
    split
    · rename_i hfree
      refine htaken.updatePort (fun hq => portFits_joinQueue tag r hq honline hfree) ?_
      unfold joinQueue
      dsimp only
      split <;> rfl
    · exact (htaken.respond p tag _).countQueueFull p r

/-- What an optional service leaves keeps the capacities. -/
def Kept (o : Option (State × Answer)) : Prop := ∀ x ∈ o, Capacities x.1

theorem kept_none : Kept none := fun _ hx => by cases hx

theorem kept_some {x : State × Answer} (h : Capacities x.1) : Kept (some x) := fun _ hy => by
  obtain rfl := Option.some.inj hy
  exact h

/-- The head of a queue belongs to an ONLINE port, and its service keeps the capacities (R168, R171). -/
protected theorem serveHead (h : Capacities s) (p : PortId) {work : Request → State → Option (State × Answer)}
    (hw : ∀ r, (portAt s p).state = .online → Kept (work r s)) : Capacities (serveHead p work s) := by
  unfold Machine.serveHead
  split
  · exact h
  · rename_i q hhead
    obtain ⟨-, -, -, -, -, -, -, -, hopen⟩ := h.1 p
    have honline : (portAt s p).state = .online := hopen.resolve_right fun hq => by
      rw [headRequest, hq] at hhead
      cases hhead
    split
    · split
      · rename_i hx
        exact ((hw q.req honline _ hx).popHead p).respond p _ _
      · exact h
    · exact h

/-- A request that passes its checks takes effect; one that does not changes nothing. -/
protected theorem checked (h : Capacities s) {l : List (Bool × Answer)} {ok : State → State × Answer}
    (hok : (∀ c ∈ l, c.1 = true) → Capacities (ok s).1) : Capacities (checked l s ok).1 := by
  induction l with
  | nil => exact hok fun _ hc => absurd hc List.not_mem_nil
  | cons c l ih =>
    obtain ⟨good, a⟩ := c
    cases good with
    | true =>
      refine ih fun hl => hok fun c hc => ?_
      obtain rfl | hc := List.mem_cons.1 hc
      · rfl
      · exact hl c hc
    | false => exact h

protected theorem withCode {α : Type} (h : Capacities s) (kind : Nat) (code : Option α) {ok : α → State → State × Answer}
    (hok : ∀ v, Capacities (ok v s).1) : Capacities (withCode kind code s ok).1 := by
  unfold Machine.withCode
  split
  · exact hok _
  · exact h

/-! ### The Layout Store -/

/-- A description whose traction address names a ring address (Table 1-5). -/
def TractionFits (d : Desc) : Prop := ∀ a, d.traction = some a → a ≤ 63

theorem tractionFits_workingOf (h : Capacities s) : TractionFits (workingOf s) := by
  obtain ⟨-, -, -, ⟨hcommitted, hworking⟩, -⟩ := h
  intro a ha
  unfold workingOf at ha
  cases hs : s.store.session with
  | none => exact hcommitted a (by simpa [hs] using ha)
  | some x => exact hworking x a hs (by simpa [hs] using ha)

/-- An edit of the working description that leaves a traction address on the ring (R4). -/
protected theorem editWorking (h : Capacities s) {f : Desc → Desc} (hf : ∀ d, TractionFits d → TractionFits (f d)) :
    Capacities (editWorking f s) := by
  obtain ⟨-, -, -, ⟨hcommitted, hworking⟩, -⟩ := id h
  refine h.withStore ⟨hcommitted, fun y a hy ha => ?_⟩
  obtain ⟨x, hx, rfl⟩ := Option.map_eq_some_iff.1 hy
  exact hf x.working (fun b hb => hworking x b hx hb) a ha

protected theorem load (h : Capacities s) (p : PortId) {checks : List (Bool × Answer)} {f : Desc → Desc}
    (hf : (∀ c ∈ checks, c.1 = true) → ∀ d, TractionFits d → TractionFits (f d)) : Capacities (load p checks f s).1 :=
  h.checked fun hl => h.editWorking (hf fun c hc => hl c (List.mem_append_right _ hc))

/-- LOAD-TRACTION stores an address from 0 to 63 (R4, Table 1-5). -/
protected theorem serveLoadTraction (h : Capacities s) (p : PortId) (erase addr : Nat) :
    Capacities (serveLoadTraction p erase addr s).1 := by
  refine h.load p fun hl d _ a ha => ?_
  have hrange : eraseOr erase (addr ≤ 63) = true := hl _ List.mem_cons_self
  dsimp only at ha
  split at ha
  · cases ha
  · rename_i hkeep
    obtain rfl := Option.some.inj ha
    simp only [eraseOr, Bool.or_eq_true, beq_iff_eq, Bool.and_eq_true, decide_eq_true_eq] at hrange
    exact (hrange.resolve_left hkeep).2

protected theorem serveLoadParameter (h : Capacities s) (p : PortId) (k v : Nat) :
    Capacities (serveLoadParameter p k v s).1 := h.checked fun _ => h.editWorking fun _ hd => hd

protected theorem serveBegin (h : Capacities s) (p : PortId) : Capacities (serveBegin p s).1 := by
  refine h.checked fun _ => Capacities.raise (h.withStore ?_) _
  obtain ⟨-, -, -, ⟨hcommitted, -⟩, -⟩ := h
  exact ⟨hcommitted, fun x a hx ha => hcommitted a (by rwa [← Option.some.inj hx] at ha)⟩

protected theorem serveAbandon (h : Capacities s) (p : PortId) : Capacities (serveAbandon p s).1 := by
  refine h.checked fun _ => Capacities.raise (h.withStore ?_) _
  obtain ⟨-, -, -, ⟨hcommitted, -⟩, -⟩ := h
  exact ⟨hcommitted, fun _ _ hx => by cases hx⟩

/-- A commit empties the lists, and keeps ports, counters and districts (R7). -/
protected theorem commitState (h : Capacities s) {d : Desc} (hd : TractionFits d) : Capacities (commitState d s) := by
  obtain ⟨hports, hcounters, ⟨hdistricts, -⟩, -, hheld, -⟩ := h
  have hclosed : (commitState d s).store.session = none := rfl
  refine ⟨hports, hcounters, ⟨hdistricts, Nat.zero_le _, Nat.zero_le _, Nat.zero_le _⟩, ⟨hd, fun x a hx => ?_⟩, hheld,
    List.nodup_nil⟩
  rw [hclosed] at hx
  cases hx

protected theorem serveCommit (h : Capacities s) (p : PortId) : Capacities (serveCommit p s).1 := by
  refine h.checked fun _ => ?_
  split
  · exact h
  · exact (((h.commitState (tractionFits_workingOf h)).raise _).enterWaking _).recomputeService.beginWhole

/-! ### Modes -/

protected theorem serveRest (h : Capacities s) (p : PortId) : Capacities (serveRest p s).1 := by
  refine h.checked fun _ => ?_
  split
  · exact h
  · exact h.checked fun _ => (h.withCtl _).raise _

protected theorem serveWake (h : Capacities s) : Capacities (serveWake s).1 :=
  h.checked fun _ => (h.enterWaking .wake).ringWake

protected theorem closeService (h : Capacities s) : Capacities (closeService s) := by
  unfold Machine.closeService
  split
  · exact h
  · exact Capacities.raise h.withDemo _

protected theorem reconfigured (h : Capacities s) (p : PortId) : Capacities (reconfigured p s) :=
  Capacities.closeService (((((h.withCtl _).raise _).expireEntries _ _).discardLatch _).withRing)

protected theorem serveReconfigure (h : Capacities s) (p : PortId) : Capacities (serveReconfigure p s).1 :=
  h.checked fun _ => h.reconfigured p

protected theorem serveResume (h : Capacities s) (p : PortId) : Capacities (serveResume p s).1 := by
  unfold Machine.serveResume
  split
  · exact h
  · exact h.checked fun _ => h.clearAllStop p

/-- Reset with the input at either level (R22). -/
protected theorem resetWith (asserted : Bool) (s : State) : Capacities (resetWith asserted s) := resetKeepsCapacities.2

/-! ### Districts, points, trains, the deck and the demonstrations -/

protected theorem serveTake (h : Capacities s) {p : PortId} (honline : (portAt s p).state = .online) (k : Nat) :
    Capacities (serveTake p k s).1 := by
  refine h.checked fun _ => ?_
  split
  · exact (h.setDistrict k (v := { holder := some p, demoOk := false }) fun q hq => Option.some.inj hq ▸ honline).raise _
  · split
    · exact h
    · exact h

protected theorem serveGive (h : Capacities s) (p : PortId) (k : Nat) : Capacities (serveGive p k s).1 :=
  h.checked fun _ => (h.setDistrict k (v := { holder := none, demoOk := false }) fun _ hq => by cases hq).raise _

protected theorem serveFlags (h : Capacities s) (p : PortId) (k v : Nat) : Capacities (serveFlags p k v s).1 := by
  refine h.checked fun _ => h.withCode _ _ fun f => ?_
  dsimp only
  split
  · exact h
  · obtain ⟨-, -, -, -, hheld, -⟩ := id h
    exact (h.setDistrict k (v := { districtAt s k with demoOk := f }) fun q hq => hheld k q hq).raise _

protected theorem serveMovePoint (h : Capacities s) (p : PortId) (n v : Nat) : Capacities (serveMovePoint p n v s).1 :=
  h.checked fun _ => h.withCode _ _ fun _ => h.commandPoint n _

protected theorem servePlace (h : Capacities s) (p : PortId) (k n d : Nat) : Capacities (servePlace p k n d s).1 :=
  h.checked fun _ => h.withCode _ _ fun _ => h.ripple ((Ripples.refl s).placeTrain k n _)

protected theorem serveRemove (h : Capacities s) (p : PortId) (k : Nat) : Capacities (serveRemove p k s).1 := by
  refine h.checked fun _ => ?_
  split
  · exact h
  · exact h.ripple ((Ripples.refl s).removeTrain k)

protected theorem noteTrain (h : Capacities s) (k : Nat) (ev : TrainEvent) : Capacities (noteTrain k ev s) :=
  h.ripple ((Ripples.refl s).noteTrain k ev)

protected theorem serveTakeTrain (h : Capacities s) (p : PortId) (k : Nat) : Capacities (serveTakeTrain p k s).1 := by
  refine h.checked fun _ => ?_
  split
  · exact h
  · exact h.checked fun _ => (h.updateTrain k _).noteTrain k _

protected theorem serveGiveTrain (h : Capacities s) (p : PortId) (k : Nat) : Capacities (serveGiveTrain p k s).1 :=
  h.checked fun _ => h.ripple ((Ripples.refl s).releaseTrain k)

protected theorem serveThrottle (h : Capacities s) (p : PortId) (k v d : Nat) : Capacities (serveThrottle p k v d s).1 := by
  unfold Machine.serveThrottle
  split
  · exact h
  · split
    · exact h
    · split
      · exact h
      · split
        · exact h
        · unfold setThrottle
          dsimp only
          split
          · exact (h.updateTrain k _).abandonRest _
          · exact h.updateTrain k _

protected theorem serveRestore (h : Capacities s) (p : PortId) (k : Nat) : Capacities (serveRestore p k s).1 := by
  refine h.checked fun _ => ?_
  split
  · exact h
  · exact (h.updateTrain k _).noteTrain k _

protected theorem turnNow (h : Capacities s) (p : PortId) (e : DeckEntry) (k v : Nat) : Capacities (turnNow p e k v s).1 := by
  unfold Machine.turnNow
  split
  · exact h
  · refine h.checked fun _ => ?_
    split
    · exact h
    · exact h.withCode _ _ fun _ => h.startMove k _ _

protected theorem latchTurn (h : Capacities s) (p : PortId) (k v : Nat) : Capacities (latchTurn p k v s).1 := by
  unfold Machine.latchTurn
  split
  · exact h
  · exact h.withCode _ _ fun _ => (h.updateDeck _).noteDeck _

protected theorem serveTurnDeck (h : Capacities s) (p : PortId) (k v : Nat) : Capacities (serveTurnDeck p k v s).1 := by
  refine h.checked fun _ => ?_
  split
  · exact h
  · refine h.checked fun _ => ?_
    split
    · exact h.latchTurn p k v
    · exact h.turnNow p _ k v

protected theorem servePass (h : Capacities s) (p : PortId) (n : Nat) : Capacities (servePass p n s).1 := by
  refine h.checked fun _ => ?_
  split
  · exact h.ripple ((Ripples.refl s).acceptEntry n _)
  · exact h
  · exact h
  · exact h

protected theorem serveVeto (h : Capacities s) (p : PortId) (n : Nat) : Capacities (serveVeto p n s).1 := by
  refine h.checked fun _ => ?_
  split
  · exact h.ripple ((((Ripples.refl s).count _ _ _).raise _).leaveQueue n)
  · exact h
  · exact h.ripple ((Ripples.refl s).abort _)
  · exact h

protected theorem admissionExpiry (h : Capacities s) : Capacities (admissionExpiry s) := by
  unfold Machine.admissionExpiry
  split
  · split
    · exact ((h.withSeed _).raise _).ripple ((Ripples.refl _).leaveQueue _)
    · exact h
  · exact h

/-! ### The ring's setting and the counters -/

protected theorem serveSweepMode (h : Capacities s) (m v : Nat) : Capacities (serveSweepMode m v s).1 :=
  h.checked fun _ => h.withRing

protected theorem serveSelect (h : Capacities s) (p : PortId) (c ev q : Nat) : Capacities (serveSelect p c ev q s).1 := by
  unfold Machine.serveSelect
  split
  · exact h.checked fun _ => Capacities.raise (h.withCounters (List.length_set ..) (List.length_set ..)
      (List.length_set ..)) _
  · exact h

protected theorem serveDecrement (h : Capacities s) (c d : Nat) : Capacities (serveDecrement c d s).1 :=
  h.checked fun _ => h.withCounters (List.length_set ..) (List.length_set ..) rfl

/-! ### Transmitting and the timers of a port -/

/-- A NOTICE frame takes records, and one free place may tell of the lost ones (R176, R177). -/
theorem portFits_sendNotices {q : Port} (now seed : Nat) (hq : PortFits q) : PortFits (sendNotices now seed q) := by
  have hdrop : ∀ n tx, PortFits { q with notices := q.notices.drop n, tx := tx } := fun n tx => by
    obtain ⟨h1, h2, h3, h⟩ := hq
    exact ⟨h1, h2, (by simp; omega : (q.notices.drop n).length ≤ 32), h⟩
  unfold sendNotices
  split
  · dsimp only
    split
    · exact portFits_appendLost now (hdrop _ _)
    · exact hdrop _ _
  · exact hq

protected theorem silenceExpiry (h : Capacities s) (p : PortId) : Capacities (silenceExpiry p s) := by
  unfold Machine.silenceExpiry
  split
  · rename_i hruns
    exact (h.leaveOnline hruns.1).1
  · exact h

/-- Every timer of a tick runs on in its place (log entry 2). -/
protected theorem tick (h : Capacities s) : Capacities (tick s) := by
  have hport : ∀ p, portAt (tick s) p = tickPort (portAt s p) := fun p => by cases p <;> rfl
  obtain ⟨hports, hcounters, ⟨hdistricts, hretry, hring, hdemo⟩, hstore, hheld, hnodup⟩ := h
  refine ⟨fun p => hport p ▸ hports p, hcounters,
    ⟨hdistricts, (List.length_map ..).trans_le hretry, hring, (List.length_map ..).trans_le hdemo⟩, hstore,
    fun k p hk => hport p ▸ hheld k p hk, ?_⟩
  have hsame : (tick s).engine.retry.map (·.route) = s.engine.retry.map (·.route) := by
    simp only [tick, List.map_map, Function.comp_def]
  exact hsame ▸ hnodup

end Sys2Proof.Machine.Capacities
end

section
/-! PROOFS. Every step keeps every capacity and holding, command by command. -/

namespace Sys2Proof.Machine

open Sys2Proof

-- One theorem at a time: theorems that wait for each other would hold a thread each.
set_option Elab.async false

variable {s t : State}

/-- What a command leaves keeps the capacities. -/
def Leaves (o : Host.Outcome State Fault Refusal) : Prop := ∀ t, o = .next t → Capacities t

theorem leaves_next (h : Capacities t) : Leaves (.next t) := fun x hx => by
  obtain rfl := Host.Outcome.next.inj hx
  exact h

/-- A command that does something only where its guard holds. -/
theorem leaves_guarded {c : Prop} [Decidable c] (h : Capacities s) (ht : Capacities t) :
    Leaves (.next (if c then t else s)) := by
  split
  · exact leaves_next ht
  · exact leaves_next h

/-- An immediate request. -/
theorem leaves_immediate (h : Capacities s) (p : PortId) (tag : Byte) {work : State → State × Option Answer}
    (hw : ∀ x, Capacities x → Capacities (work x).1) : Leaves (.next (immediate p tag work s)) :=
  leaves_next (h.immediate p tag hw)

/-- A request that only reads. -/
theorem leaves_read (h : Capacities s) (p : PortId) (tag : Byte) (answer : State → Answer) :
    Leaves (.next (immediate p tag (fun x => (x, some (answer x))) s)) :=
  leaves_immediate h p tag fun _ hx => hx

/-- An ordered request at the head of its queue. -/
theorem leaves_serveHead (h : Capacities s) (p : PortId) {work : Request → State → Option (State × Answer)}
    (hw : ∀ r, (portAt s p).state = .online → Capacities.Kept (work r s)) : Leaves (.next (serveHead p work s)) :=
  leaves_next (h.serveHead p hw)

/-! ### The timers and the transmitter of a port -/

theorem portFits_holdExpiry {q : Port} (h : PortFits q) : PortFits (holdExpiry q) := by
  unfold holdExpiry
  split <;> exact h

theorem state_holdExpiry (q : Port) : (holdExpiry q).state = q.state := by
  unfold holdExpiry
  split <;> rfl

theorem portFits_sendHold {q : Port} (h : PortFits q) : PortFits (sendHold q) := by
  unfold sendHold
  split
  · split <;> exact h
  · exact h

theorem state_sendHold (q : Port) : (sendHold q).state = q.state := by
  unfold sendHold
  split
  · split <;> rfl
  · rfl

/-- A response that is sent leaves the list (R172). -/
theorem portFits_sendResponse {q : Port} (h : PortFits q) : PortFits (sendResponse q) := by
  unfold sendResponse
  split
  · rename_i r l hl
    split
    · obtain ⟨h1, h2, h3⟩ := h
      rw [hl, List.length_cons] at h2
      exact ⟨h1, Nat.le_of_succ_le h2, h3⟩
    · exact h
  · exact h

theorem state_sendResponse (q : Port) : (sendResponse q).state = q.state := by
  unfold sendResponse
  split
  · split <;> rfl
  · rfl

theorem state_sendNotices (now seed : Nat) (q : Port) : (sendNotices now seed q).state = q.state := by
  unfold sendNotices appendLost
  split
  · dsimp only
    split
    · split <;> rfl
    · rfl
  · rfl

/-- The silence interval stored is 0 or lies in its range (R167). -/
theorem silenceOf_range (ms : Nat) : silenceOf ms = 0 ∨ 100 ≤ silenceOf ms ∧ silenceOf ms ≤ 5000 := by
  unfold silenceOf clampTo
  split
  · exact .inl rfl
  · right
    split
    · omega
    · split <;> omega

/-- The trigger level stored is one of the four (R177). -/
theorem triggerOf_levels (v : Nat) : triggerOf v = 1 ∨ triggerOf v = 2 ∨ triggerOf v = 4 ∨ triggerOf v = 6 := by
  unfold triggerOf
  split
  · exact .inl rfl
  · split
    · exact .inr (.inl rfl)
    · split
      · exact .inr (.inr (.inl rfl))
      · exact .inr (.inr (.inr rfl))

protected theorem Capacities.serveSetSilence (h : Capacities s) (p : PortId) (ms : Nat) :
    Capacities (serveSetSilence p ms s).1 := h.updatePort fun hq => by
  obtain ⟨h1, h2, h3, h4, h5, h6, h7, -, h9⟩ := hq
  exact ⟨h1, h2, h3, h4, h5, h6, h7, silenceOf_range ms, h9⟩

protected theorem Capacities.serveTrigger (h : Capacities s) (p : PortId) (v : Nat) :
    Capacities (serveTrigger p v s).1 := h.updatePort fun hq => by
  obtain ⟨h1, h2, h3, h4, h5, h6, -, h8⟩ := hq
  exact ⟨h1, h2, h3, h4, h5, h6, triggerOf_levels v, h8⟩

protected theorem Capacities.estopAsserted (h : Capacities s) : Capacities (estopAsserted s) := by
  unfold Machine.estopAsserted
  split
  · exact h
  · exact (h.withCtl _).setAllStop _

/-- A good answer or a miss is taken only in an open window (R151, R152). -/
theorem leaves_window {f : Nat → State} (h : Capacities s) (hf : ∀ a, Capacities (f a)) :
    Leaves (.next (match s.ring.window with | some a => f a | none => s)) := by
  split
  · exact leaves_next (hf _)
  · exact leaves_next h

/-! ### The commands -/

/-- Every command keeps the capacities. -/
theorem leaves_exec (h : Capacities s) (i : Instr) : Leaves (exec i s) := by
  cases i with
  | powerOnReset asserted => exact leaves_next (Capacities.resetWith asserted s)
  | emergencyStopAsserted => exact leaves_next h.estopAsserted
  | emergencyStopReleased => exact leaves_next (h.withCtl _)
  | breakLine p => exact leaves_next (h.breakPort p)
  | malformedFrame p chars => exact leaves_next (h.receiveAll p chars)
  | frameGapTimeout p chars next => exact leaves_next (((h.receiveAll p chars).gapEnds p).receive p next)
  | silenceTimeout p => exact leaves_next (h.silenceExpiry p)
  | orderedRequest p tag req => exact leaves_next (h.takeOrdered p tag req)
  | holdTimerExpiry p => exact leaves_next (h.updatePort portFits_holdExpiry (state_holdExpiry _))
  | holdOffExpiry p => exact leaves_next (h.updatePort id)
  | transmitHold p => exact leaves_next (h.updatePort portFits_sendHold (state_sendHold _))
  | transmitResponse p => exact leaves_next (h.updatePort portFits_sendResponse (state_sendResponse _))
  | transmitNotice p => exact leaves_next ((h.updatePort (Capacities.portFits_sendNotices _ _) (state_sendNotices _ _ _)).withSeed _)
  | beginConfig p =>
    exact leaves_serveHead h p fun _ _ => by split; exacts [Capacities.kept_some (h.serveBegin p), Capacities.kept_none]
  | loadSection p =>
    exact leaves_serveHead h p fun _ _ => by split; exacts [Capacities.kept_some (h.load p fun _ _ hd => hd), Capacities.kept_none]
  | loadPoint p =>
    exact leaves_serveHead h p fun _ _ => by split; exacts [Capacities.kept_some (h.load p fun _ _ hd => hd), Capacities.kept_none]
  | loadSignal p =>
    exact leaves_serveHead h p fun _ _ => by split; exacts [Capacities.kept_some (h.load p fun _ _ hd => hd), Capacities.kept_none]
  | loadRoute p =>
    exact leaves_serveHead h p fun _ _ => by split; exacts [Capacities.kept_some (h.load p fun _ _ hd => hd), Capacities.kept_some (h.load p fun _ _ hd => hd), Capacities.kept_none]
  | loadRoutePoints p =>
    exact leaves_serveHead h p fun _ _ => by split; exacts [Capacities.kept_some (h.load p fun _ _ hd => hd), Capacities.kept_some (h.load p fun _ _ hd => hd), Capacities.kept_none]
  | loadDistrict p =>
    exact leaves_serveHead h p fun _ _ => by split; exacts [Capacities.kept_some (h.load p fun _ _ hd => hd), Capacities.kept_none]
  | loadDeck p =>
    exact leaves_serveHead h p fun _ _ => by split; exacts [Capacities.kept_some (h.load p fun _ _ hd => hd), Capacities.kept_none]
  | loadDeckRoad p =>
    exact leaves_serveHead h p fun _ _ => by split; exacts [Capacities.kept_some (h.load p fun _ _ hd => hd), Capacities.kept_none]
  | loadTrain p =>
    exact leaves_serveHead h p fun _ _ => by split; exacts [Capacities.kept_some (h.load p fun _ _ hd => hd), Capacities.kept_none]
  | loadPlan p =>
    exact leaves_serveHead h p fun _ _ => by split; exacts [Capacities.kept_some (h.load p fun _ _ hd => hd), Capacities.kept_some (h.load p fun _ _ hd => hd), Capacities.kept_none]
  | loadTraction p =>
    exact leaves_serveHead h p fun _ _ => by split; exacts [Capacities.kept_some (h.serveLoadTraction p _ _), Capacities.kept_none]
  | loadPortRoles p =>
    exact leaves_serveHead h p fun _ _ => by split; exacts [Capacities.kept_some (h.load p fun _ _ hd => hd), Capacities.kept_none]
  | loadParameter p =>
    exact leaves_serveHead h p fun _ _ => by split; exacts [Capacities.kept_some (h.serveLoadParameter p _ _), Capacities.kept_none]
  | commitConfig p =>
    exact leaves_serveHead h p fun _ _ => by split; exacts [Capacities.kept_some (h.serveCommit p), Capacities.kept_none]
  | abandonConfig p =>
    exact leaves_serveHead h p fun _ _ => by split; exacts [Capacities.kept_some (h.serveAbandon p), Capacities.kept_none]
  | readDescription p tag table item => exact leaves_read h p tag _
  | rest p =>
    exact leaves_serveHead h p fun _ _ => by split; exacts [Capacities.kept_some (h.serveRest p), Capacities.kept_none]
  | wake p =>
    exact leaves_serveHead h p fun _ _ => by split; exacts [Capacities.kept_some (h.serveWake), Capacities.kept_none]
  | reconfigure p =>
    exact leaves_serveHead h p fun _ _ => by split; exacts [Capacities.kept_some (h.serveReconfigure p), Capacities.kept_none]
  | allStop p tag => exact leaves_immediate h p tag fun _ hx => hx.setAllStop _
  | resume p tag => exact leaves_immediate h p tag fun _ hx => hx.serveResume p
  | readMode p tag => exact leaves_read h p tag _
  | present p tag => exact leaves_immediate h p tag fun _ hx => hx
  | setSilence p tag ms => exact leaves_immediate h p tag fun _ hx => hx.serveSetSilence p ms
  | holdOff p tag quanta => exact leaves_immediate h p tag fun _ hx => hx.updatePort id
  | setSubscription p tag mask => exact leaves_immediate h p tag fun _ hx => hx.updatePort id
  | setTrigger p tag value => exact leaves_immediate h p tag fun _ hx => hx.serveTrigger p value
  | takeDistrict p =>
    exact leaves_serveHead h p fun _ honline => by split; exacts [Capacities.kept_some (h.serveTake honline _), Capacities.kept_none]
  | giveDistrict p =>
    exact leaves_serveHead h p fun _ _ => by split; exacts [Capacities.kept_some (h.serveGive p _), Capacities.kept_none]
  | setDistrictFlags p =>
    exact leaves_serveHead h p fun _ _ => by split; exacts [Capacities.kept_some (h.serveFlags p _ _), Capacities.kept_none]
  | movePoint p =>
    exact leaves_serveHead h p fun _ _ => by split; exacts [Capacities.kept_some (h.serveMovePoint p _ _), Capacities.kept_none]
  | setRoute p => exact leaves_next (h.setRouteTurn p)
  | cancelRoute p => exact leaves_next (h.cancelRouteTurn p)
  | retryEntryEvaluation => exact leaves_next h.retryTurn
  | demoSetRoute => exact leaves_next h.demoSetTurn
  | demoCancelRoute => exact leaves_next h.demoCancelTurn
  | placeTrain p =>
    exact leaves_serveHead h p fun _ _ => by split; exacts [Capacities.kept_some (h.servePlace p _ _ _), Capacities.kept_none]
  | removeTrain p =>
    exact leaves_serveHead h p fun _ _ => by split; exacts [Capacities.kept_some (h.serveRemove p _), Capacities.kept_none]
  | takeTrain p =>
    exact leaves_serveHead h p fun _ _ => by split; exacts [Capacities.kept_some (h.serveTakeTrain p _), Capacities.kept_none]
  | giveTrain p =>
    exact leaves_serveHead h p fun _ _ => by split; exacts [Capacities.kept_some (h.serveGiveTrain p _), Capacities.kept_none]
  | throttle p tag k value direction => exact leaves_immediate h p tag fun _ hx => hx.serveThrottle p k value direction
  | restoreTrain p =>
    exact leaves_serveHead h p fun _ _ => by split; exacts [Capacities.kept_some (h.serveRestore p _), Capacities.kept_none]
  | turnDeck p =>
    exact leaves_serveHead h p fun _ _ => by split; exacts [Capacities.kept_some (h.serveTurnDeck p _ _), Capacities.kept_none]
  | passDemo p =>
    exact leaves_serveHead h p fun _ _ => by split; exacts [Capacities.kept_some (h.servePass p _), Capacities.kept_none]
  | vetoDemo p =>
    exact leaves_serveHead h p fun _ _ => by split; exacts [Capacities.kept_some (h.serveVeto p _), Capacities.kept_none]
  | setSweepMode p =>
    exact leaves_serveHead h p fun _ _ => by split; exacts [Capacities.kept_some (h.serveSweepMode _ _), Capacities.kept_none]
  | selectCounter p =>
    exact leaves_serveHead h p fun _ _ => by split; exacts [Capacities.kept_some (h.serveSelect p _ _ _), Capacities.kept_none]
  | decrementCounter p =>
    exact leaves_serveHead h p fun _ _ => by split; exacts [Capacities.kept_some (h.serveDecrement _ _), Capacities.kept_none]
  | readCounters p tag => exact leaves_read h p tag _
  | readSection p tag n => exact leaves_read h p tag _
  | readPoint p tag n => exact leaves_read h p tag _
  | readSignal p tag n => exact leaves_read h p tag _
  | readDistricts p tag => exact leaves_read h p tag _
  | readInstance p tag slot => exact leaves_read h p tag _
  | readRouteEngine p tag => exact leaves_read h p tag _
  | readTrain p tag k => exact leaves_immediate h p tag fun _ hx => hx.withSeed _
  | readSupervision p tag k => exact leaves_immediate h p tag fun _ hx => hx.withSeed _
  | readDeck p tag => exact leaves_read h p tag _
  | readDemo p tag => exact leaves_read h p tag _
  | readModule p tag a => exact leaves_read h p tag _
  | readRing p tag => exact leaves_read h p tag _
  | readPort p tag named => exact leaves_read h p tag _
  | sweepTimerExpiry => exact leaves_guarded h h.sweepExpiry
  | postponedPartialSweep => exact leaves_guarded h h.beginPartial
  | poll => exact leaves_next h.sendPoll
  | goodAnswer frame =>
    refine leaves_window h fun a => ?_
    split
    · exact h.takeAnswer a frame
    · exact h
  | miss received =>
    refine leaves_window h fun a => ?_
    split
    · exact h
    · exact h.takeMiss a
  | ringCommandSent => exact leaves_next h.sendCommand
  | supervisionExpiry k => exact leaves_next (h.superviseTrain k)
  | pointMoveTimeout n => exact leaves_guarded h (h.pointTimeout n)
  | approachReleaseExpirySet slot => exact leaves_guarded h (h.ripple ((Ripples.refl s).releaseAtOnce slot _))
  | approachReleaseExpiryOccupied slot => exact leaves_guarded h (h.ripple ((Ripples.refl s).expireOccupied slot))
  | overlapReleaseTimeout slot => exact leaves_guarded h (h.ripple ((Ripples.refl s).overlapExpiry slot))
  | retryLifetimeExpiry route => exact leaves_next (h.expireEntries _ _)
  | deckMoveTimeout => exact leaves_next h.moveTimeout
  | screeningTimeout n => exact leaves_guarded h (h.ripple ((Ripples.refl s).acceptEntry n _))
  | admissionTimeout => exact leaves_next h.admissionExpiry
  | runLimitExpiry => exact leaves_guarded h (h.ripple ((Ripples.refl s).abort _))

/-- Settles O6: a command keeps the capacities by `leaves_exec`, which rests on one lemma for each piece of work; a tick
runs every timer on in its place. -/
theorem stepKeepsCapacities : Obligations.StepKeepsCapacities := by
  intro s t h hstep
  unfold step at hstep
  split at hstep
  · rename_i c rest _
    exact leaves_exec (s := { s with pending := rest }) h c t hstep
  · exact leaves_next h.tick t hstep

end Sys2Proof.Machine
end

section
/-! PROOFS. The millisecond that passes on an empty queue, and the districts (chapter 2). -/

namespace Sys2Proof.Machine

open Sys2Proof

variable {s : State}

/-! ### The clock -/

theorem lessOne_eq (o : Option Nat) : lessOne o = o.map (· - 1) := by cases o <;> rfl

theorem portAt_tick (s : State) (p : PortId) : portAt (tick s) p = tickPort (portAt s p) := by cases p <;> rfl

/-- Settles O2: the tick maps every table entry by entry, so that what a table holds at a number is mapped too. -/
theorem emptyQueueLetsOneMillisecondPass : Obligations.EmptyQueueLetsOneMillisecondPass := by
  intro s hempty
  have hstep : step s = .next (tick s) := by rw [step, hempty]
  refine ⟨tick s, hstep, rfl, ?_, rfl, rfl, rfl, rfl, rfl, rfl, rfl, fun n => ?_, fun i => ?_, fun n => ?_, rfl, ?_, rfl, ?_,
    fun p => ?_⟩
  · simp [tick, hempty]
  · refine (findItem_map_entry s.il.points (fun x => { x with timer := lessOne x.timer }) n).trans ?_
    simp only [lessOne_eq, ptAt]
  · simp only [instAt, tick, findItem_map_entry]
  · simp only [trainAt, tick, findItem_map_entry]
  · simp only [tick, lessOne_eq]
  · simp only [tick, lessOne_eq]
  · simp only [portAt_tick, tickPort, lessOne_eq]

/-! ### Districts -/

/-- A district that some port holds is one of the districts. -/
theorem lt_districts_of_holder {k : Nat} {p : PortId} (h : (districtAt s k).holder = some p) :
    k < s.il.districts.length := by
  by_contra hge
  rw [districtAt, entryAt, List.getElem?_eq_none (Nat.le_of_not_lt hge)] at h
  cases h

theorem districtAt_setDistrict_same {k : Nat} (v : District) (h : k < s.il.districts.length) :
    districtAt (setDistrict s k v) k = v := by
  simp [districtAt, setDistrict, entryAt, h]

theorem districtAt_setDistrict_other {k j : Nat} (v : District) (h : j ≠ k) :
    districtAt (setDistrict s k v) j = districtAt s j := by
  simp [districtAt, setDistrict, entryAt, List.getElem?_set_ne h.symm]

/-- A district changed, told and answered (R38 to R40). -/
theorem quiet_served_district (p : PortId) (tag : Byte) (a : Answer) (k : Nat) (v : District) (n : Notice) (s : State) :
    quiet (served p tag (raise n (setDistrict s k v), a)) =
      quiet (answered p tag a (s.withIl { s.il with districts := s.il.districts.set k v })) :=
  quiet_served_congr p tag a (quiet_raise n _)

theorem quiet_withIl_congr {t : State} (v : Interlock) (h : quiet t = quiet s) : quiet (t.withIl v) = quiet (s.withIl v) := by
  have hpush : ∀ x : State, quiet (x.withIl v) = (quiet x).withIl v := fun x => by cases x; rfl
  rw [hpush, hpush, h]

/-- The Interlocking Unit changes before or after an answer alike. -/
theorem answered_withIl (p : PortId) (tag : Byte) (a : Answer) (v : Interlock) (s : State) :
    answered p tag a (s.withIl v) = (answered p tag a s).withIl v := by
  have hpop : popHead p (s.withIl v) = (popHead p s).withIl v := by cases p <;> rfl
  rw [answered, hpop]
  exact respond_comm p tag a (f := fun x => x.withIl v) (fun r x => by cases p <;> rfl) _

theorem answered_il (p : PortId) (tag : Byte) (a : Answer) (s : State) : (answered p tag a s).il = s.il := respond_il p tag a _

/-- Beside the Interlocking Unit an answer is the same after any change of that unit. -/
theorem quiet_answered_withIl (p : PortId) (tag : Byte) (a : Answer) (v : Interlock) (s : State) :
    quiet ((answered p tag a (s.withIl v)).withIl s.il) = quiet (answered p tag a s) := by
  have hback : ((answered p tag a s).withIl v).withIl s.il = answered p tag a s := by
    rw [← answered_il p tag a s]
    rfl
  rw [answered_withIl, hback]

/-- Settles O30: the one check of the number, then the four cases of the holder. -/
theorem takeDistrict : Obligations.TakeDistrict := by
  intro p tag k s h
  refine ⟨_, exec_serves rfl h rfl, fun hk => ?_, fun hk hfree => ?_, fun hk hown => ?_, fun q hk hother hq => ?_⟩
  · simp [serveTake, districtIn, Nat.not_lt.2 hk, refuse]
  · simp only [serveTake, districtIn, hk, decide_true, checked, hfree]
    exact quiet_served_district p tag _ k _ _ s
  · simp [serveTake, districtIn, hk, checked, hown, done]
  · simp [serveTake, districtIn, hk, checked, hother, hq]

/-- The two checks that GIVE-DISTRICT and SET-DISTRICT-FLAGS begin with, in order (R39, R40). -/
theorem checked_held (s : State) (p : PortId) (k : Nat) (ok : State → State × Answer) :
    let checks := [districtIn k, ((districtAt s k).holder == some p, refuse .notHolder)]
    (8 ≤ k → checked checks s ok = (s, .refused .unknownItem .none)) ∧
    (k < 8 → (districtAt s k).holder ≠ some p → checked checks s ok = (s, .refused .notHolder .none)) ∧
    (k < 8 → (districtAt s k).holder = some p → checked checks s ok = ok s) := by
  refine ⟨fun hk => ?_, fun hk hother => ?_, fun hk hown => ?_⟩
  · simp [checked, districtIn, Nat.not_lt.2 hk, refuse]
  · simp [checked, districtIn, hk, hother, refuse]
  · simp [checked, districtIn, hk, hown]

/-- Only the codes 0 and 1 name a flag (R40). -/
theorem flagOfCode_eq (v : Nat) : flagOfCode v = if v ≤ 1 then some (decide (v = 1)) else none := by
  match v with
  | 0 => rfl
  | 1 => rfl
  | n + 2 => rfl

/-- The work of SET-DISTRICT-FLAGS at a port that holds the district, for a flag (R40). -/
def setFlag (p : PortId) (k : Nat) (f : Bool) (s : State) : State × Answer :=
  if (districtAt s k).demoOk = f then (s, done)
  else (raise (.district k (.flags p f)) (setDistrict s k { districtAt s k with demoOk := f }), done)

/-- SET-DISTRICT-FLAGS by its checks and by the flag's code, which is looked at behind them (R40, log entry 3). -/
theorem serveFlags_cases (s : State) (p : PortId) (k v : Nat) :
    (8 ≤ k → serveFlags p k v s = (s, .refused .unknownItem .none)) ∧
    (k < 8 → (districtAt s k).holder ≠ some p → serveFlags p k v s = (s, .refused .notHolder .none)) ∧
    (k < 8 → (districtAt s k).holder = some p → 2 ≤ v → serveFlags p k v s = (s, refuseCode 0x22)) ∧
    (k < 8 → (districtAt s k).holder = some p → v ≤ 1 → serveFlags p k v s = setFlag p k (decide (v = 1)) s) := by
  obtain ⟨hunknown, hother, hown⟩ := checked_held s p k (fun s => withCode 0x22 (flagOfCode v) s (fun f s => setFlag p k f s))
  refine ⟨hunknown, hother, fun hk hp hv => ?_, fun hk hp hv => ?_⟩
  · exact (hown hk hp).trans (by rw [flagOfCode_eq, if_neg (by omega), withCode_none])
  · exact (hown hk hp).trans (by rw [flagOfCode_eq, if_pos hv, withCode_some])

/-- The flag takes the value asked, told or not (R40). -/
theorem setFlag_spec {p : PortId} {k : Nat} (f : Bool) (hown : (districtAt s k).holder = some p) :
    ∃ x, setFlag p k f s = (x, done) ∧ quiet x = quiet (setDistrict s k { districtAt s k with demoOk := f }) := by
  unfold setFlag
  split
  · rename_i hsame
    have hlt := lt_districts_of_holder hown
    have hentry : districtAt s k = s.il.districts[k] := by simp [districtAt, entryAt, hlt]
    have hset : setDistrict s k (districtAt s k) = s := by
      rw [setDistrict, hentry, List.set_getElem_self]
      rfl
    exact ⟨s, rfl, by rw [← hsame]; exact congrArg quiet hset.symm⟩
  · exact ⟨_, rfl, quiet_raise _ _⟩

/-- Settles O31: both requests begin with the same two checks, and the flag's code is looked at behind them. -/
theorem giveDistrictAndFlags : Obligations.GiveDistrictAndFlags := by
  intro p tag k s
  refine ⟨fun h => ?_, fun v h => ?_⟩
  · obtain ⟨hunknown, hother, hown⟩ := checked_held s p k (fun s =>
      (raise (.district k (.given p)) (setDistrict s k { holder := none, demoOk := false }), done))
    refine ⟨_, exec_serves rfl h rfl, fun hk => ?_, fun hk hne => ?_, fun hk hp => ?_⟩
    · rw [serveGive, hunknown hk, served_same]
    · rw [serveGive, hother hk hne, served_same]
    · rw [serveGive, hown hk hp]
      exact quiet_served_district p tag _ k _ _ s
  · obtain ⟨hunknown, hother, hcode, hown⟩ := serveFlags_cases s p k v
    refine ⟨_, exec_serves rfl h rfl, fun hk => ?_, fun hk hne => ?_, fun hk hp hv => ?_, fun hk hp hv => ?_⟩
    · rw [hunknown hk, served_same]
    · rw [hother hk hne, served_same]
    · rw [hcode hk hp hv, served_same]
      exact ⟨_, rfl⟩
    · obtain ⟨x, hx, hquiet⟩ := setFlag_spec (decide (v = 1)) hp
      have hlt := lt_districts_of_holder hp
      have hil : (served p tag (x, done)).il = (setDistrict s k { districtAt s k with demoOk := decide (v = 1) }).il :=
        (respond_il p tag _ _).trans ((popHead_il p x).trans (quiet_il hquiet))
      have hdistrict : ∀ j, districtAt (served p tag (x, done)) j =
          districtAt (setDistrict s k { districtAt s k with demoOk := decide (v = 1) }) j := fun j => by
        simp only [districtAt, hil]
      rw [hown hk hp hv, hx, hdistrict, districtAt_setDistrict_same _ hlt, hil]
      refine ⟨rfl, hp, fun j hj => ?_, ?_, rfl, rfl, rfl, rfl⟩
      · rw [hdistrict, districtAt_setDistrict_other _ hj]
      · exact (quiet_withIl_congr s.il (quiet_served_congr p tag done hquiet)).trans (quiet_answered_withIl p tag done _ s)

end Sys2Proof.Machine
end

section
/-! PROOFS. The occupancy filter of the sections, and the aspects of the signals (chapter 2). -/

namespace Sys2Proof.Machine

open Sys2Proof

-- One theorem at a time: theorems that wait for each other would hold a thread each.
set_option Elab.async false

variable {s : State}

/-! ### Modules -/

/-- A module that is in the table is changed in its place. -/
theorem moduleAt_updateModule_same {a : Nat} (f : Module → Module) (h : (findItem s.ring.modules a).isSome = true) :
    moduleAt (updateModule s a f) a = f (moduleAt s a) := by
  obtain ⟨m, hm⟩ := Option.isSome_iff_exists.1 h
  simp [moduleAt, updateModule, hm]

theorem moduleAt_updateModule_other {a b : Nat} (f : Module → Module) (h : b ≠ a) :
    moduleAt (updateModule s a f) b = moduleAt s b := by
  simp [moduleAt, updateModule, findItem_updateItem_other _ _ _ _ h]

/-! ### The occupancy filter (R23) -/

theorem secAt_setClearCount (n v m : Nat) (s : State) : secAt (setClearCount n v s) m = secAt s m := by
  unfold setClearCount
  split <;> rfl

/-- The clear count of a section whose module keeps one for its input. -/
theorem clearCountOf_setClearCount {n : Nat} {e : SectionEntry} (v : Nat) (he : secEntry s n = some e)
    (hm : (findItem s.ring.modules e.addr).isSome = true) (hin : e.input < (moduleAt s e.addr).clearCounts.length) :
    clearCountOf (setClearCount n v s) n = v := by
  have hset : setClearCount n v s = updateModule s e.addr (fun m => { m with clearCounts := m.clearCounts.set e.input v }) := by
    simp [setClearCount, he]
  have hentry : secEntry (setClearCount n v s) n = some e := by
    rw [hset]
    exact he
  have hmod : moduleAt (setClearCount n v s) e.addr =
      { moduleAt s e.addr with clearCounts := (moduleAt s e.addr).clearCounts.set e.input v } := by
    rw [hset, moduleAt_updateModule_same _ hm]
  simp [clearCountOf, hentry, hmod, entryAt, List.getElem?_set_self hin]

/-- A change of occupancy stores it, and no clear count changes with it (R25). -/
theorem occupancyChanged_stored {n : Nat} {st : SecState} (occ : Occupancy) (h : secAt s n = some st) :
    (secAt (occupancyChanged n occ s) n).map (·.occ) = some occ ∧
      clearCountOf (occupancyChanged n occ s) n = clearCountOf s n := by
  have hsame := (Ripples.occupancyChanged s n occ).same
  constructor
  · rw [ground_secAt hsame, secAt, updateSec, State.withIl_il, findItem_updateItem_same, ← secAt, h]
    rfl
  · have hstore : (occupancyChanged n occ s).store = s.store := (ground_store hsame).trans rfl
    have hmodules : (occupancyChanged n occ s).ring.modules = s.ring.modules := (ground_modules hsame).trans rfl
    simp only [clearCountOf, secEntry, desc, moduleAt, hstore, hmodules]

/-- Settles O34: the four cases of the filter, of which two change the occupancy and all set the clear count. -/
theorem occupancyFilter : Obligations.OccupancyFilter := by
  intro n shown st e s hst he hm hin
  have hcount : ∀ v, clearCountOf (setClearCount n v s) n = v := fun v => clearCountOf_setClearCount v he hm hin
  have hsec : ∀ v, secAt (setClearCount n v s) n = some st := fun v => (secAt_setClearCount n v n s).trans hst
  have hchanged : ∀ occ, (secAt (occupancyChanged n occ (setClearCount n 0 s)) n).map (·.occ) = some occ ∧
      clearCountOf (occupancyChanged n occ (setClearCount n 0 s)) n = 0 := fun occ => by
    obtain ⟨hocc, hkept⟩ := occupancyChanged_stored occ (hsec 0)
    exact ⟨hocc, hkept.trans (hcount 0)⟩
  cases hocc : st.occ <;> cases shown
  · simp [filterSection, hst, hocc, hcount, hsec]
  · simpa [filterSection, hst, hocc] using hchanged .occupied
  · by_cases hzero : clearCountOf s n = 0
    · simp [filterSection, hst, hocc, hzero, hcount, hsec]
    · simpa [filterSection, hst, hocc, hzero] using hchanged .clear
  · simp [filterSection, hst, hocc, hcount, hsec]

/-! ### Aspects (R35, R36) -/

/-- The deck stands as a route requires (R35). -/
theorem deckMeets_iff (r : RouteEntry) : deckMeets s r = true ↔
    (r.deckReq.isSome = true → (deckAligned s).isSome = true ∧ deckAligned s = routeTarget s r) := by
  unfold deckMeets
  cases hr : r.deckReq with
  | none => simp
  | some q =>
    simp only [Bool.and_eq_true, beq_iff_eq, Option.isSome_some, true_implies]
    constructor
    · rintro ⟨htarget, heq⟩
      exact ⟨heq ▸ htarget, heq⟩
    · rintro ⟨haligned, heq⟩
      exact ⟨heq ▸ haligned, heq⟩

/-- An instance makes its entry signal proceed-able exactly when it vouches for it (R35). -/
theorem vouchedBy_iff (sig slot : Nat) (i : Inst) (r : RouteEntry) (hr : routeAt s i.route = some r) :
    VouchedBy s sig slot i r ↔
      (slot, i) ∈ s.il.instances ∧ entrySignal s i = some sig ∧ instProceeds s slot i = true := by
  have hmodule : (match findItem (desc s).signals r.entry with | some g => moduleActive s g.addr | none => false) = true ↔
      ∃ g, findItem (desc s).signals r.entry = some g ∧ moduleActive s g.addr = true := by
    cases findItem (desc s).signals r.entry <;> simp
  have hlocked : ∀ a b : Bool, (!a || b) = true ↔ (a = true → b = true) := by decide
  simp only [VouchedBy, entrySignal, instProceeds, hr, Option.map_some, Option.some.injEq, Bool.and_eq_true, beq_iff_eq,
    List.all_eq_true, hlocked, deckMeets_iff, true_and]
  constructor
  · rintro ⟨hmem, rfl, hset, hsignal, hsecs, hovl, hpts, hdeck⟩
    exact ⟨hmem, rfl, ⟨⟨⟨⟨hset, hsecs⟩, hovl⟩, hpts⟩, hdeck⟩, hmodule.2 hsignal⟩
  · rintro ⟨hmem, rfl, ⟨⟨⟨⟨hset, hsecs⟩, hovl⟩, hpts⟩, hdeck⟩, hsignal⟩
    exact ⟨hmem, rfl, hset, hmodule.1 hsignal, hsecs, hovl, hpts, hdeck⟩

/-- The instance that a proceed-able signal shows proceed for vouches for it. -/
theorem vouchedBy_of_proceedSlot {sig slot : Nat} {i : Inst} (h : proceedSlot s sig = some (slot, i)) :
    ∃ r, VouchedBy s sig slot i r := by
  have hmem := List.mem_of_find?_eq_some h
  have hgood := List.find?_some h
  simp only [Bool.and_eq_true, beq_iff_eq] at hgood
  obtain ⟨r, hr, -⟩ := Option.map_eq_some_iff.1 hgood.1
  exact ⟨r, (vouchedBy_iff sig slot i r hr).2 ⟨hmem, hgood⟩⟩

theorem proceedable_iff (sig : Nat) : proceedable s sig = true ↔ Vouched s sig := by
  constructor
  · intro h
    obtain ⟨⟨slot, i⟩, hslot⟩ := Option.isSome_iff_exists.1 h
    obtain ⟨r, hr⟩ := vouchedBy_of_proceedSlot hslot
    exact ⟨slot, i, r, hr⟩
  · rintro ⟨slot, i, r, hv⟩
    obtain ⟨hmem, hentry, hgood⟩ := (vouchedBy_iff sig slot i r hv.2.1).1 hv
    refine List.find?_isSome.2 ⟨(slot, i), hmem, ?_⟩
    simp [hentry, hgood]

/-- The aspect of a signal that no instance vouches for, or that is not described (R35). -/
theorem aspectOf_stop {sig : Nat} (h : ¬ Vouched s sig) : aspectOf s sig = .stop := by
  have hnone : proceedSlot s sig = none := by
    simpa [proceedable] using mt (proceedable_iff sig).1 h
  simp [aspectOf, hnone]

/-- The aspect of a signal that is vouched for (R35). -/
theorem aspectOf_vouched {sig : Nat} (h : Vouched s sig) : ∃ slot i r g, VouchedBy s sig slot i r ∧
    findItem (desc s).signals sig = some g ∧ aspectOf s sig =
      (match g.kind with
       | .main => if r.exit.any (proceedable s) then .clear else .caution
       | .shunt | .deck => .shunt) := by
  obtain ⟨⟨slot, i⟩, hslot⟩ := Option.isSome_iff_exists.1 ((proceedable_iff sig).2 h)
  obtain ⟨r, hv⟩ := vouchedBy_of_proceedSlot hslot
  obtain ⟨-, hroute, -, -, ⟨g, hg, -⟩, -⟩ := id hv
  have hexit : exitSignal s i = r.exit := by simp [exitSignal, hroute]
  refine ⟨slot, i, r, g, hv, hg, ?_⟩
  cases hkind : g.kind <;> simp [aspectOf, hslot, hg, hexit, hkind]

/-- A recomputation of a signal: nothing, or the new aspect stored, offered and told (R36). -/
theorem recomputeOne_eq {sig : Nat} {old : Aspect} (h : findItem s.il.signals sig = some old) :
    recomputeOne sig s = if aspectOf s sig = old then s else
      raise (.signal sig (aspectOf s sig)) (offer (.aspect sig (aspectOf s sig))
        (s.withIl { s.il with signals := putItem s.il.signals sig (aspectOf s sig) })) := by
  simp only [recomputeOne, h]

/-- The signals after a recomputation, and the other tables (R36). -/
theorem recomputeOne_il {sig : Nat} {old : Aspect} (h : findItem s.il.signals sig = some old) :
    findItem (recomputeOne sig s).il.signals sig = some (aspectOf s sig) ∧
    (∀ g, g ≠ sig → findItem (recomputeOne sig s).il.signals g = findItem s.il.signals g) ∧
    (recomputeOne sig s).il = { s.il with signals := (recomputeOne sig s).il.signals } ∧
    (recomputeOne sig s).trains = s.trains := by
  rw [recomputeOne_eq h]
  split
  · rename_i hsame
    exact ⟨hsame ▸ h, fun _ _ => rfl, rfl, rfl⟩
  · have hinner := (inner_of_quiet (quiet_raise (.signal sig (aspectOf s sig)) _)).trans (inner_offer (.aspect sig (aspectOf s sig))
      (s.withIl { s.il with signals := putItem s.il.signals sig (aspectOf s sig) }))
    rw [inner_il hinner, inner_trains hinner]
    exact ⟨findItem_putItem_same _ _ _, fun g hg => findItem_putItem_other _ _ _ _ hg, rfl, rfl⟩

/-- Settles O35: what makes a signal proceed-able is what vouches for it, so the aspect is read off the instance that the
search finds; a recomputation stores that aspect and offers it. -/
theorem proceedAspectIsVouchedFor : Obligations.ProceedAspectIsVouchedFor := by
  intro s sig
  refine ⟨⟨fun h => ?_, fun h => ?_⟩, fun g exit hg h hexit => ?_, fun old hold => ?_⟩
  · by_contra hno
    exact h (aspectOf_stop hno)
  · obtain ⟨-, -, r, g, -, -, haspect⟩ := aspectOf_vouched h
    rw [haspect]
    split
    · split <;> decide
    · decide
    · decide
  · obtain ⟨slot, i, r, g', hv, hg', haspect⟩ := aspectOf_vouched h
    obtain rfl : g' = g := Option.some.inj (hg'.symm.trans hg)
    obtain rfl : r.exit = exit := hexit slot i r hv
    rw [haspect]
    refine ⟨fun hkind => ?_, fun hkind hahead => ?_, fun hkind hnone => ?_⟩
    · cases hk : g'.kind with
      | main => exact absurd hk hkind
      | shunt => rfl
      | deck => rfl
    · obtain ⟨x, hx, hvouched⟩ := hahead
      simp [hkind, hx, (proceedable_iff x).2 hvouched]
    · have hblocked : r.exit.any (proceedable s) = false := by
        cases hx : r.exit with
        | none => rfl
        | some x => simpa using mt (proceedable_iff x).1 (hnone x hx)
      simp [hkind, hblocked]
  · obtain ⟨hsame, hothers, hil, htrains⟩ := recomputeOne_il hold
    refine ⟨hsame, fun heq => ?_, fun hne => ?_, hothers, ?_, ?_, ?_, htrains⟩
    · rw [recomputeOne_eq hold, if_pos heq]
    · rw [recomputeOne_eq hold, if_neg hne]
      exact quiet_raise _ _
    · rw [hil]
    · rw [hil]
    · rw [hil]

end Sys2Proof.Machine
end

section
/-! PROOFS. MOVE-POINT: the checks, and the command of a point (chapter 2). -/

namespace Sys2Proof.Machine

open Sys2Proof

-- One theorem at a time: theorems that wait for each other would hold a thread each.
set_option Elab.async false

variable {s t : State}

/-! ### Aspects beside the other tables -/

theorem unlit_districts (h : unlit t = unlit s) : t.il.districts = s.il.districts := congrArg (fun x => x.il.districts) h

/-- With the Interlocking Unit put aside, states alike but for aspects are alike. -/
theorem inner_withIl_of_unlit (v : Interlock) (h : unlit t = unlit s) : inner (t.withIl v) = inner (s.withIl v) :=
  congrArg (fun x : State => x.withIl v) h

/-! ### Points -/

@[simp] theorem ptAt_updatePt_same (s : State) (n : Nat) (f : PtState → PtState) :
    ptAt (updatePt s n f) n = (ptAt s n).map f := findItem_updateItem_same _ _ _

theorem ptAt_updatePt_other (s : State) {n m : Nat} (f : PtState → PtState) (h : m ≠ n) :
    ptAt (updatePt s n f) m = ptAt s m := findItem_updateItem_other _ _ _ _ h

/-- A position commanded of a point that is proven there, or already on its way there (R31). -/
def Rests (pos : Position) (st : PtState) : Prop :=
  st.reported = provenIn pos ∨ (st.reported = .moving ∧ st.commanded = some pos)

/-- The start of a move of a point: the command offered, the point MOVING, its neither count 0 (R31). -/
def startPoint (n : Nat) (pos : Position) (s : State) : State :=
  setNeither n 0 (updatePt (offer (.pointMove n pos) (updatePt s n (fun st => { st with commanded := some pos }))) n
    (fun st => { st with reported := .moving, timer := some (desc s).params.pointTimeout }))

/-- The record of a point that has started to move (R31). -/
def movingPt (timeout : Nat) (pos : Position) (st : PtState) : PtState :=
  { st with commanded := some pos, reported := .moving, timer := some timeout }

theorem commandPoint_rests {n : Nat} {pos : Position} {st : PtState} (hst : ptAt s n = some st) (h : Rests pos st) :
    ptAt (commandPoint n pos s) n = some { st with commanded := some pos } ∧
    (∀ m, m ≠ n → ptAt (commandPoint n pos s) m = ptAt s m) ∧
    commandPoint n pos s = s.withIl { s.il with points := (commandPoint n pos s).il.points } := by
  by_cases hproven : st.reported = provenIn pos
  · have hset : commandPoint n pos s = updatePt s n (fun st => { st with commanded := some pos }) := by
      simp [commandPoint, hst, hproven]
    rw [hset]
    exact ⟨by simp [hst], fun m hm => ptAt_updatePt_other s _ hm, rfl⟩
  · obtain ⟨hmoving, hcmd⟩ := h.resolve_left hproven
    have hsame : commandPoint n pos s = s := by
      simp only [commandPoint, hst, if_neg hproven, if_pos (And.intro hmoving hcmd)]
    rw [hsame]
    exact ⟨by rw [hst, ← hcmd], fun _ _ => rfl, rfl⟩

theorem commandPoint_starts {n : Nat} {pos : Position} {st : PtState} (hst : ptAt s n = some st) (h : ¬ Rests pos st) :
    commandPoint n pos s =
      recomputeAll (pointSignals (startPoint n pos s) n) (notePoint n .position (startPoint n pos s)) := by
  obtain ⟨hproven, hmoving⟩ := not_or.1 h
  simp only [commandPoint, hst, if_neg hproven, if_neg hmoving]
  rfl

theorem notePoint_blocks (n : Nat) (ev : PointEvent) (s : State) : quiet (notePoint n ev s) = quiet s := by
  unfold notePoint
  split
  · exact quiet_raise _ _
  · rfl

theorem setNeither_eq (n v : Nat) (s : State) : setNeither n v s = s.withRing { s.ring with modules := (setNeither n v s).ring.modules } := by
  unfold setNeither
  split <;> rfl

theorem updateItem_updateItem {α : Type} (l : Table α) (k : Nat) (f g : α → α) :
    updateItem (updateItem l k f) k g = updateItem l k (fun x => g (f x)) := by
  induction l with
  | nil => rfl
  | cons e l ih =>
    obtain ⟨i, a⟩ := e
    by_cases h : i = k
    · simp [updateItem, h]
    · simp [updateItem, h, ih]

/-- Beside the ring the start of a move changes the point's record (R31). -/
theorem inner_startPoint (n : Nat) (pos : Position) (s : State) :
    inner (startPoint n pos s) = inner (updatePt s n (movingPt (desc s).params.pointTimeout pos)) := by
  have hoffer := inner_offer (.pointMove n pos) (updatePt s n (fun st => { st with commanded := some pos }))
  have hpush : ∀ (x : State) (v : Interlock), inner (x.withIl v) = (inner x).withIl v := fun x v => by cases x; rfl
  rw [startPoint, setNeither_eq, inner_withRing, updatePt, hpush, hoffer, inner_il hoffer]
  simp only [updatePt, State.withIl_il, updateItem_updateItem]
  exact (hpush _ _).symm

/-- A point that starts to move: its record, and nothing else but the ring and the aspects that read it (R31). -/
theorem unlit_commandPoint {n : Nat} {pos : Position} {st : PtState} (hst : ptAt s n = some st) (h : ¬ Rests pos st) :
    unlit (commandPoint n pos s) = unlit (updatePt s n (movingPt (desc s).params.pointTimeout pos)) := by
  rw [commandPoint_starts hst h, unlit_recomputeAll, unlit_of_quiet (notePoint_blocks _ _ _)]
  exact unlit_of_inner (inner_startPoint n pos s)

/-- A count that is set to 0, or that no module keeps, is read as 0. -/
theorem neitherOf_setNeither_zero (n : Nat) (s : State) : neitherOf (setNeither n 0 s) n = 0 := by
  cases he : findItem (desc s).points n with
  | none => simp [setNeither, neitherOf, he]
  | some e =>
    have hset : setNeither n 0 s = updateModule s e.addr (fun m => { m with neitherCounts := m.neitherCounts.set e.output 0 }) := by
      simp [setNeither, he]
    have hentry : findItem (desc (setNeither n 0 s)).points n = some e := by
      rw [hset]
      exact he
    simp only [neitherOf, hentry]
    rw [hset]
    by_cases hm : (findItem s.ring.modules e.addr).isSome = true
    · rw [moduleAt_updateModule_same _ hm]
      simp [entryAt, List.getElem?_set]
      split <;> rfl
    · rw [Option.not_isSome_iff_eq_none] at hm
      simp [moduleAt, updateModule, hm, entryAt]

/-- The ring after the start of a move: the command offered, and the neither count 0 (R31). -/
theorem startPoint_ring (n : Nat) (pos : Position) (s : State) :
    { (startPoint n pos s).ring with modules := s.ring.modules } = (offer (.pointMove n pos) s).ring ∧
    neitherOf (startPoint n pos s) n = 0 := by
  refine ⟨?_, neitherOf_setNeither_zero n _⟩
  have hoffer : (offer (.pointMove n pos) (updatePt s n (fun st => { st with commanded := some pos }))).ring =
      (offer (.pointMove n pos) s).ring := by
    rw [offer_ring, offer_ring]
    rfl
  have hmodules : (offer (.pointMove n pos) s).ring.modules = s.ring.modules := modules_of_ringRest (ringRest_offer _ s)
  have hring : (startPoint n pos s).ring =
      { (offer (.pointMove n pos) s).ring with modules := (startPoint n pos s).ring.modules } := by
    rw [← hoffer]
    exact congrArg (fun x => x.ring) (setNeither_eq n 0 _)
  rw [← hmodules]
  exact congrArg (fun r : Ring => { r with modules := (offer (.pointMove n pos) s).ring.modules }) hring

/-- The command of a point that starts to move waits, or the queue is full (R31). -/
theorem offered_commandPoint {n : Nat} {pos : Position} {st : PtState} (hst : ptAt s n = some st) (h : ¬ Rests pos st)
    (hreach : cmdReaches s (.pointMove n pos) = true) : Offered (.pointMove n pos) s (commandPoint n pos s) := by
  intro hq
  obtain ⟨hring, -⟩ := startPoint_ring n pos s
  rw [offer_ring, if_pos hreach] at hring
  obtain ⟨hwaits, hlen⟩ := placeCmd_waits s.ring (.pointMove n pos) hq
  rw [← hring] at hwaits hlen
  rw [commandPoint_starts hst h]
  exact (((Ripples.refl (startPoint n pos s)).notePoint n .position).recomputeAll _ |>.queue hlen).2 _ rfl hwaits

/-- Where no live instance holds the point, no aspect reads it, and the offer is all that the ring sees (R34, R36). -/
theorem ring_commandPoint_free {n : Nat} {pos : Position} {st : PtState} (hst : ptAt s n = some st) (h : ¬ Rests pos st)
    (hfree : ∀ i ∈ s.il.instances, ∀ h ∈ i.2.held, h.point ≠ n) :
    { (commandPoint n pos s).ring with modules := s.ring.modules } = (offer (.pointMove n pos) s).ring := by
  obtain ⟨hring, -⟩ := startPoint_ring n pos s
  have hsame : (startPoint n pos s).il.instances = s.il.instances := (inner_il (inner_startPoint n pos s)).symm ▸ rfl
  have hnone : pointSignals (startPoint n pos s) n = [] := by
    have hfilter : s.il.instances.filter (fun e => e.2.held.any (fun h => h.point == n)) = [] := by
      simpa using hfree
    rw [pointSignals, hsame, hfilter]
    rfl
  rw [commandPoint_starts hst h, hnone]
  have hnote : (notePoint n .position (startPoint n pos s)).ring = (startPoint n pos s).ring := quiet_ring (notePoint_blocks n _ _)
  exact (congrArg (fun r : Ring => { r with modules := s.ring.modules }) hnote).trans hring

theorem neitherOf_commandPoint {n : Nat} {pos : Position} {st : PtState} (hst : ptAt s n = some st) (h : ¬ Rests pos st) :
    neitherOf (commandPoint n pos s) n = 0 := by
  obtain ⟨-, hzero⟩ := startPoint_ring n pos s
  have hsame := (((Ripples.refl (startPoint n pos s)).notePoint n .position).recomputeAll
    (pointSignals (startPoint n pos s) n)).same
  rw [commandPoint_starts hst h]
  simpa only [neitherOf, ground_desc hsame, ground_moduleAt hsame] using hzero

/-! ### MOVE-POINT -/

/-- The checks of MOVE-POINT in their order (R33). -/
theorem serveMovePoint_checks {p : PortId} {n x : Nat} (hmode : runsIn s.ctl.mode = true) :
    (findItem (desc s).points n = none → serveMovePoint p n x s = (s, .refused .unknownItem .none)) ∧
    (∀ e st, findItem (desc s).points n = some e → ptAt s n = some st →
      (holds s p (some e.district) = false → serveMovePoint p n x s = (s, .refused .notHolder .none)) ∧
      (holds s p (some e.district) = true → st.locks ≠ 0 → serveMovePoint p n x s = (s, .refused .locked .none)) ∧
      (holds s p (some e.district) = true → st.locks = 0 → (∀ y, secAt s e.sec = some y → y.occ = .occupied) →
        serveMovePoint p n x s = (s, .refused .occupied .none)) ∧
      (∀ y, holds s p (some e.district) = true → st.locks = 0 → secAt s e.sec = some y → y.occ = .clear →
        (moduleActive s e.addr = false → serveMovePoint p n x s = (s, .refused .moduleFailed .none)) ∧
        (moduleActive s e.addr = true → posOfCode x = none → serveMovePoint p n x s = (s, refuseCode 0x23)) ∧
        (∀ pos, moduleActive s e.addr = true → posOfCode x = some pos →
          serveMovePoint p n x s = (commandPoint n pos s, done)))) := by
  refine ⟨fun hnone => ?_, fun e st he hst => ⟨fun hholds => ?_, fun hholds hlocks => ?_, fun hholds hlocks hocc => ?_,
    fun y hholds hlocks hy hclear => ⟨fun hmod => ?_, fun hmod hcode => ?_, fun pos hmod hcode => ?_⟩⟩⟩
  · simp [serveMovePoint, movePointChecks, checked, whileRunning, inMode, hmode, hnone, refuse]
  · simp [serveMovePoint, movePointChecks, checked, whileRunning, inMode, hmode, he, hst, hholds, refuse]
  · simp [serveMovePoint, movePointChecks, checked, whileRunning, inMode, hmode, he, hst, hholds, hlocks, refuse]
  · have hnot : (secAt s e.sec).any (fun x => x.occ == .clear) = false := by
      cases hy : secAt s e.sec with
      | none => rfl
      | some y => simp [hocc y hy]
    simp [serveMovePoint, movePointChecks, checked, whileRunning, inMode, hmode, he, hst, hholds, hlocks, hnot, refuse]
  · simp [serveMovePoint, movePointChecks, checked, whileRunning, inMode, hmode, he, hst, hholds, hlocks, hy, hclear, hmod, refuse]
  · simp [serveMovePoint, movePointChecks, checked, whileRunning, inMode, hmode, he, hst, hholds, hlocks, hy, hclear, hmod, hcode]
  · simp [serveMovePoint, movePointChecks, checked, whileRunning, inMode, hmode, he, hst, hholds, hlocks, hy, hclear, hmod, hcode]

/-- States alike but for the ring are alike after the head has left (R171). -/
theorem inner_popHead_congr (p : PortId) (h : inner t = inner s) : inner (popHead p t) = inner (popHead p s) := by
  have hring : ∀ x : State, popHead p (x.withRing Ring.reset) = (popHead p x).withRing Ring.reset := fun x => by cases p <;> rfl
  have hquiet : quiet (t.withRing Ring.reset) = quiet (s.withRing Ring.reset) := h
  have := quiet_popHead_congr p hquiet
  rwa [hring, hring] at this

/-- Beside the Interlocking Unit an answer is the same after any change of that unit and of the ring. -/
theorem inner_served_beside {p : PortId} {tag : Byte} {a : Answer} (h : inner (t.withIl s.il) = inner s) :
    inner ((served p tag (t, a)).withIl s.il) = inner (answered p tag a s) := by
  have hstart : inner (popHead p (t.withIl s.il)) = inner (popHead p s) := inner_popHead_congr p h
  have hcomm : (served p tag (t, a)).withIl s.il = respond p tag a (popHead p (t.withIl s.il)) :=
    (answered_withIl p tag a s.il t).symm
  rw [hcomm]
  exact inner_respond_congr p tag a hstart

/-- Settles O32: behind the five checks the request is the command of the point, which either rests or starts to move. -/
theorem movePoint : Obligations.MovePoint := by
  intro p tag n x s h hmode refused
  have hruns : runsIn s.ctl.mode = true := by
    obtain hmode | hmode := hmode <;> rw [hmode] <;> rfl
  obtain ⟨hunknown, hchecks⟩ := serveMovePoint_checks (p := p) (n := n) (x := x) hruns
  have hexec : exec (.movePoint p) s = .next (served p tag (serveMovePoint p n x s)) := exec_serves rfl h rfl
  have hrefused : ∀ a, serveMovePoint p n x s = (s, a) → exec (.movePoint p) s = .next (answered p tag a s) := fun a ha => by
    rw [hexec, ha, served_same]
  refine ⟨fun hnone => hrefused _ (hunknown hnone), fun e st he hst => ?_⟩
  obtain ⟨hholder, hlocked, hoccupied, hpass⟩ := hchecks e st he hst
  refine ⟨fun h1 => hrefused _ (hholder h1), fun h1 h2 => hrefused _ (hlocked h1 h2),
    fun h1 h2 h3 => hrefused _ (hoccupied h1 h2 h3), fun y h1 h2 h3 h4 => ?_⟩
  obtain ⟨hfailed, hnoCode, hok⟩ := hpass y h1 h2 h3 h4
  refine ⟨fun hmod => hrefused _ (hfailed hmod), fun hmod hcode => ⟨_, hrefused _ (hnoCode hmod hcode)⟩,
    fun pos hmod hcode => ?_⟩
  intro rests
  refine ⟨_, by rw [hexec, hok pos hmod hcode], ?_⟩
  obtain ⟨hstore, -, hil, -, -, -, -, hring⟩ := served_blocks p tag (commandPoint n pos s, done)
  have hpt : ∀ m, ptAt (served p tag (commandPoint n pos s, done)) m = ptAt (commandPoint n pos s) m := fun m => by
    rw [ptAt, hil, ptAt]
  have hreach : cmdReaches s (.pointMove n pos) = true := by simp [cmdReaches, cmdModule, he, hmod]
  rw [hpt, hil, hring]
  simp only [hpt]
  by_cases hrests : Rests pos st
  · have hyes : rests := hrests
    obtain ⟨hself, hothers, heq⟩ := commandPoint_rests hst hrests
    refine ⟨by rw [hself, if_pos hyes], hothers, congrArg (fun x => x.il.sections) heq,
      congrArg (fun x => x.il.districts) heq, congrArg (fun x => x.il.instances) heq, ?_,
      fun _ => congrArg (fun x => x.ring) heq, fun hmoves => absurd hrests hmoves⟩
    exact inner_served_beside ((congrArg (fun x : State => inner (x.withIl s.il)) heq).trans rfl)
  · have hno : ¬ rests := hrests
    have hunlit := unlit_commandPoint hst hrests
    have hpoints : (commandPoint n pos s).il.points =
        (updatePt s n (movingPt (desc s).params.pointTimeout pos)).il.points := unlit_points hunlit
    refine ⟨?_, fun m hm => ?_, (unlit_sections hunlit).trans rfl, (unlit_districts hunlit).trans rfl,
      (unlit_instances hunlit).trans rfl, ?_,
      fun hr => absurd hr hrests, fun _ => ⟨?_, ?_, fun hfree => ring_commandPoint_free hst hrests hfree⟩⟩
    · rw [ptAt, hpoints, ← ptAt, ptAt_updatePt_same, hst, if_neg hno]
      rfl
    · rw [ptAt, hpoints, ← ptAt, ptAt_updatePt_other s _ hm]
    · exact inner_served_beside ((inner_withIl_of_unlit s.il hunlit).trans rfl)
    · simpa only [neitherOf, desc, moduleAt, hstore, hring] using neitherOf_commandPoint hst hrests
    · intro hq
      rw [hring]
      exact offered_commandPoint hst hrests hreach hq

end Sys2Proof.Machine
end

section
/-! PROOFS. What a route instance gives up, table by table, and the failure of the instances that hold a point (chapters 2
and 4). -/

namespace Sys2Proof.Machine

open Sys2Proof

-- One theorem at a time: theorems that wait for each other would hold a thread each.
set_option Elab.async false

variable {s t u : State}

/-! ### The tables of the Interlocking Unit, and what is apart from them -/

/-- The state without aspects, eligibility, trains, demonstrations, the ring and reports: sections, points and instances are
read through it. -/
def still (s : State) : State :=
  { quiet s with
    il := { s.il with signals := [] }, engine := State.reset.engine, trains := [], demo := State.reset.demo,
    ring := Ring.reset }

theorem still_of_aside (h : aside t = aside s) : still t = still s := by
  have hread : ∀ x : State, still x =
      ((aside x).withIl { (aside x).il with signals := [] }).withEngine State.reset.engine := fun x => by cases x; rfl
  rw [hread, hread, h]

theorem still_of_unlit (h : unlit t = unlit s) : still t = still s := by
  have hread : ∀ x : State, still x = (((unlit x).withEngine State.reset.engine).withTrains []).withDemo State.reset.demo :=
    fun x => by cases x; rfl
  rw [hread, hread, h]

theorem still_of_quiet (h : quiet t = quiet s) : still t = still s := still_of_unlit (unlit_of_quiet h)

theorem still_store (h : still t = still s) : t.store = s.store := congrArg (fun x => x.store) h
theorem still_sections (h : still t = still s) : t.il.sections = s.il.sections := congrArg (fun x => x.il.sections) h
theorem still_points (h : still t = still s) : t.il.points = s.il.points := congrArg (fun x => x.il.points) h
theorem still_instances (h : still t = still s) : t.il.instances = s.il.instances := congrArg (fun x => x.il.instances) h
theorem still_districts (h : still t = still s) : t.il.districts = s.il.districts := congrArg (fun x => x.il.districts) h
theorem still_deck (h : still t = still s) : t.deck = s.deck := congrArg (fun x => x.deck) h
theorem still_secAt (h : still t = still s) (n : Nat) : secAt t n = secAt s n := by rw [secAt, still_sections h, secAt]
theorem still_ptAt (h : still t = still s) (n : Nat) : ptAt t n = ptAt s n := by rw [ptAt, still_points h, ptAt]
theorem still_instAt (h : still t = still s) (k : Nat) : instAt t k = instAt s k := by rw [instAt, still_instances h, instAt]

/-- A change of the tables alone. -/
theorem still_withIl_congr (h : still t = still s) (f : Interlock → Interlock)
    (hf : ∀ v w : Interlock, { v with signals := [] } = { w with signals := ([] : Table Aspect) } →
      { f v with signals := [] } = { f w with signals := ([] : Table Aspect) }) :
    still (t.withIl (f t.il)) = still (s.withIl (f s.il)) := by
  have hpush : ∀ (x : State) (v : Interlock), still (x.withIl v) = (still x).withIl { v with signals := [] } := fun x v => by
    cases x; rfl
  have hil : { t.il with signals := [] } = { s.il with signals := ([] : Table Aspect) } := congrArg (fun x => x.il) h
  rw [hpush, hpush, h, hf _ _ hil]

theorem still_updateSec_congr (h : still t = still s) (n : Nat) (f : SecState → SecState) :
    still (updateSec t n f) = still (updateSec s n f) :=
  still_withIl_congr h (fun v => { v with sections := updateItem v.sections n f }) fun v w hvw => by
    cases v; cases w; simp_all

theorem still_freeSlot_congr (h : still t = still s) (k : Nat) : still (freeSlot k t) = still (freeSlot k s) :=
  still_withIl_congr h (fun v => { v with instances := dropItem v.instances k }) fun v w hvw => by
    cases v; cases w; simp_all

/-! ### Work that changes no table -/

@[simp] theorem still_raise (n : Notice) (s : State) : still (raise n s) = still s := still_of_quiet (quiet_raise n s)
@[simp] theorem still_count (e : EventKind) (q : Option Party) (d : Option Nat) (s : State) :
    still (count e q d s) = still s := still_of_quiet (quiet_count e q d s)
@[simp] theorem still_noteSection (n : Nat) (ev : OccEvent) (s : State) : still (noteSection n ev s) = still s := by
  unfold noteSection
  split <;> simp
@[simp] theorem still_notePoint (n : Nat) (ev : PointEvent) (s : State) : still (notePoint n ev s) = still s :=
  still_of_quiet (notePoint_blocks n ev s)
@[simp] theorem still_recompute (sig : Nat) (s : State) : still (recompute sig s) = still s :=
  still_of_unlit (unlit_recomputeChain _ sig s)
@[simp] theorem still_recomputeAll (l : List Nat) (s : State) : still (recomputeAll l s) = still s :=
  still_of_unlit (unlit_recomputeAll l s)
@[simp] theorem still_recomputeEntry (i : Inst) (s : State) : still (recomputeEntry i s) = still s := by
  unfold recomputeEntry
  split <;> simp
@[simp] theorem still_recomputeUpstream (i : Inst) (s : State) : still (recomputeUpstream i s) = still s := by
  unfold recomputeUpstream
  split <;> simp

@[simp] theorem still_eligible (s : State) : still (eligible s) = still s := by
  unfold eligible
  dsimp only
  split
  · split
    · split <;> rfl
    · rfl
  · rfl

theorem aside_leaveCancel (slot : Nat) (s : State) : aside (leaveCancel slot s) = aside s := by
  unfold leaveCancel
  dsimp only
  split
  · split <;> simp
  · rfl

@[simp] theorem still_leaveCancel (slot : Nat) (s : State) : still (leaveCancel slot s) = still s :=
  still_of_aside (aside_leaveCancel slot s)

@[simp] theorem still_demoFreed (slot : Nat) (s : State) : still (demoFreed slot s) = still s := still_leaveCancel slot _

@[simp] theorem still_demoFailed (slot : Nat) (s : State) : still (demoFailed slot s) = still s := by
  unfold demoFailed
  dsimp only
  split
  · rw [still_of_aside (aside_abort _ _), still_leaveCancel]
  · exact still_leaveCancel slot s

theorem still_ifDemo (q : Party) {f : State → State} (hf : ∀ x, still (f x) = still x) (s : State) :
    still (ifDemo q f s) = still s := by
  unfold ifDemo
  split
  · exact hf s
  · rfl

/-! ### Locks -/

@[simp] theorem still_setLock (n : Nat) (l : Option Lock) (s : State) :
    still (setLock n l s) = still (updateSec s n (fun st => { st with lock := l })) := still_noteSection _ _ _

@[simp] theorem still_freeSection (n : Nat) (s : State) :
    still (freeSection n s) = still (updateSec s n (fun st => { st with lock := none })) := by simp [freeSection]

@[simp] theorem still_unlockPoint (n : Nat) (s : State) :
    still (unlockPoint n s) = still (updatePt s n (fun st => { st with locks := st.locks - 1 })) := still_notePoint _ _ _

@[simp] theorem secAt_updateSec_same (s : State) (n : Nat) (f : SecState → SecState) :
    secAt (updateSec s n f) n = (secAt s n).map f := findItem_updateItem_same _ _ _
theorem secAt_updateSec_other (s : State) {n m : Nat} (f : SecState → SecState) (h : m ≠ n) :
    secAt (updateSec s n f) m = secAt s m := findItem_updateItem_other _ _ _ _ h

/-- The state apart from every table of the Interlocking Unit. -/
def margin (s : State) : State := (still s).withIl State.reset.il

theorem margin_of_still (h : still t = still s) : margin t = margin s := congrArg (fun x : State => x.withIl State.reset.il) h

theorem margin_withIl (s : State) (v : Interlock) : margin (s.withIl v) = margin s := by cases s; rfl

/-- States alike apart from the tables are alike once tables, eligibility, trains and demonstrations are put aside. -/
theorem inner_of_margin (h : margin t = margin s) :
    inner ((((t.withIl s.il).withEngine s.engine).withDemo s.demo).withTrains s.trains) = inner s := by
  have hread : ∀ x : State, inner ((((x.withIl s.il).withEngine s.engine).withDemo s.demo).withTrains s.trains) =
      ((((margin x).withIl s.il).withEngine s.engine).withDemo s.demo).withTrains s.trains := fun x => by cases x; rfl
  rw [hread, h, ← hread]
  cases s
  rfl

theorem margin_deck (h : margin t = margin s) : t.deck = s.deck := congrArg (fun x => x.deck) h
theorem margin_store (h : margin t = margin s) : t.store = s.store := congrArg (fun x => x.store) h

/-- The work of the route instances on the tables: locks and instances change, and what is apart stays. -/
structure Tables (s t : State) : Prop where
  apart : margin t = margin s
  districts : t.il.districts = s.il.districts
  settled : ∀ n, (secAt t n).map (fun x => (x.occ, x.occupant, x.disturbed)) =
    (secAt s n).map (fun x => (x.occ, x.occupant, x.disturbed))

namespace Tables

protected theorem refl (s : State) : Tables s s := ⟨rfl, rfl, fun _ => rfl⟩

protected theorem trans (h : Tables s t) (k : Tables t u) : Tables s u :=
  ⟨k.apart.trans h.apart, k.districts.trans h.districts, fun n => (k.settled n).trans (h.settled n)⟩

/-- Work that changes no table. -/
protected theorem still (h : Tables s t) (k : still u = still t) : Tables s u :=
  h.trans ⟨margin_of_still k, still_districts k, fun n => by rw [still_secAt k]⟩

protected theorem foldl {α : Type} (h : Tables s t) {f : State → α → State} (hf : ∀ x a, Tables s x → Tables s (f x a))
    (l : List α) : Tables s (l.foldl f t) := foldl_keeps (Tables s) f hf l t h

protected theorem updateInst (h : Tables s t) (k : Nat) (f : Inst → Inst) : Tables s (updateInst t k f) :=
  h.trans ⟨margin_withIl _ _, rfl, fun _ => rfl⟩

protected theorem freeSlot (h : Tables s t) (k : Nat) : Tables s (freeSlot k t) :=
  h.trans ⟨margin_withIl _ _, rfl, fun _ => rfl⟩

protected theorem updatePt (h : Tables s t) (n : Nat) (f : PtState → PtState) : Tables s (updatePt t n f) :=
  h.trans ⟨margin_withIl _ _, rfl, fun _ => rfl⟩

/-- A lock changed. -/
protected theorem lockSec (h : Tables s t) (n : Nat) (l : Option Lock) :
    Tables s (updateSec t n (fun st => { st with lock := l })) := by
  refine h.trans ⟨margin_withIl _ _, rfl, fun m => ?_⟩
  by_cases hm : m = n
  · subst hm
    rw [secAt_updateSec_same, Option.map_map]
    rfl
  · rw [secAt_updateSec_other _ _ hm]

protected theorem setLock (h : Tables s t) (n : Nat) (l : Option Lock) : Tables s (setLock n l t) :=
  (h.lockSec n l).still (still_setLock n l t)

protected theorem freeSection (h : Tables s t) (n : Nat) : Tables s (freeSection n t) :=
  (h.lockSec n none).still (still_freeSection n t)

protected theorem unlockPoint (h : Tables s t) (n : Nat) : Tables s (unlockPoint n t) :=
  (h.updatePt n _).still (still_unlockPoint n t)

end Tables

end Sys2Proof.Machine
end

section
/-! PROOFS. What an instance gives up, and the expiry of a point's move timer (chapters 2 and 4). -/

namespace Sys2Proof.Machine

open Sys2Proof

-- One theorem at a time: theorems that wait for each other would hold a thread each.
set_option Elab.async false

variable {s t u : State}

/-! ### Sections given up -/

/-- A section whose lock goes when it is a given one. -/
def withoutLock (l : Lock) (st : SecState) : SecState := { st with lock := if st.lock = some l then none else st.lock }

theorem withoutLock_withoutLock (l : Lock) (st : SecState) : withoutLock l (withoutLock l st) = withoutLock l st := by
  unfold withoutLock
  by_cases h : st.lock = some l <;> simp [h]

theorem lock_withoutLock (l : Lock) (st : SecState) : (withoutLock l st).lock ≠ some l := by
  unfold withoutLock
  by_cases h : st.lock = some l <;> simp [h]

theorem lock_of_withoutLock {l k : Lock} {st : SecState} (h : (withoutLock l st).lock = some k) : st.lock = some k := by
  unfold withoutLock at h
  dsimp only at h
  split at h
  · cases h
  · exact h

theorem lockedTo_eq_false_iff (s : State) (slot : Nat) (role : LockRole) (n : Nat) :
    lockedTo s slot role n = false ↔ ∀ st, secAt s n = some st → st.lock ≠ some { slot := slot, role := role } := by
  unfold lockedTo
  cases secAt s n <;> simp

theorem secAt_freeSection (n m : Nat) (s : State) : secAt (freeSection n s) m =
    if m = n then (secAt s m).map (fun st => { st with lock := none }) else secAt s m := by
  rw [still_secAt (still_freeSection n s)]
  by_cases h : m = n
  · rw [if_pos h, h, secAt_updateSec_same]
  · rw [if_neg h, secAt_updateSec_other _ _ h]

/-- One section of a list given up, when the instance holds it in the role (R27). -/
theorem secAt_freeOne (slot : Nat) (role : LockRole) (n m : Nat) (s : State) :
    secAt (if lockedTo s slot role n then freeSection n s else s) m =
      if m = n then (secAt s m).map (withoutLock { slot := slot, role := role }) else secAt s m := by
  cases hst : secAt s n with
  | none =>
    have hnot : lockedTo s slot role n = false := by simp [lockedTo, hst]
    by_cases hm : m = n
    · simp [hnot, hm, hst]
    · simp [hnot, hm]
  | some st =>
    by_cases hlock : st.lock = some { slot := slot, role := role }
    · have hyes : lockedTo s slot role n = true := by simp [lockedTo, hst, hlock]
      rw [if_pos hyes, secAt_freeSection]
      by_cases hm : m = n
      · simp [hm, hst, withoutLock, hlock]
      · simp [hm]
    · have hnot : lockedTo s slot role n = false := by simp [lockedTo, hst, hlock]
      by_cases hm : m = n
      · simp [hnot, hm, hst, withoutLock, hlock]
      · simp [hnot, hm]

theorem secAt_freeHeld (slot : Nat) (role : LockRole) (l : List Nat) (m : Nat) (s : State) :
    secAt (freeHeld slot role l s) m =
      if m ∈ l then (secAt s m).map (withoutLock { slot := slot, role := role }) else secAt s m := by
  unfold freeHeld
  induction l generalizing s with
  | nil => simp
  | cons n l ih =>
    rw [List.foldl_cons, ih, secAt_freeOne]
    by_cases hm : m = n
    · by_cases hl : m ∈ l
      · simp [hm, hm ▸ hl, Option.map_map, Function.comp_def, withoutLock_withoutLock]
      · simp [hm, hm ▸ hl]
    · simp [hm]

theorem instances_freeSection (n : Nat) (s : State) : (freeSection n s).il.instances = s.il.instances :=
  (still_instances (still_freeSection n s)).trans rfl
theorem points_freeSection (n : Nat) (s : State) : (freeSection n s).il.points = s.il.points :=
  (still_points (still_freeSection n s)).trans rfl

theorem instances_freeHeld (slot : Nat) (role : LockRole) (l : List Nat) (s : State) :
    (freeHeld slot role l s).il.instances = s.il.instances :=
  foldl_same (fun x : State => x.il.instances) _ (fun x n => by split; exacts [instances_freeSection n x, rfl]) l s

theorem points_freeHeld (slot : Nat) (role : LockRole) (l : List Nat) (s : State) :
    (freeHeld slot role l s).il.points = s.il.points :=
  foldl_same (fun x : State => x.il.points) _ (fun x n => by split; exacts [points_freeSection n x, rfl]) l s

/-! ### Points given back -/

theorem ptAt_unlockPoint (n m : Nat) (s : State) : ptAt (unlockPoint n s) m =
    if m = n then (ptAt s m).map (fun st => { st with locks := st.locks - 1 }) else ptAt s m := by
  rw [still_ptAt (still_unlockPoint n s)]
  by_cases h : m = n
  · rw [if_pos h, h, ptAt_updatePt_same]
  · rw [if_neg h, ptAt_updatePt_other _ _ h]

/-- A point with fewer locks (R34). -/
def fewerLocks (c : Nat) (st : PtState) : PtState := { st with locks := st.locks - c }

/-- Every point has one lock fewer for each place it has on the list (R34). -/
theorem ptAt_unlockAll (l : List HeldPoint) (m : Nat) (s : State) :
    ptAt (unlockAll l s) m = (ptAt s m).map (fewerLocks (l.countP (fun h => h.point == m))) := by
  unfold unlockAll
  induction l generalizing s with
  | nil =>
    have hnone : fewerLocks 0 = id := rfl
    simp [hnone]
  | cons h l ih =>
    rw [List.foldl_cons, ih, ptAt_unlockPoint]
    by_cases hm : m = h.point
    · subst hm
      rw [if_pos rfl, Option.map_map, List.countP_cons_of_pos (by simp)]
      congr 1
      funext st
      simp only [Function.comp_apply, fewerLocks, Nat.sub_sub, Nat.add_comm]
    · simp [hm, Ne.symm hm]

theorem sections_unlockAll (l : List HeldPoint) (s : State) : (unlockAll l s).il.sections = s.il.sections :=
  foldl_same (fun x : State => x.il.sections) _ (fun x (h : HeldPoint) => (still_sections (still_unlockPoint h.point x)).trans rfl) l s

theorem instances_unlockAll (l : List HeldPoint) (s : State) : (unlockAll l s).il.instances = s.il.instances :=
  foldl_same (fun x : State => x.il.instances) _ (fun x (h : HeldPoint) => (still_instances (still_unlockPoint h.point x)).trans rfl) l s

/-! ### Slots -/

theorem instAt_freeSlot (slot k : Nat) (s : State) :
    instAt (freeSlot slot s) k = if k = slot then none else instAt s k := by
  by_cases h : k = slot
  · rw [if_pos h, h]
    exact findItem_dropItem_same _ _
  · rw [if_neg h]
    exact findItem_dropItem_other _ _ _ h

/-! ### What is given up, and stays given up -/

/-- From `s` to `t` things were given up alone: locks of sections that went, locks of points that became fewer. -/
structure GivenUp (s t : State) : Prop where
  tables : Tables s t
  locks : ∀ m, secAt t m = secAt s m ∨ secAt t m = (secAt s m).map (fun st => { st with lock := none })
  points : ∀ m, ∃ c, ptAt t m = (ptAt s m).map (fewerLocks c)

namespace GivenUp

protected theorem refl (s : State) : GivenUp s s :=
  ⟨Tables.refl s, fun _ => .inl rfl, fun _ => ⟨0, by rw [show fewerLocks 0 = id from rfl, Option.map_id]; rfl⟩⟩

protected theorem trans (h : GivenUp s t) (k : GivenUp t u) : GivenUp s u := by
  refine ⟨h.tables.trans k.tables, fun m => ?_, fun m => ?_⟩
  · obtain hk | hk := k.locks m
    · rw [hk]
      exact h.locks m
    · right
      rw [hk]
      obtain hh | hh := h.locks m <;> rw [hh]
      rw [Option.map_map]
      rfl
  · obtain ⟨c, hc⟩ := h.points m
    obtain ⟨d, hd⟩ := k.points m
    refine ⟨c + d, ?_⟩
    rw [hd, hc, Option.map_map]
    congr 1
    funext st
    simp [fewerLocks, Nat.sub_sub]

/-- A lock that does not stand does not come back. -/
theorem lockedTo_false (h : GivenUp s t) {slot n : Nat} {role : LockRole} (hn : lockedTo s slot role n = false) :
    lockedTo t slot role n = false := by
  unfold lockedTo at hn ⊢
  obtain hk | hk := h.locks n
  · rw [hk]
    exact hn
  · rw [hk]
    cases secAt s n <;> simp

end GivenUp

/-! ### Failure (R64) -/

/-- The failure of an instance, table by table (R64). -/
theorem still_failInst {slot : Nat} {i : Inst} (why : FailReason) (hi : instAt s slot = some i) :
    still (failInst slot why s) = still (freeSlot slot (giveUpAll slot i s)) := by
  simp only [failInst, hi]
  rw [still_ifDemo _ (still_demoFailed slot), still_recomputeEntry]
  exact still_freeSlot_congr (by rw [still_count, still_raise]) slot

/-- The sections an instance gives up have no lock of it any more. -/
theorem lockedTo_giveUpAll (slot : Nat) (i : Inst) (s : State) :
    (∀ x ∈ instSections s i, lockedTo (giveUpAll slot i s) slot .route x.1 = false) ∧
    (∀ n ∈ i.overlap, lockedTo (giveUpAll slot i s) slot .overlap n = false) := by
  have hsec : ∀ m, secAt (giveUpAll slot i s) m = secAt (freeHeld slot .overlap i.overlap
      (freeHeld slot .route ((instSections s i).map (·.1)) s)) m := fun m => by
    rw [secAt, giveUpAll, sections_unlockAll, ← secAt]
  refine ⟨fun x hx => ?_, fun n hn => ?_⟩
  · refine (lockedTo_eq_false_iff _ _ _ _).2 fun st hst hlock => ?_
    rw [hsec, secAt_freeHeld, secAt_freeHeld, if_pos (List.mem_map_of_mem hx)] at hst
    split at hst
    · obtain ⟨y, hy, rfl⟩ := Option.map_eq_some_iff.1 hst
      obtain ⟨z, -, rfl⟩ := Option.map_eq_some_iff.1 hy
      exact lock_withoutLock _ z (lock_of_withoutLock hlock)
    · obtain ⟨z, -, rfl⟩ := Option.map_eq_some_iff.1 hst
      exact lock_withoutLock _ z hlock
  · refine (lockedTo_eq_false_iff _ _ _ _).2 fun st hst hlock => ?_
    rw [hsec, secAt_freeHeld, if_pos hn] at hst
    obtain ⟨z, -, rfl⟩ := Option.map_eq_some_iff.1 hst
    exact lock_withoutLock _ z hlock

theorem givenUp_freeSection (n : Nat) (s : State) : GivenUp s (freeSection n s) := by
  refine ⟨(Tables.refl s).freeSection n, fun m => ?_, fun m => ⟨0, ?_⟩⟩
  · rw [secAt_freeSection]
    split
    · exact .inr rfl
    · exact .inl rfl
  · rw [ptAt, points_freeSection, ← ptAt, show fewerLocks 0 = id from rfl, Option.map_id]
    rfl

theorem givenUp_unlockAll (l : List HeldPoint) (s : State) : GivenUp s (unlockAll l s) :=
  ⟨(Tables.refl s).foldl (fun _ h hx => hx.unlockPoint h.point) l,
    fun m => .inl (by rw [secAt, sections_unlockAll, secAt]), fun m => ⟨_, ptAt_unlockAll l m s⟩⟩

theorem givenUp_freeHeld (slot : Nat) (role : LockRole) (l : List Nat) (s : State) : GivenUp s (freeHeld slot role l s) := by
  refine foldl_keeps (GivenUp s) _ (fun x n hx => ?_) l s (GivenUp.refl s)
  split
  · exact hx.trans (givenUp_freeSection n x)
  · exact hx

theorem givenUp_giveUpAll (slot : Nat) (i : Inst) (s : State) : GivenUp s (giveUpAll slot i s) :=
  ((givenUp_freeHeld slot .route _ s).trans (givenUp_freeHeld slot .overlap _ _)).trans (givenUp_unlockAll _ _)

theorem givenUp_freeSlot (slot : Nat) (s : State) : GivenUp s (freeSlot slot s) :=
  ⟨(Tables.refl s).freeSlot slot, fun _ => .inl rfl, (GivenUp.refl s).points⟩

/-- What is still, was not given up. -/
theorem givenUp_of_still (h : still t = still s) : GivenUp s t :=
  ⟨(Tables.refl s).still h, fun m => .inl (still_secAt h m), fun m => ⟨0, by
    rw [still_ptAt h, show fewerLocks 0 = id from rfl, Option.map_id]; rfl⟩⟩

/-- The failure of an instance: what it held is given up, its slot is free, and no other instance changes (R64). -/
theorem failInst_spec {slot : Nat} {i : Inst} (why : FailReason) (hi : instAt s slot = some i) :
    GivenUp s (failInst slot why s) ∧
    (∀ k, instAt (failInst slot why s) k = if k = slot then none else instAt s k) ∧
    (∀ x ∈ instSections s i, lockedTo (failInst slot why s) slot .route x.1 = false) ∧
    (∀ n ∈ i.overlap, lockedTo (failInst slot why s) slot .overlap n = false) ∧
    (∀ m, ptAt (failInst slot why s) m = (ptAt s m).map (fewerLocks (i.held.countP (fun h => h.point == m)))) := by
  have hstill := still_failInst why hi
  have hgone : GivenUp (giveUpAll slot i s) (failInst slot why s) :=
    (givenUp_freeSlot slot _).trans (givenUp_of_still hstill)
  have hinst : (giveUpAll slot i s).il.instances = s.il.instances := by
    rw [giveUpAll, instances_unlockAll, instances_freeHeld, instances_freeHeld]
  obtain ⟨hroute, hoverlap⟩ := lockedTo_giveUpAll slot i s
  refine ⟨(givenUp_giveUpAll slot i s).trans hgone, fun k => ?_, fun x hx => hgone.lockedTo_false (hroute x hx),
    fun n hn => hgone.lockedTo_false (hoverlap n hn), fun m => ?_⟩
  · rw [still_instAt hstill, instAt_freeSlot, instAt, hinst, ← instAt]
  · rw [still_ptAt hstill, ptAt, freeSlot, State.withIl_il, ← ptAt, giveUpAll, ptAt_unlockAll, ptAt, points_freeHeld,
      points_freeHeld, ← ptAt]

/-! ### A point that is no longer proven, told to the instances (R62) -/

/-- An instance in SETTING holds the point. -/
def SettingHolds (n : Nat) (i : Inst) : Prop := i.state = .setting ∧ ∃ h ∈ i.held, h.point = n

/-- The point is proven in no position. -/
def Unproven (s : State) (n : Nat) : Prop := ∀ pos, ptProven s n pos = false

theorem GivenUp.unproven (h : GivenUp s t) {n : Nat} (hn : Unproven s n) : Unproven t n := by
  intro pos
  obtain ⟨c, hc⟩ := h.points n
  have := hn pos
  unfold ptProven at this ⊢
  rw [hc]
  cases hst : ptAt s n with
  | none => rfl
  | some st =>
    rw [hst] at this
    exact this

theorem pointTold_fails {n slot : Nat} {i : Inst} (why : FailReason) (hn : Unproven s n) (hi : instAt s slot = some i)
    (h : SettingHolds n i) : pointTold n why slot s = failInst slot why s := by
  obtain ⟨hstate, g, hg, hpoint⟩ := h
  have hfind : (i.held.find? (fun h => h.point == n)).isSome = true := List.find?_isSome.2 ⟨g, hg, by simp [hpoint]⟩
  obtain ⟨held, hheld⟩ := Option.isSome_iff_exists.1 hfind
  simp [pointTold, hi, hstate, hheld, hn held.pos]

theorem pointTold_idle {n slot : Nat} (why : FailReason) (h : ∀ i, instAt s slot = some i → ¬ SettingHolds n i) :
    pointTold n why slot s = s := by
  unfold pointTold
  split
  · rfl
  · rename_i i hi
    split
    · rename_i held hstate hfind
      exact absurd ⟨hstate, held, List.mem_of_find?_eq_some hfind, by simpa using List.find?_some hfind⟩ (h i hi)
    · rfl

/-- A change of a point's position told to the instances in a list of slots. -/
def toldAll (n : Nat) (why : FailReason) (l : List Nat) (s : State) : State :=
  l.foldl (fun s k => pointTold n why k s) s

/-- One instance told: it fails, or nothing changes (R62). -/
theorem pointTold_cases {n : Nat} (why : FailReason) (slot : Nat) (hn : Unproven s n) :
    (∃ i, instAt s slot = some i ∧ SettingHolds n i ∧ pointTold n why slot s = failInst slot why s) ∨
    ((∀ i, instAt s slot = some i → ¬ SettingHolds n i) ∧ pointTold n why slot s = s) := by
  by_cases h : ∃ i, instAt s slot = some i ∧ SettingHolds n i
  · obtain ⟨i, hi, hholds⟩ := h
    exact .inl ⟨i, hi, hholds, pointTold_fails why hn hi hholds⟩
  · have hidle : ∀ i, instAt s slot = some i → ¬ SettingHolds n i := fun i hi hholds => h ⟨i, hi, hholds⟩
    exact .inr ⟨hidle, pointTold_idle why hidle⟩

theorem givenUp_pointTold {n : Nat} (why : FailReason) (slot : Nat) (hn : Unproven s n) :
    GivenUp s (pointTold n why slot s) := by
  obtain ⟨i, hi, -, heq⟩ | ⟨-, heq⟩ := pointTold_cases why slot hn
  · rw [heq]
    exact (failInst_spec why hi).1
  · rw [heq]
    exact GivenUp.refl s

theorem givenUp_toldAll {n : Nat} (why : FailReason) (l : List Nat) (hn : Unproven s n) : GivenUp s (toldAll n why l s) := by
  induction l generalizing s with
  | nil => exact GivenUp.refl s
  | cons k l ih =>
    have hone := givenUp_pointTold why k hn
    exact hone.trans (ih (hone.unproven hn))

/-- Where no instance listed holds the point in SETTING, nothing changes. -/
theorem toldAll_idle {n : Nat} (why : FailReason) {l : List Nat}
    (h : ∀ k ∈ l, ∀ i, instAt s k = some i → ¬ SettingHolds n i) : toldAll n why l s = s := by
  induction l with
  | nil => rfl
  | cons k l ih =>
    rw [toldAll, List.foldl_cons, pointTold_idle why (h k List.mem_cons_self)]
    exact ih fun j hj => h j (List.mem_cons_of_mem _ hj)

/-- An instance that does not hold the point in SETTING stays as it is, and so does a free slot. -/
theorem instAt_toldAll_other {n k : Nat} (why : FailReason) (l : List Nat) (hn : Unproven s n)
    (h : ∀ i, instAt s k = some i → ¬ SettingHolds n i) : instAt (toldAll n why l s) k = instAt s k := by
  induction l generalizing s with
  | nil => rfl
  | cons j l ih =>
    have hsame : instAt (pointTold n why j s) k = instAt s k := by
      obtain ⟨i, hi, hholds, heq⟩ | ⟨-, heq⟩ := pointTold_cases why j hn
      · have hne : k ≠ j := fun hkj => h i (hkj ▸ hi) hholds
        obtain ⟨-, hinst, -⟩ := failInst_spec why hi
        rw [heq, hinst, if_neg hne]
      · rw [heq]
    rw [toldAll, List.foldl_cons]
    exact (ih ((givenUp_pointTold why j hn).unproven hn) (hsame ▸ h)).trans hsame

/-- An instance listed that holds the point in SETTING fails: its slot is free, and it holds no section any more (R64). -/
theorem toldAll_failed {n k : Nat} {i : Inst} (why : FailReason) {l : List Nat} (hn : Unproven s n) (hk : k ∈ l)
    (hi : instAt s k = some i) (h : SettingHolds n i) :
    instAt (toldAll n why l s) k = none ∧
    (∀ x ∈ instSections s i, lockedTo (toldAll n why l s) k .route x.1 = false) ∧
    (∀ x ∈ i.overlap, lockedTo (toldAll n why l s) k .overlap x = false) := by
  induction l generalizing s with
  | nil => cases hk
  | cons j l ih =>
    have hone := givenUp_pointTold why j hn
    rw [toldAll, List.foldl_cons]
    by_cases hjk : j = k
    · subst hjk
      have heq := pointTold_fails why hn hi h
      obtain ⟨-, hinst, hroute, hoverlap, -⟩ := failInst_spec why hi
      have hrest := givenUp_toldAll why l (hone.unproven hn)
      rw [heq] at hrest hone ⊢
      refine ⟨?_, fun x hx => hrest.lockedTo_false (hroute x hx), fun x hx => hrest.lockedTo_false (hoverlap x hx)⟩
      have hfree : instAt (failInst j why s) j = none := by rw [hinst, if_pos rfl]
      exact (instAt_toldAll_other why l (hone.unproven hn) (by simp [hfree])).trans hfree
    · have hkeep : instAt (pointTold n why j s) k = some i := by
        obtain ⟨i', hi', -, heq⟩ | ⟨-, heq⟩ := pointTold_cases why j hn
        · obtain ⟨-, hinst, -⟩ := failInst_spec why hi'
          rw [heq, hinst, if_neg (Ne.symm hjk), hi]
        · rw [heq, hi]
      have hsections : instSections (pointTold n why j s) i = instSections s i := by
        simp only [instSections, routeAt, desc, margin_store hone.tables.apart]
      obtain ⟨hnone, hroute, hoverlap⟩ := ih (hone.unproven hn) ((List.mem_cons.1 hk).resolve_left (Ne.symm hjk)) hkeep
      exact ⟨hnone, fun x hx => hroute x (hsections ▸ hx), hoverlap⟩

/-- Where one instance alone fails, every point has one lock fewer for each place on its list (R34, R64). -/
theorem ptAt_toldAll_single {n k : Nat} {i : Inst} (why : FailReason) {l : List Nat} (hn : Unproven s n) (hk : k ∈ l)
    (hi : instAt s k = some i) (h : SettingHolds n i)
    (hothers : ∀ j i', j ≠ k → instAt s j = some i' → ¬ SettingHolds n i') (m : Nat) :
    ptAt (toldAll n why l s) m = (ptAt s m).map (fewerLocks (i.held.countP (fun h => h.point == m))) := by
  induction l with
  | nil => cases hk
  | cons j l ih =>
    rw [toldAll, List.foldl_cons]
    by_cases hjk : j = k
    · subst hjk
      obtain ⟨-, hinst, -, -, hpts⟩ := failInst_spec why hi
      rw [pointTold_fails why hn hi h]
      refine (congrArg (ptAt · m) (toldAll_idle why fun q _ i' hi' => ?_)).trans (hpts m)
      rw [hinst] at hi'
      split at hi'
      · cases hi'
      · exact hothers q i' ‹_› hi'
    · rw [pointTold_idle why fun i' hi' => hothers j i' hjk hi']
      exact ih ((List.mem_cons.1 hk).resolve_left (Ne.symm hjk))

/-- The slots of the instances that hold a point list every instance that holds it in SETTING. -/
theorem mem_slotsWhere_of_settingHolds {n k : Nat} {i : Inst} (hi : instAt s k = some i) (h : SettingHolds n i) :
    k ∈ slotsWhere s (fun i => i.held.any (fun g => g.point == n)) := by
  obtain ⟨-, g, hg, hpoint⟩ := h
  refine List.mem_map.2 ⟨(k, i), List.mem_filter.2 ⟨mem_of_findItem hi, ?_⟩, rfl⟩
  simpa using ⟨g, hg, hpoint⟩

/-! ### The expiry of the move timer (R32) -/

/-- A point whose move timer has expired, before any instance is told (R32). -/
def timedOut (n : Nat) (s : State) : State :=
  notePoint n .timeout (updatePt s n (fun st => { st with reported := .unproven, timer := none }))

theorem still_timedOut (n : Nat) (s : State) :
    still (timedOut n s) = still (updatePt s n (fun st => { st with reported := .unproven, timer := none })) :=
  still_notePoint _ _ _

/-- A change of a point's position told to the instances that hold it (R61, R62). -/
def toldHolders (n : Nat) (why : FailReason) (s : State) : State :=
  toldAll n why (slotsWhere s (fun i => i.held.any (fun g => g.point == n))) s

/-- A change that leaves the point unproven is told to the instances, and the aspects that read the point are recomputed; it
makes no request eligible (R30, R32, R36). -/
theorem pointHandOn_unproven {n : Nat} {st : PtState} (why : FailReason) (hst : ptAt s n = some st)
    (hrep : st.reported = .unproven) :
    pointHandOn n why s = recomputeAll (pointSignals (toldHolders n why s) n) (toldHolders n why s) := by
  have hnone : (ptAt s n).any (fun st => (positionOf st.reported).isSome) = false := by simp [hst, hrep, positionOf]
  simp only [pointHandOn, hnone]
  rfl

/-- Settles O33: the instances in SETTING that hold the point fail one by one, and what each holds goes with it. -/
theorem pointMoveTimeout : Obligations.PointMoveTimeout := by
  intro n st s hst htimer fails
  have hexec : exec (.pointMoveTimeout n) s = .next (pointTimeout n s) := by
    have hruns : (ptAt s n).any (fun st => st.timer.isSome) = true := by simp [hst, htimer]
    exact congrArg Host.Outcome.next (if_pos hruns)
  have hpt : ptAt (timedOut n s) n = some { st with reported := .unproven, timer := none } := by
    rw [still_ptAt (still_timedOut n s), ptAt_updatePt_same, hst]
    rfl
  have hothers : ∀ m, m ≠ n → ptAt (timedOut n s) m = ptAt s m := fun m hm => by
    rw [still_ptAt (still_timedOut n s), ptAt_updatePt_other _ _ hm]
  have hinst : ∀ k, instAt (timedOut n s) k = instAt s k := fun k => (still_instAt (still_timedOut n s) k).trans rfl
  have htables : Tables s (timedOut n s) := ((Tables.refl s).updatePt n _).still (still_timedOut n s)
  have hun : Unproven (timedOut n s) n := fun pos => by
    rw [ptProven, hpt]
    cases pos <;> rfl
  have hgone : GivenUp (timedOut n s) (toldHolders n (.pointTimeout n) (timedOut n s)) := givenUp_toldAll _ _ hun
  have heq : pointTimeout n s = recomputeAll (pointSignals (toldHolders n (.pointTimeout n) (timedOut n s)) n)
      (toldHolders n (.pointTimeout n) (timedOut n s)) := pointHandOn_unproven _ hpt rfl
  have hstill : still (pointTimeout n s) = still (toldHolders n (.pointTimeout n) (timedOut n s)) :=
    (congrArg still heq).trans (still_recomputeAll _ _)
  obtain ⟨c, hc⟩ := hgone.points n
  rw [hpt] at hc
  have hall : Tables s (pointTimeout n s) := (htables.trans hgone.tables).still hstill
  generalize pointTimeout n s = t at hexec heq hstill hall ⊢
  refine ⟨t, fewerLocks c { st with reported := .unproven, timer := none }, hexec, ?_, rfl, Nat.sub_le _ _,
    fun m hm => ?_, fun slot i hi hf => ?_, fun slot i hi hf => ?_, fun hnone => ?_, fun slot i hi hf halone m => ?_,
    hall.settled, hall.districts, margin_deck hall.apart, inner_of_margin hall.apart⟩
  · rw [still_ptAt hstill, hc]
    rfl
  · obtain ⟨d, hd⟩ := hgone.points m
    rw [still_ptAt hstill, hd, hothers m hm, Option.map_map]
    rfl
  · have hmem := mem_slotsWhere_of_settingHolds ((hinst slot).trans hi) hf
    obtain ⟨hfree, hroute, hoverlap⟩ := toldAll_failed (.pointTimeout n) hun hmem ((hinst slot).trans hi) hf
    have hsections : instSections (timedOut n s) i = instSections s i := by
      simp only [instSections, routeAt, desc, margin_store htables.apart]
    rw [hsections] at hroute
    have hlock : ∀ role x, lockedTo t slot role x =
        lockedTo (toldHolders n (.pointTimeout n) (timedOut n s)) slot role x := fun role x => by
      rw [lockedTo, lockedTo, still_secAt hstill]
    exact ⟨(still_instAt hstill slot).trans hfree, fun x hx => (hlock _ _).trans (hroute x hx),
      fun x hx => (hlock _ _).trans (hoverlap x hx)⟩
  · have hsame := instAt_toldAll_other (k := slot) (.pointTimeout n)
      (slotsWhere (timedOut n s) (fun i => i.held.any (fun g => g.point == n))) hun fun i' hi' => by
        rw [hinst, hi] at hi'
        cases hi'
        exact hf
    exact (still_instAt hstill slot).trans (hsame.trans ((hinst slot).trans hi))
  · have hidle : toldHolders n (.pointTimeout n) (timedOut n s) = timedOut n s :=
      toldAll_idle _ fun k _ i hi => hnone k i (hinst k ▸ hi)
    rw [hidle] at heq hstill hc
    have hunlit : unlit t = unlit (updatePt s n (fun st => { st with reported := .unproven, timer := none })) :=
      (congrArg unlit heq).trans ((unlit_recomputeAll _ _).trans (unlit_of_quiet (notePoint_blocks _ _ _)))
    refine ⟨(still_sections hstill).trans ((still_sections (still_timedOut n s)).trans rfl), ?_, fun m hm => ?_,
      congrArg (fun x => x.trains) hunlit, ?_⟩
    · exact (congrArg PtState.locks (Option.some.inj (hc.symm.trans hpt))).trans rfl
    · rw [still_ptAt hstill, hothers m hm]
    · exact (inner_withIl_of_unlit s.il hunlit).trans (by cases s; rfl)
  · have hmem := mem_slotsWhere_of_settingHolds ((hinst slot).trans hi) hf
    have hone := ptAt_toldAll_single (.pointTimeout n) hun hmem ((hinst slot).trans hi) hf
      (fun j i' hj hi' => halone j i' hj (hinst j ▸ hi')) m
    rw [still_ptAt hstill]
    refine (congrArg (Option.map PtState.locks) hone).trans ?_
    rw [Option.map_map]
    by_cases hm : m = n
    · rw [hm, hpt, hst]
      rfl
    · rw [hothers m hm]
      rfl

end Sys2Proof.Machine
end

section
/-! PROOFS. What the work on one route instance leaves of the others, and the test of R61 (chapters 4 and 8). -/

namespace Sys2Proof.Machine

open Sys2Proof

-- One theorem at a time: theorems that wait for each other would hold a thread each.
set_option Elab.async false

variable {s t u : State}

/-! ### The Demonstration Unit without its lamps -/

/-- The buttons without their lamps. -/
def unlampedButton (b : Button) : Button := { b with lamp := .closed }

/-- The Demonstration Unit without its lamps. -/
def unlampedDemo (d : Demo) : Demo := { d with buttons := d.buttons.map (fun e => (e.1, unlampedButton e.2)) }

/-- The state without lamps, the ring and reports. -/
def unlamped (s : State) : State := inner (s.withDemo (unlampedDemo s.demo))

theorem unlamped_of_inner (h : inner t = inner s) : unlamped t = unlamped s :=
  congrArg (fun x : State => x.withDemo (unlampedDemo x.demo)) h
theorem unlamped_of_quiet (h : quiet t = quiet s) : unlamped t = unlamped s := unlamped_of_inner (inner_of_quiet h)
theorem unlamped_trains (h : unlamped t = unlamped s) : t.trains = s.trains := congrArg (fun x => x.trains) h
theorem unlamped_run (h : unlamped t = unlamped s) : t.demo.run = s.demo.run := congrArg (fun x => x.demo.run) h
theorem unlamped_cancel (h : unlamped t = unlamped s) : t.demo.cancel = s.demo.cancel := congrArg (fun x => x.demo.cancel) h
theorem unlamped_queue (h : unlamped t = unlamped s) : t.demo.queue = s.demo.queue := congrArg (fun x => x.demo.queue) h

/-- The level shown of a button is read through it. -/
theorem unlamped_level (h : unlamped t = unlamped s) (n : Nat) :
    (findItem t.demo.buttons n).map (·.level) = (findItem s.demo.buttons n).map (·.level) := by
  have htable : t.demo.buttons.map (fun e => (e.1, unlampedButton e.2)) =
      s.demo.buttons.map (fun e => (e.1, unlampedButton e.2)) := congrArg (fun x => x.demo.buttons) h
  have hitem := congrArg (fun x => (findItem x n).map Button.level) htable
  rw [findItem_map_entry _ unlampedButton, findItem_map_entry _ unlampedButton, Option.map_map, Option.map_map] at hitem
  exact hitem

@[simp] theorem unlamped_raise (n : Notice) (s : State) : unlamped (raise n s) = unlamped s :=
  unlamped_of_quiet (quiet_raise n s)
@[simp] theorem unlamped_count (e : EventKind) (q : Option Party) (d : Option Nat) (s : State) :
    unlamped (count e q d s) = unlamped s := unlamped_of_quiet (quiet_count e q d s)
@[simp] theorem unlamped_offer (c : RingCmd) (s : State) : unlamped (offer c s) = unlamped s :=
  unlamped_of_inner (inner_offer c s)

/-- A lamp recomputed changes lamps and the ring alone (R137). -/
@[simp] theorem unlamped_recomputeLamp (n : Nat) (s : State) : unlamped (recomputeLamp n s) = unlamped s := by
  unfold recomputeLamp
  split
  · rfl
  · split
    · rfl
    · rw [unlamped_offer]
      have hbuttons := map_updateItem s.demo.buttons n (fun b => { b with lamp := lampFor s.demo n }) unlampedButton
        fun _ => rfl
      simp only [unlamped, unlampedDemo, State.withDemo_demo, hbuttons]
      rfl

/-- The start of the head's admission timer changes that timer alone (R142). -/
theorem startHeadTimer_within (s : State) : ∃ q, startHeadTimer s = s.withDemo { s.demo with queue := q } ∧
    q.map (fun e => (e.plan, e.accepted)) = s.demo.queue.map (fun e => (e.plan, e.accepted)) := by
  unfold startHeadTimer
  split
  · rename_i e l hq
    split
    · exact ⟨_, rfl, by simp [hq]⟩
    · exact ⟨s.demo.queue, rfl, rfl⟩
  · exact ⟨s.demo.queue, rfl, rfl⟩

/-- The record of a train is told; another train's record stays. -/
theorem noteTrain_others (k : Nat) (ev : TrainEvent) (s : State) : (noteTrain k ev s).demo = s.demo ∧
    ∀ x, x ≠ k → trainAt (noteTrain k ev s) x = trainAt s x := by
  unfold noteTrain
  split
  · refine ⟨(quiet_demo (quiet_raise _ _)).trans rfl, fun x hx => ?_⟩
    rw [trainAt, quiet_trains (quiet_raise _ _)]
    exact findItem_updateItem_other _ _ _ _ hx
  · exact ⟨rfl, fun _ _ => rfl⟩

/-! ### Admission (R143) -/

/-- What an admission leaves: the run stands, the cancel list and the other trains are as they were, and so are the levels of
the buttons (R143). -/
theorem admitHead_leaves (plan : Nat) (pl : PlanEntry) (s : State) :
    (∃ r, (admitHead plan pl s).demo.run = some r ∧ r.plan = plan ∧ r.train = pl.train) ∧
    (admitHead plan pl s).demo.cancel = s.demo.cancel ∧
    (∀ x, x ≠ pl.train → trainAt (admitHead plan pl s) x = trainAt s x) ∧
    ∀ n, (findItem (admitHead plan pl s).demo.buttons n).map (·.level) = (findItem s.demo.buttons n).map (·.level) := by
  unfold admitHead
  extract_lets src s1 s2 s3 src'
  obtain ⟨hdemo, htrains⟩ := noteTrain_others pl.train .driver
    (updateTrain s1 pl.train (fun r => { r with driver := some .demo, throttle := pl.throttle, pendRev := false }))
  have hlamp : unlamped s3 = unlamped s2 := (unlamped_recomputeLamp _ _).trans (unlamped_raise _ _)
  have hrun : s3.demo.run = s1.demo.run := (unlamped_run hlamp).trans (congrArg Demo.run hdemo)
  have hcancel : s3.demo.cancel = s.demo.cancel := (unlamped_cancel hlamp).trans (congrArg Demo.cancel hdemo :)
  obtain ⟨q, hq, -⟩ := startHeadTimer_within
    (s3.withDemo { s3.demo with run := s3.demo.run.map (fun r => { r with hand := .fresh }) })
  rw [hq]
  refine ⟨⟨_, congrArg (Option.map _) hrun, rfl, rfl⟩, hcancel, fun x hx => ?_, fun n => ?_⟩
  · have hsame : trainAt s3 x = trainAt s2 x := by rw [trainAt, unlamped_trains hlamp, trainAt]
    exact hsame.trans ((htrains x hx).trans (findItem_updateItem_other _ _ _ _ hx))
  · have hbuttons : s2.demo.buttons = s.demo.buttons := (congrArg Demo.buttons hdemo :)
    exact (unlamped_level hlamp n).trans (by rw [hbuttons])

/-- No entry is admitted while a run or a cancellation is under way (R142). -/
theorem idle_of_admissionFails {e : DemoEntry} {pl : PlanEntry} (hpl : planEntry s e.plan = some pl)
    (h : admissionFails s e = none) : s.demo.run = none ∧ s.demo.cancel = [] := by
  simp only [admissionFails, hpl] at h
  split at h
  · cases h
  · split at h
    · cases h
    · rename_i hrun
      split at h
      · cases h
      · rename_i hcancel
        exact ⟨by simpa using hrun, by simpa using hcancel⟩

/-- The admission test does nothing, or admits the head of the queue with no run and no cancellation under way (R142). -/
theorem admissionTest_cases (s : State) : admissionTest s = s ∨
    ∃ e l pl, s.demo.queue = e :: l ∧ s.demo.run = none ∧ s.demo.cancel = [] ∧
      admissionTest s = admitHead e.plan pl s := by
  unfold admissionTest
  split
  · rename_i e l hq
    split
    · rename_i pl hpl
      split
      · rename_i hmay
        obtain ⟨hrun, hcancel⟩ := idle_of_admissionFails hpl (by simpa using (Bool.and_eq_true_iff.1 hmay).2)
        exact .inr ⟨e, l, pl, hq, hrun, hcancel, rfl⟩
      · exact .inl rfl
    · exact .inl rfl
  · exact .inl rfl

/-! ### What admissions in passing leave of trains and demonstrations -/

/-- Trains, the run's train and an empty cancel list stay as they are, or the cancel list was emptied with no run under way
and a demonstration was admitted (R142, R143, R147). -/
def Admissions (s t : State) : Prop :=
  (t.trains = s.trains ∧ t.demo.run.map Run.train = s.demo.run.map Run.train ∧ (s.demo.cancel = [] → t.demo.cancel = [])) ∨
  (s.demo.cancel ≠ [] ∧ s.demo.run = none ∧ t.demo.cancel = [] ∧
    ∃ r, t.demo.run = some r ∧ ∀ x, x ≠ r.train → trainAt t x = trainAt s x)

namespace Admissions

protected theorem refl (s : State) : Admissions s s := .inl ⟨rfl, rfl, id⟩

/-- Nothing of trains and demonstrations changes. -/
theorem same (htrains : t.trains = s.trains) (hdemo : t.demo = s.demo) : Admissions s t :=
  .inl ⟨htrains, by rw [hdemo], fun h => by rw [hdemo, h]⟩

theorem quiet (h : quiet t = quiet s) : Admissions s t := same (quiet_trains h) (quiet_demo h)
theorem unlit (h : unlit t = unlit s) : Admissions s t := same (unlit_trains h) (congrArg (fun x => x.demo) h)

protected theorem trans (h : Admissions s t) (k : Admissions t u) : Admissions s u := by
  obtain ⟨htrains, hrun, hcancel⟩ | ⟨hcancel, hrun, hemptied, r, hr, htrains⟩ := h
  · obtain ⟨ktrains, krun, kcancel⟩ | ⟨kcancel, krun, kemptied, r, hr, ktrains⟩ := k
    · exact .inl ⟨ktrains.trans htrains, krun.trans hrun, kcancel ∘ hcancel⟩
    · refine .inr ⟨kcancel ∘ hcancel, ?_, kemptied, r, hr, fun x hx => ?_⟩
      · rw [krun] at hrun
        simpa using hrun.symm
      · rw [ktrains x hx, trainAt, htrains, trainAt]
  · obtain ⟨ktrains, krun, kcancel⟩ | ⟨kcancel, -⟩ := k
    · obtain ⟨r', hr', hsame⟩ := Option.map_eq_some_iff.1 (krun.trans (congrArg (Option.map Run.train) hr))
      refine .inr ⟨hcancel, hrun, kcancel hemptied, r', hr', fun x hx => ?_⟩
      rw [trainAt, ktrains, ← trainAt]
      exact htrains x (hsame ▸ hx)
    · exact absurd hemptied kcancel

/-- Every train but one admitted in passing stays. -/
theorem trainAt_or (h : Admissions s t) (x : Nat) : trainAt t x = trainAt s x ∨ Admitted s t x := by
  obtain ⟨htrains, -⟩ | ⟨hcancel, hrun, -, r, hr, htrains⟩ := h
  · exact .inl (by rw [trainAt, htrains, trainAt])
  · by_cases hx : x = r.train
    · exact .inr ⟨hcancel, hrun, r, hr, hx.symm⟩
    · exact .inl (htrains x hx)

/-- An eligibility event marks the request in hand of the run (R58). -/
protected theorem eligible (s : State) : Admissions s (eligible s) := by
  unfold Machine.eligible
  dsimp only
  split
  · rename_i r hr
    have hrun : s.demo.run = some r := hr
    split
    · split
      · exact .refl s
      · exact .inl ⟨rfl, by rw [hrun]; rfl, id⟩
    · exact .refl s
  · exact .refl s

/-- An instance leaves the cancel list (R142, R147). -/
protected theorem leaveCancel (slot : Nat) (s : State) : Admissions s (leaveCancel slot s) := by
  unfold Machine.leaveCancel
  by_cases hin : s.demo.cancel.contains slot = true
  · rw [if_pos hin]
    extract_lets src s1
    have hne : s.demo.cancel ≠ [] := fun h => by simp [h] at hin
    have hleft : Admissions s s1 := .inl ⟨rfl, rfl, fun h => absurd h hne⟩
    split
    · obtain heq | ⟨e, l, pl, -, hrun, hcancel, heq⟩ := admissionTest_cases s1
      · rw [heq]
        exact hleft
      · obtain ⟨⟨r, hr, -, htrain⟩, hkept, htrains, -⟩ := admitHead_leaves e.plan pl s1
        rw [heq]
        exact .inr ⟨hne, hrun, hkept.trans hcancel, r, hr, fun x hx => htrains x (htrain ▸ hx)⟩
    · exact hleft
  · rw [if_neg hin]
    exact .refl s

protected theorem demoFreed (slot : Nat) (s : State) : Admissions s (demoFreed slot s) := by
  have hrecord : Admissions s (s.withDemo { s.demo with
      run := s.demo.run.map (fun r => { r with insts := r.insts.filter (fun e => e.1 != slot) }) }) :=
    .inl ⟨rfl, by simp [Function.comp_def], id⟩
  exact hrecord.trans (Admissions.leaveCancel slot _)

protected theorem ifDemo (q : Party) {f : State → State} (hf : ∀ x, Admissions x (f x)) (s : State) :
    Admissions s (ifDemo q f s) := by
  unfold Machine.ifDemo
  split
  · exact hf s
  · exact .refl s

end Admissions

/-! ### Work on one instance -/

theorem unlit_recomputeEntry (i : Inst) (s : State) : unlit (recomputeEntry i s) = unlit s := by
  unfold recomputeEntry
  split
  · exact unlit_recomputeChain _ _ _
  · rfl

theorem unlit_recomputeUpstream (i : Inst) (s : State) : unlit (recomputeUpstream i s) = unlit s := by
  unfold recomputeUpstream
  split
  · exact unlit_recomputeAll _ _
  · rfl

theorem instAt_updateInst_same (s : State) (k : Nat) (f : Inst → Inst) : instAt (updateInst s k f) k = (instAt s k).map f :=
  findItem_updateItem_same _ _ _
theorem instAt_updateInst_other (s : State) {k j : Nat} (f : Inst → Inst) (h : j ≠ k) :
    instAt (updateInst s k f) j = instAt s j := findItem_updateItem_other _ _ _ _ h

/-- The tables and the other instances that work on one instance leaves, whatever it does to that instance. -/
structure Beside (slot : Nat) (s t : State) : Prop where
  tables : Tables s t
  admits : Admissions s t
  others : ∀ k, k ≠ slot → instAt t k = instAt s k

namespace Beside

variable {slot : Nat}

protected theorem refl (slot : Nat) (s : State) : Beside slot s s := ⟨.refl s, .refl s, fun _ _ => rfl⟩

protected theorem trans (h : Beside slot s t) (k : Beside slot t u) : Beside slot s u :=
  ⟨h.tables.trans k.tables, h.admits.trans k.admits, fun j hj => (k.others j hj).trans (h.others j hj)⟩

protected theorem updateInst (slot : Nat) (f : Inst → Inst) (s : State) : Beside slot s (updateInst s slot f) :=
  ⟨(Tables.refl s).updateInst slot f, .refl s, fun _ hk => instAt_updateInst_other s f hk⟩

/-- What the acceptance, the cancellation and the release of a route leave alone. -/
theorem routeFrame (h : Beside slot s t) : RouteFrame s t := by
  refine ⟨h.tables.districts, h.tables.settled, h.admits.trainAt_or, ?_⟩
  have hdeck : (t.withIl s.il).withDeck s.deck = t.withIl s.il := by
    rw [← margin_deck h.tables.apart]
    cases t
    rfl
  rw [hdeck]
  exact inner_of_margin h.tables.apart

end Beside

/-- What an instance keeps while its sections are released: its deck claim, its state and its entering train. -/
def lasting (i : Inst) : Claim × InstState × Option Nat := (i.claim, i.state, i.entering)

/-- Work on one instance that frees it or keeps its state. -/
structure Release (slot : Nat) (s t : State) : Prop where
  beside : Beside slot s t
  self : ∀ y, instAt t slot = some y → ∃ x, instAt s slot = some x ∧ lasting y = lasting x

namespace Release

variable {slot : Nat}

protected theorem refl (slot : Nat) (s : State) : Release slot s s := ⟨.refl slot s, fun y hy => ⟨y, hy, rfl⟩⟩

protected theorem trans (h : Release slot s t) (k : Release slot t u) : Release slot s u := by
  refine ⟨h.beside.trans k.beside, fun z hz => ?_⟩
  obtain ⟨y, hy, hzy⟩ := k.self z hz
  obtain ⟨x, hx, hyx⟩ := h.self y hy
  exact ⟨x, hx, hzy.trans hyx⟩

/-- Work that changes no instance. -/
theorem tables (h : Release slot s t) (htables : Tables t u) (hadmits : Admissions t u)
    (hinst : u.il.instances = t.il.instances) : Release slot s u := by
  have hsame : ∀ k, instAt u k = instAt t k := fun k => by rw [instAt, hinst, instAt]
  exact h.trans ⟨⟨htables, hadmits, fun k _ => hsame k⟩, fun y hy => ⟨y, (hsame slot) ▸ hy, rfl⟩⟩

/-- Work that changes no table. -/
theorem plain (h : Release slot s t) (hstill : still u = still t) (hadmits : Admissions t u) : Release slot s u :=
  h.tables ((Tables.refl t).still hstill) hadmits (still_instances hstill)

theorem unlit (h : Release slot s t) (hunlit : unlit u = unlit t) : Release slot s u :=
  h.plain (still_of_unlit hunlit) (.unlit hunlit)

protected theorem raise (h : Release slot s t) (n : Notice) : Release slot s (raise n t) := h.unlit (unlit_raise n t)
protected theorem recomputeEntry (h : Release slot s t) (i : Inst) : Release slot s (recomputeEntry i t) :=
  h.unlit (unlit_recomputeEntry i t)
protected theorem recomputeUpstream (h : Release slot s t) (i : Inst) : Release slot s (recomputeUpstream i t) :=
  h.unlit (unlit_recomputeUpstream i t)
protected theorem count (h : Release slot s t) (e : EventKind) (q : Option Party) (d : Option Nat) :
    Release slot s (count e q d t) := h.unlit (unlit_of_quiet (quiet_count e q d t))
protected theorem eligible (h : Release slot s t) : Release slot s (eligible t) := h.plain (still_eligible t) (.eligible t)

protected theorem foldl {α : Type} (h : Release slot s t) {f : State → α → State}
    (hf : ∀ x a, Release slot s x → Release slot s (f x a)) (l : List α) : Release slot s (l.foldl f t) :=
  foldl_keeps (Release slot s) f hf l t h

protected theorem leaveCancel (h : Release slot s t) (q : Party) (k : Nat) : Release slot s (ifDemo q (leaveCancel k) t) :=
  h.plain (still_ifDemo q (still_leaveCancel k) t) (.ifDemo q (.leaveCancel k) t)
protected theorem demoFreed (h : Release slot s t) (q : Party) (k : Nat) : Release slot s (ifDemo q (demoFreed k) t) :=
  h.plain (still_ifDemo q (still_demoFreed k) t) (.ifDemo q (.demoFreed k) t)

protected theorem setLock (h : Release slot s t) (n : Nat) (l : Option Lock) : Release slot s (setLock n l t) :=
  h.tables ((Tables.refl t).setLock n l)
    (.trans (.refl (updateSec t n (fun st => { st with lock := l }))) (by
      unfold Machine.setLock Machine.noteSection
      split
      · exact .quiet (quiet_raise _ _)
      · exact .refl _))
    ((still_instances (still_setLock n l t)).trans rfl)

protected theorem freeSection (h : Release slot s t) (n : Nat) : Release slot s (freeSection n t) := (h.setLock n none).eligible

protected theorem unlockPoint (h : Release slot s t) (n : Nat) : Release slot s (unlockPoint n t) :=
  h.tables ((Tables.refl t).unlockPoint n)
    (.trans (.refl (updatePt t n (fun st => { st with locks := st.locks - 1 }))) (.quiet (notePoint_blocks _ _ _)))
    ((still_instances (still_unlockPoint n t)).trans rfl)

protected theorem unlockAll (h : Release slot s t) (l : List HeldPoint) : Release slot s (unlockAll l t) :=
  h.foldl (fun _ g hx => hx.unlockPoint g.point) l

/-- The instance changed but for what lasts. -/
protected theorem updateInst (h : Release slot s t) {f : Inst → Inst} (hf : ∀ i, lasting (f i) = lasting i := by exact fun _ => rfl) :
    Release slot s (updateInst t slot f) := by
  refine h.trans ⟨.updateInst slot f t, fun y hy => ?_⟩
  rw [instAt_updateInst_same] at hy
  obtain ⟨x, hx, rfl⟩ := Option.map_eq_some_iff.1 hy
  exact ⟨x, hx, hf x⟩

protected theorem freeSlot (h : Release slot s t) : Release slot s (freeSlot slot t) := by
  refine h.trans ⟨⟨(Tables.refl t).freeSlot slot, .refl t, fun k hk => ?_⟩, fun y hy => ?_⟩
  · rw [instAt_freeSlot, if_neg hk]
  · rw [instAt_freeSlot, if_pos rfl] at hy
    cases hy

/-! ### Sectional release and freeing (R70, R71) -/

protected theorem freeTest (h : Release slot s t) : Release slot s (freeTest slot t) := by
  unfold Machine.freeTest
  split
  · exact h
  · rename_i i _
    split
    · exact (((((h.unlockAll i.held).freeSlot).raise _).recomputeEntry i).recomputeUpstream i).demoFreed _ slot
    · exact h

protected theorem releaseOne (h : Release slot s t) (k : Nat) : Release slot s (releaseOne slot k t) := by
  unfold Machine.releaseOne
  split
  · exact h
  · extract_lets s1 s2 gone here flanks s3
    have hfreed : Release slot s s2 := by
      dsimp only [s2]
      split
      · exact Release.freeSection h.updateInst _
      · exact h.updateInst
    exact (((hfreed.unlockAll _).unlockAll _).updateInst).recomputeEntry _

protected theorem cascade (h : Release slot s t) (fuel k : Nat) : Release slot s (cascade slot fuel k t) := by
  induction fuel generalizing k t with
  | zero => exact h
  | succ fuel ih =>
    rw [Machine.cascade]
    split
    · exact ih (h.releaseOne k) (k + 1)
    · exact h

protected theorem releaseFrom (h : Release slot s t) (k : Nat) : Release slot s (releaseFrom slot k t) := by
  unfold Machine.releaseFrom
  split
  · exact (h.cascade 13 k).freeTest
  · exact h

end Release

/-! ### OCCUPIED and the test of R61 -/

/-- An instance whose first-passing train is known enters OCCUPIED with it, and stays OCCUPIED until it is freed (R68). -/
theorem enterOccupied_spec {slot x : Nat} {i : Inst} (hi : instAt s slot = some i) (hx : i.firstPassing = some x) :
    Beside slot s (enterOccupied slot s) ∧
      ∀ y, instAt (enterOccupied slot s) slot = some y → lasting y = (i.claim, .occupied, some x) := by
  simp only [enterOccupied, hi, hx]
  have hrelease := Release.releaseFrom ((((Release.refl slot
    (updateInst s slot (fun i => { i with state := .occupied, entering := some x }))).raise
      (.route (.occupied slot i.route x))).recomputeEntry i).leaveCancel i.requester slot) 0
  refine ⟨(Beside.updateInst slot _ s).trans hrelease.beside, fun y hy => ?_⟩
  obtain ⟨z, hz, hyz⟩ := hrelease.self y hy
  rw [instAt_updateInst_same, hi] at hz
  obtain rfl := Option.some.inj hz
  exact hyz

/-- What R61 asks, as the test checks it. -/
theorem setReady_iff {i : Inst} (hi : i.state = .setting) : setReady s i = true ↔ ReadyToSet s i := by
  have hdeck : needsDeck s i = false ↔ ∀ r, routeAt s i.route = some r →
      r.deckReq = none ∧ ∀ x ∈ r.sections, isDeckSection s x.1 = false := by
    cases hr : routeAt s i.route with
    | none => simp [needsDeck, hr]
    | some r => simp [needsDeck, hr]
  simp only [setReady, ReadyToSet, hi, Bool.and_eq_true, Bool.or_eq_true, Bool.not_eq_true', hdeck, beq_self_eq_true, true_and,
    List.all_eq_true, beq_iff_eq]

/-- The test of R61 on an instance in SETTING, and what it leaves of the others. -/
theorem setTest_spec {slot : Nat} {i : Inst} (hi : instAt s slot = some i) (hstate : i.state = .setting) :
    SetTested slot i s (setTest slot s) ∧ Beside slot s (setTest slot s) ∧
      (¬ ReadyToSet s i → setTest slot s = s) ∧
      ∀ y, instAt (setTest slot s) slot = some y → y.claim = i.claim ∧ (ReadyToSet s i → y.state ≠ .setting) := by
  by_cases hready : ReadyToSet s i
  · have hyes := (setReady_iff hstate).2 hready
    simp only [setTest, hi, hyes, if_true]
    generalize hs2 : count .routesSet (some i.requester) (routeDistrict (updateInst s slot (fun i => { i with state := .set })) i.route)
      (raise (.route (.set slot i.route)) (updateInst s slot (fun i => { i with state := .set }))) = s2
    have hunlit : unlit s2 = unlit (updateInst s slot (fun i => { i with state := .set })) := by
      rw [← hs2, unlit_of_quiet (quiet_count _ _ _ _), unlit_raise]
    have hset : Beside slot s s2 := (Beside.updateInst slot _ s).trans ((Release.refl slot _).unlit hunlit).beside
    have hi2 : instAt s2 slot = some { i with state := .set } := by
      rw [still_instAt (still_of_unlit hunlit), instAt_updateInst_same, hi]
      rfl
    cases hfirst : i.firstPassing with
    | none =>
      have hi3 : instAt (recomputeEntry i s2) slot = some { i with state := .set } :=
        (still_instAt (still_recomputeEntry i s2) slot).trans hi2
      refine ⟨⟨fun h => absurd hready h, fun _ _ => hi3, fun _ _ h => (by simp [hfirst] at h)⟩,
        hset.trans ((Release.refl slot s2).recomputeEntry i).beside, fun h => absurd hready h, fun y hy => ?_⟩
      obtain rfl := Option.some.inj (hi3.symm.trans hy)
      exact ⟨rfl, fun _ h => by cases h⟩
    | some x =>
      obtain ⟨hbeside, hself⟩ := enterOccupied_spec hi2 hfirst
      have hlast : ∀ y, instAt (enterOccupied slot s2) slot = some y →
          y.claim = i.claim ∧ y.state = .occupied ∧ y.entering = some x := fun y hy => by
        simpa [lasting] using hself y hy
      refine ⟨⟨fun h => absurd hready h, fun _ h => (by simp [hfirst] at h), fun z _ hz y hy => ?_⟩, hset.trans hbeside,
        fun h => absurd hready h, fun y hy => ?_⟩
      · obtain rfl := Option.some.inj (hfirst.symm.trans hz)
        exact (hlast y hy).2
      · obtain ⟨hclaim, hoccupied, -⟩ := hlast y hy
        exact ⟨hclaim, fun _ h => by rw [hoccupied] at h; cases h⟩
  · have hnot : setReady s i = false := by
      rw [Bool.eq_false_iff]
      exact mt (setReady_iff hstate).1 hready
    have hsame : setTest slot s = s := by simp [setTest, hi, hnot]
    rw [hsame]
    refine ⟨⟨fun _ => hi, fun h => absurd h hready, fun _ h => absurd h hready⟩, .refl slot s, fun _ => rfl, fun y hy => ?_⟩
    obtain rfl := Option.some.inj (hi.symm.trans hy)
    exact ⟨rfl, fun h => absurd h hready⟩

end Sys2Proof.Machine
end

section
/-! PROOFS. What good answers of the POINT and DETECT modules do, item by item (chapter 2). -/

namespace Sys2Proof.Machine

open Sys2Proof

-- One theorem at a time: theorems that wait for each other would hold a thread each.
set_option Elab.async false

variable {s t : State}

/-! ### Items of a module -/

/-- Where no number stands twice, every entry is found under its number. -/
theorem findItem_of_mem {α : Type} {l : Table α} (h : (itemNumbers l).Nodup) {k : Nat} {a : α} (hmem : (k, a) ∈ l) :
    findItem l k = some a := by
  induction l with
  | nil => cases hmem
  | cons e l ih =>
    obtain ⟨j, b⟩ := e
    obtain ⟨hfresh, hrest⟩ := List.nodup_cons.1 h
    obtain heq | hin := List.mem_cons.1 hmem
    · cases heq
      simp [findItem]
    · have hne : j ≠ k := fun hjk => hfresh (List.mem_map.2 ⟨(k, a), hin, hjk.symm⟩)
      simpa [findItem, hne] using ih hrest hin

/-- The items of a table whose entry satisfies a test, when no number stands twice. -/
theorem mem_itemsWhere_iff {α : Type} {l : Table α} (h : (itemNumbers l).Nodup) (p : Nat → α → Bool) (n : Nat) :
    n ∈ itemsWhere l p ↔ ∃ e, findItem l n = some e ∧ p n e = true := by
  constructor
  · intro hn
    obtain ⟨⟨k, e⟩, hmem, rfl⟩ := List.mem_map.1 hn
    obtain ⟨hin, hp⟩ := List.mem_filter.1 hmem
    exact ⟨e, findItem_of_mem h hin, hp⟩
  · rintro ⟨e, he, hp⟩
    exact List.mem_map.2 ⟨(n, e), List.mem_filter.2 ⟨mem_of_findItem he, hp⟩, rfl⟩

theorem nodup_itemsWhere {α : Type} {l : Table α} (h : (itemNumbers l).Nodup) (p : Nat → α → Bool) : (itemsWhere l p).Nodup :=
  h.sublist (List.filter_sublist.map _)

/-- Work on the items of a list in turn: what every other item leaves, and what the item itself brings about. -/
theorem foldl_single {α β : Type} {P Q : β → Prop} {f : β → α → β} {n : α} {l : List α} (hl : l.Nodup) (hn : n ∈ l)
    (hbefore : ∀ b, ∀ a ∈ l, a ≠ n → P b → P (f b a)) (hat : ∀ b, P b → Q (f b n))
    (hafter : ∀ b, ∀ a ∈ l, a ≠ n → Q b → Q (f b a)) {b : β} (hb : P b) : Q (l.foldl f b) := by
  induction l generalizing b with
  | nil => cases hn
  | cons a l ih =>
    rw [List.nodup_cons] at hl
    obtain ⟨hfresh, hl⟩ := hl
    rw [List.foldl_cons]
    by_cases ha : a = n
    · subst ha
      have hrest : ∀ (m : List α) (x : β), (∀ c ∈ m, c ∈ l) → Q x → Q (m.foldl f x) := by
        intro m
        induction m with
        | nil => exact fun x _ hx => hx
        | cons c m ihm =>
          intro x hm hx
          have hc : c ∈ l := hm c List.mem_cons_self
          exact ihm _ (fun d hd => hm d (List.mem_cons_of_mem _ hd))
            (hafter x c (List.mem_cons_of_mem _ hc) (fun h => hfresh (h ▸ hc)) hx)
      exact hrest l _ (fun _ hc => hc) (hat b hb)
    · exact ih hl ((List.mem_cons.1 hn).resolve_left (Ne.symm ha))
        (fun x c hc => hbefore x c (List.mem_cons_of_mem _ hc)) (fun x c hc => hafter x c (List.mem_cons_of_mem _ hc))
        (hbefore b a List.mem_cons_self ha hb)

/-- Work on the items of a list that all leave a property. -/
theorem foldl_within {α β : Type} {P : β → Prop} {f : β → α → β} {l : List α} (h : ∀ b, ∀ a ∈ l, P b → P (f b a)) {b : β}
    (hb : P b) : P (l.foldl f b) := by
  induction l generalizing b with
  | nil => exact hb
  | cons a l ih => exact ih (fun x c hc => h x c (List.mem_cons_of_mem _ hc)) (h b a List.mem_cons_self hb)

/-! ### What the answers leave -/

/-- The layout, the mode, the deck, the districts and the polls to come. -/
def fixtures (s : State) : Store × Control × Option DeckState × List District × List Nat :=
  (s.store, s.ctl, s.deck, s.il.districts, s.ring.todo)

theorem fixtures_of_ground (h : ground t = ground s) : fixtures t = fixtures s := by
  have htodo : t.ring.todo = s.ring.todo := (congrArg Ring.todo (ground_ring h) :)
  rw [fixtures, ground_store h, ground_ctl h, ground_deck h, ground_districts h, htodo, fixtures]

theorem fixtures_store (h : fixtures t = fixtures s) : t.store = s.store := congrArg (·.1) h
theorem fixtures_ctl (h : fixtures t = fixtures s) : t.ctl = s.ctl := congrArg (·.2.1) h
theorem fixtures_deck (h : fixtures t = fixtures s) : t.deck = s.deck := congrArg (·.2.2.1) h
theorem fixtures_districts (h : fixtures t = fixtures s) : t.il.districts = s.il.districts := congrArg (·.2.2.2.1) h
theorem fixtures_todo (h : fixtures t = fixtures s) : t.ring.todo = s.ring.todo := congrArg (·.2.2.2.2) h
theorem desc_of_fixtures (h : fixtures t = fixtures s) : desc t = desc s := by rw [desc, fixtures_store h, desc]

theorem fixtures_setNeither (n v : Nat) (s : State) : fixtures (setNeither n v s) = fixtures s := by
  unfold setNeither
  split <;> rfl

theorem fixtures_setClearCount (n v : Nat) (s : State) : fixtures (setClearCount n v s) = fixtures s := by
  unfold setClearCount
  split <;> rfl

/-! ### Points (R28) -/

/-- What a good answer reports of a point, by the position it shows and the neither count before it (R28). -/
def reportAfter (st : PtState) (shown : Option Position) (c : Nat) : Reported :=
  match st.reported, shown with
  | .moving, some pos => if st.commanded = some pos then provenIn pos else .moving
  | .moving, none => .moving
  | _, some pos => provenIn pos
  | .unproven, none => .unproven
  | x, none => if c = 0 then x else .unproven

/-- A point as a good answer leaves it, but for its lock count (R28). -/
def answeredPt (st : PtState) (shown : Option Position) (c : Nat) : PtState :=
  { st with
    reported := reportAfter st shown c,
    timer := if st.reported = .moving ∧ reportAfter st shown c ≠ .moving then none else st.timer }

/-- A point at rest is proven where an answer shows it. -/
theorem reportAfter_shown {st : PtState} {c : Nat} (pos : Position) (hm : st.reported ≠ .moving) :
    reportAfter st (some pos) c = provenIn pos := by
  cases hrep : st.reported <;> simp_all [reportAfter]

/-- A proven point that an answer shows in neither position is lost at the second in a row. -/
theorem reportAfter_neither {st : PtState} (c : Nat) (hm : st.reported ≠ .moving) (hu : st.reported ≠ .unproven) :
    reportAfter st none c = if c = 0 then st.reported else .unproven := by
  cases hrep : st.reported <;> simp_all [reportAfter]

/-- A point of another module or output keeps its neither count. -/
theorem neitherOf_setNeither_other {n m : Nat} (v : Nat) {e x : PointEntry} (he : findItem (desc s).points n = some e)
    (hx : findItem (desc s).points m = some x) (h : x.addr = e.addr → x.output ≠ e.output) :
    neitherOf (setNeither n v s) m = neitherOf s m := by
  have hset : setNeither n v s = updateModule s e.addr (fun m => { m with neitherCounts := m.neitherCounts.set e.output v }) := by
    simp [setNeither, he]
  have hx' : findItem (desc (setNeither n v s)).points m = some x := by
    rw [hset]
    exact hx
  simp only [neitherOf, hx, hx']
  rw [hset]
  by_cases haddr : x.addr = e.addr
  · cases hm : findItem s.ring.modules e.addr with
    | none =>
      have hnone : findItem (updateModule s e.addr (fun m =>
          { m with neitherCounts := m.neitherCounts.set e.output v })).ring.modules e.addr = none := by
        simp [updateModule, hm]
      simp only [moduleAt, haddr, hm, hnone]
    | some m0 =>
      have hmod := moduleAt_updateModule_same (s := s) (a := e.addr)
        (fun m => { m with neitherCounts := m.neitherCounts.set e.output v }) (by simp [hm])
      rw [haddr, hmod]
      simp [entryAt, List.getElem?_set_ne (Ne.symm (h haddr))]
  · rw [moduleAt_updateModule_other _ haddr]

/-- What an answered point leaves: the fixtures, the other points but for their lock counts, and the neither counts of other
outputs. -/
structure PointsBeside (n : Nat) (s t : State) : Prop where
  fixed : fixtures t = fixtures s
  others : ∀ m, m ≠ n → (ptAt t m).map groundPt = (ptAt s m).map groundPt
  counts : ∀ m e x, findItem (desc s).points n = some e → findItem (desc s).points m = some x →
    (x.addr = e.addr → x.output ≠ e.output) → neitherOf t m = neitherOf s m

/-- An answered point stands as R28 has it, and leaves the others. -/
def PointStep (n : Nat) (st' : PtState) (s t : State) : Prop :=
  (ptAt t n).map groundPt = some (groundPt st') ∧ PointsBeside n s t

theorem neitherOf_of_ground (h : ground t = ground s) (n : Nat) : neitherOf t n = neitherOf s n := by
  simp only [neitherOf, ground_desc h, ground_moduleAt h]

theorem ptAt_setNeither (n v m : Nat) (s : State) : ptAt (setNeither n v s) m = ptAt s m := by
  unfold setNeither
  split <;> rfl

/-- A point whose report stays. -/
theorem pointStep_kept {n : Nat} {st : PtState} (v : Nat) (hst : ptAt s n = some st) : PointStep n st s (setNeither n v s) :=
  ⟨by rw [ptAt_setNeither, hst]; rfl, fixtures_setNeither n v s, fun m _ => by rw [ptAt_setNeither],
    fun _ _ _ he hx h => neitherOf_setNeither_other v he hx h⟩

/-- A point whose report changes, with all its consequences. -/
theorem pointStep_changed {n : Nat} {st st' : PtState} {f : PtState → PtState} (hst : ptAt s n = some st) (hf : f st = st')
    (h : Ripples (setNeither n 0 (updatePt s n f)) t) : PointStep n st' s t :=
  ⟨by rw [ground_ptAt h.same, ptAt_setNeither, ptAt_updatePt_same, hst, ← hf]; rfl,
    (fixtures_of_ground h.same).trans ((fixtures_setNeither _ _ _).trans rfl),
    fun m hm => by rw [ground_ptAt h.same, ptAt_setNeither, ptAt_updatePt_other _ _ hm],
    fun m e x he hx hne =>
      (neitherOf_of_ground h.same m).trans (neitherOf_setNeither_other (s := updatePt s n f) 0 he hx hne)⟩

/-- One point of a good POINT answer, as R28 has it. -/
theorem pointStep_pointAnswer {n : Nat} {st : PtState} (shown : Option Position) (hst : ptAt s n = some st) :
    PointStep n (answeredPt st shown (neitherOf s n)) s (pointAnswer n shown s) := by
  have hchanged : ∀ r : Reported, r ≠ .moving → reportAfter st shown (neitherOf s n) = r →
      PointStep n (answeredPt st shown (neitherOf s n)) s (pointHandOn n (.pointLost n) (notePoint n .position (setNeither n 0
        (updatePt s n (fun st => { st with reported := r, timer := if st.reported = .moving then none else st.timer }))))) :=
    fun r hr hafter => pointStep_changed hst (by simp [answeredPt, hafter, hr])
      (((Ripples.refl _).notePoint n _).pointHandOn n _)
  have hsame : reportAfter st shown (neitherOf s n) = st.reported → answeredPt st shown (neitherOf s n) = st := fun hafter => by
    have hnever : ¬ (st.reported = .moving ∧ st.reported ≠ .moving) := fun h => h.2 h.1
    simp only [answeredPt, hafter, if_neg hnever]
  have hkept : ∀ v, reportAfter st shown (neitherOf s n) = st.reported →
      PointStep n (answeredPt st shown (neitherOf s n)) s (setNeither n v s) := fun v hafter => by
    rw [hsame hafter]
    exact pointStep_kept v hst
  have hmoving : ∀ pos, provenIn pos ≠ .moving := fun pos => by cases pos <;> decide
  simp only [pointAnswer, hst]
  split
  · rename_i pos hrep
    by_cases hcmd : st.commanded = some pos
    · rw [if_pos hcmd]
      exact hchanged _ (hmoving pos) (by simp [reportAfter, hrep, hcmd])
    · rw [if_neg hcmd]
      exact hkept 0 (by simp [reportAfter, hrep, hcmd])
  · rename_i hrep
    exact hkept 0 (by simp [reportAfter, hrep])
  · rename_i pos hrep
    exact hchanged _ (hmoving pos) (by simp [reportAfter, hrep])
  · rename_i hrep
    rw [hsame (by simp [reportAfter, hrep])]
    exact ⟨by rw [hst]; rfl, rfl, fun _ _ => rfl, fun _ _ _ _ _ _ => rfl⟩
  · rename_i r pos hm hu
    have hafter : reportAfter st (some pos) (neitherOf s n) = provenIn pos := reportAfter_shown pos hm
    by_cases hproven : st.reported = provenIn pos
    · rw [if_pos hproven]
      exact hkept 0 (hafter.trans hproven.symm)
    · rw [if_neg hproven]
      exact hchanged _ (hmoving pos) hafter
  · rename_i hm hu
    have hafter := reportAfter_neither (neitherOf s n) hm hu
    by_cases hzero : neitherOf s n = 0
    · rw [if_pos hzero]
      exact hkept 1 (hafter.trans (if_pos hzero))
    · rw [if_neg hzero]
      exact hchanged _ (by decide) (hafter.trans (if_neg hzero))

/-- One point of a good POINT answer, by the bits of its output (R28). -/
def answerPoint (b : Byte) (s : State) (n : Nat) : State :=
  match findItem (desc s).points n with
  | some e => pointAnswer n (shownPosition b e.output) s
  | none => s

theorem answerPoint_beside (b : Byte) (s : State) (n : Nat) : PointsBeside n s (answerPoint b s n) := by
  have hidle : PointsBeside n s s := ⟨rfl, fun _ _ => rfl, fun _ _ _ _ _ _ => rfl⟩
  unfold answerPoint
  split
  · cases hst : ptAt s n with
    | none => simpa [pointAnswer, hst] using hidle
    | some st => exact (pointStep_pointAnswer _ hst).2
  · exact hidle

theorem answerPoint_same {b : Byte} {n : Nat} {e : PointEntry} {st : PtState} (he : findItem (desc s).points n = some e)
    (hst : ptAt s n = some st) : (ptAt (answerPoint b s n) n).map groundPt =
      some (groundPt (answeredPt st (shownPosition b e.output) (neitherOf s n))) := by
  simp only [answerPoint, he]
  exact (pointStep_pointAnswer _ hst).1

/-- The points of a module, answered one after the other, leave the fixtures and the points of other modules. -/
theorem answerPoints_others {b : Byte} {l : List Nat} {n : Nat} (hn : n ∉ l) :
    fixtures (l.foldl (answerPoint b) s) = fixtures s ∧
      (ptAt (l.foldl (answerPoint b) s) n).map groundPt = (ptAt s n).map groundPt := by
  refine foldl_within (P := fun x => fixtures x = fixtures s ∧ (ptAt x n).map groundPt = (ptAt s n).map groundPt)
    (fun x k hk hx => ?_) ⟨rfl, rfl⟩
  have hstep := answerPoint_beside b x k
  exact ⟨hstep.fixed.trans hx.1, (hstep.others n fun h => hn (h ▸ hk)).trans hx.2⟩

/-- A point of the module stands as R28 has it, by its neither count before the answer. -/
theorem answerPoints_same {b : Byte} {l : List Nat} {n : Nat} {e : PointEntry} {st : PtState} (hl : l.Nodup) (hn : n ∈ l)
    (he : findItem (desc s).points n = some e) (hst : ptAt s n = some st)
    (hothers : ∀ k ∈ l, k ≠ n → ∃ x, findItem (desc s).points k = some x ∧ x.output ≠ e.output) :
    (ptAt (l.foldl (answerPoint b) s) n).map groundPt =
      some (groundPt (answeredPt st (shownPosition b e.output) (neitherOf s n))) := by
  refine foldl_single (P := fun x => fixtures x = fixtures s ∧ (ptAt x n).map groundPt = some (groundPt st) ∧
    neitherOf x n = neitherOf s n) (Q := fun x => (ptAt x n).map groundPt = _) hl hn
    (fun x k hk hne hx => ?_) (fun x hx => ?_) (fun x k _ hne hx => ?_) ⟨rfl, by rw [hst]; rfl, rfl⟩
  · obtain ⟨hfixed, hpoint, hcount⟩ := hx
    obtain ⟨y, hy, hout⟩ := hothers k hk hne
    have hstep := answerPoint_beside b x k
    have hdesc := desc_of_fixtures hfixed
    exact ⟨hstep.fixed.trans hfixed, (hstep.others n (Ne.symm hne)).trans hpoint,
      (hstep.counts n y e (hdesc ▸ hy) (hdesc ▸ he) fun _ => Ne.symm hout).trans hcount⟩
  · obtain ⟨hfixed, hpoint, hcount⟩ := hx
    obtain ⟨st', hst', hground⟩ := Option.map_eq_some_iff.1 hpoint
    rw [answerPoint_same (desc_of_fixtures hfixed ▸ he) hst', hcount]
    exact congrArg (fun y => some (answeredPt y (shownPosition b e.output) (neitherOf s n))) hground
  · exact ((answerPoint_beside b x k).others n (Ne.symm hne)).trans hx

/-! ### Sections (R23) -/

/-- The accepted occupancy after one good answer, by the clear count before it (R23). -/
def occupancyAfter (st : SecState) (shown : Occupancy) (c : Nat) : Occupancy :=
  match shown with
  | .occupied => .occupied
  | .clear => if st.occ = .clear then .clear else if c = 0 then .occupied else .clear

/-- What an answered section leaves: the fixtures, the other occupancies, and the clear counts of other inputs. -/
structure SectionsBeside (n : Nat) (s t : State) : Prop where
  fixed : fixtures t = fixtures s
  others : ∀ m, m ≠ n → (secAt t m).map (·.occ) = (secAt s m).map (·.occ)
  counts : ∀ m e x, secEntry s n = some e → secEntry s m = some x → (x.addr = e.addr → x.input ≠ e.input) →
    clearCountOf t m = clearCountOf s m

/-- A section of another module or input keeps its clear count. -/
theorem clearCountOf_setClearCount_other {n m : Nat} (v : Nat) {e x : SectionEntry} (he : secEntry s n = some e)
    (hx : secEntry s m = some x) (h : x.addr = e.addr → x.input ≠ e.input) :
    clearCountOf (setClearCount n v s) m = clearCountOf s m := by
  have hset : setClearCount n v s = updateModule s e.addr (fun m => { m with clearCounts := m.clearCounts.set e.input v }) := by
    simp [setClearCount, he]
  have hx' : secEntry (setClearCount n v s) m = some x := by
    rw [hset]
    exact hx
  simp only [clearCountOf, hx, hx']
  rw [hset]
  by_cases haddr : x.addr = e.addr
  · cases hm : findItem s.ring.modules e.addr with
    | none =>
      have hnone : findItem (updateModule s e.addr (fun m =>
          { m with clearCounts := m.clearCounts.set e.input v })).ring.modules e.addr = none := by
        simp [updateModule, hm]
      simp only [moduleAt, haddr, hm, hnone]
    | some m0 =>
      have hmod := moduleAt_updateModule_same (s := s) (a := e.addr)
        (fun m => { m with clearCounts := m.clearCounts.set e.input v }) (by simp [hm])
      rw [haddr, hmod]
      simp [entryAt, List.getElem?_set_ne (Ne.symm (h haddr))]
  · rw [moduleAt_updateModule_other _ haddr]

theorem sectionsBeside_setClearCount (n v : Nat) (s : State) : SectionsBeside n s (setClearCount n v s) :=
  ⟨fixtures_setClearCount n v s, fun m _ => by rw [secAt_setClearCount],
    fun _ _ _ he hx h => clearCountOf_setClearCount_other v he hx h⟩

/-- An occupancy that changes leaves the other occupancies and every clear count, with all its consequences (R25). -/
theorem sectionsBeside_occupancyChanged (n : Nat) (occ : Occupancy) (s : State) :
    SectionsBeside n s (occupancyChanged n occ (setClearCount n 0 s)) := by
  have hsame := (Ripples.occupancyChanged (setClearCount n 0 s) n occ).same
  refine ⟨(fixtures_of_ground hsame).trans (fixtures_setClearCount n 0 s), fun m hm => ?_, fun m e x he hx h => ?_⟩
  · rw [ground_secAt hsame, secAt_updateSec_other _ _ hm, secAt_setClearCount]
  · have hcount : clearCountOf (occupancyChanged n occ (setClearCount n 0 s)) m = clearCountOf (setClearCount n 0 s) m := by
      simp only [clearCountOf, secEntry, ground_desc hsame, ground_moduleAt hsame]
      rfl
    exact hcount.trans (clearCountOf_setClearCount_other 0 he hx h)

/-- One section of a good DETECT answer: its occupancy passes the filter of R23, and the others are left. -/
theorem filterSection_spec {n : Nat} {st : SecState} (shown : Occupancy) (hst : secAt s n = some st) :
    (secAt (filterSection n shown s) n).map (·.occ) = some (occupancyAfter st shown (clearCountOf s n)) ∧
      SectionsBeside n s (filterSection n shown s) := by
  have hcounted : ∀ v, (secAt (setClearCount n v s) n).map (·.occ) = some st.occ := fun v => by
    rw [secAt_setClearCount, hst]
    rfl
  have hchanged : ∀ occ, (secAt (occupancyChanged n occ (setClearCount n 0 s)) n).map (·.occ) = some occ := fun occ =>
    (occupancyChanged_stored occ ((secAt_setClearCount n 0 n s).trans hst)).1
  simp only [filterSection, hst]
  split
  · exact ⟨hchanged .occupied, sectionsBeside_occupancyChanged n _ s⟩
  · rename_i hocc
    exact ⟨by simp [hcounted, occupancyAfter, hocc], sectionsBeside_setClearCount n 0 s⟩
  · rename_i hocc
    exact ⟨by simp [hcounted, occupancyAfter, hocc], sectionsBeside_setClearCount n 0 s⟩
  · rename_i hocc
    by_cases hzero : clearCountOf s n = 0
    · rw [if_pos hzero]
      exact ⟨by simp [hcounted, occupancyAfter, hocc, hzero], sectionsBeside_setClearCount n 1 s⟩
    · rw [if_neg hzero]
      exact ⟨by simp [hchanged, occupancyAfter, hocc, hzero], sectionsBeside_occupancyChanged n _ s⟩

/-- One section of a good DETECT answer, by the bit of its input (R23). -/
def answerSection (b : Byte) (s : State) (n : Nat) : State :=
  match secEntry s n with
  | some e => filterSection n (if b.getLsbD e.input then .occupied else .clear) s
  | none => s

theorem answerSection_beside (b : Byte) (s : State) (n : Nat) : SectionsBeside n s (answerSection b s n) := by
  have hidle : SectionsBeside n s s := ⟨rfl, fun _ _ => rfl, fun _ _ _ _ _ _ => rfl⟩
  unfold answerSection
  split
  · cases hst : secAt s n with
    | none => simpa [filterSection, hst] using hidle
    | some st => exact (filterSection_spec _ hst).2
  · exact hidle

/-- The sections of a module, answered one after the other, leave the fixtures and the sections of other modules. -/
theorem answerSections_others {b : Byte} {l : List Nat} {n : Nat} (hn : n ∉ l) :
    fixtures (l.foldl (answerSection b) s) = fixtures s ∧
      (secAt (l.foldl (answerSection b) s) n).map (·.occ) = (secAt s n).map (·.occ) := by
  refine foldl_within (P := fun x => fixtures x = fixtures s ∧ (secAt x n).map (·.occ) = (secAt s n).map (·.occ))
    (fun x k hk hx => ?_) ⟨rfl, rfl⟩
  have hstep := answerSection_beside b x k
  exact ⟨hstep.fixed.trans hx.1, (hstep.others n fun h => hn (h ▸ hk)).trans hx.2⟩

/-- A section of the module has passed the filter, by its clear count before the answer. -/
theorem answerSections_same {b : Byte} {l : List Nat} {n : Nat} {e : SectionEntry} {st : SecState} (hl : l.Nodup) (hn : n ∈ l)
    (he : secEntry s n = some e) (hst : secAt s n = some st)
    (hothers : ∀ k ∈ l, k ≠ n → ∃ x, secEntry s k = some x ∧ x.input ≠ e.input) :
    (secAt (l.foldl (answerSection b) s) n).map (·.occ) =
      some (occupancyAfter st (if b.getLsbD e.input then .occupied else .clear) (clearCountOf s n)) := by
  have hentry : ∀ {x : State}, fixtures x = fixtures s → ∀ m, secEntry x m = secEntry s m := fun h m => by
    rw [secEntry, desc_of_fixtures h, secEntry]
  refine foldl_single (P := fun x => fixtures x = fixtures s ∧ (secAt x n).map (·.occ) = some st.occ ∧
    clearCountOf x n = clearCountOf s n) (Q := fun x => (secAt x n).map (·.occ) = _) hl hn
    (fun x k hk hne hx => ?_) (fun x hx => ?_) (fun x k _ hne hx => ?_) ⟨rfl, by rw [hst]; rfl, rfl⟩
  · obtain ⟨hfixed, hsec, hcount⟩ := hx
    obtain ⟨y, hy, hin⟩ := hothers k hk hne
    have hstep := answerSection_beside b x k
    exact ⟨hstep.fixed.trans hfixed, (hstep.others n (Ne.symm hne)).trans hsec,
      (hstep.counts n y e (hentry hfixed k ▸ hy) (hentry hfixed n ▸ he) fun _ => Ne.symm hin).trans hcount⟩
  · obtain ⟨hfixed, hsec, hcount⟩ := hx
    obtain ⟨st', hst', hocc⟩ := Option.map_eq_some_iff.1 hsec
    simp only [answerSection, (hentry hfixed n).trans he, (filterSection_spec _ hst').1, hcount, occupancyAfter, hocc]
  · exact ((answerSection_beside b x k).others n (Ne.symm hne)).trans hx

end Sys2Proof.Machine
end

section
/-! PROOFS. Good answers taken in their windows, and the answers of the DECK module (chapters 2, 7 and 9). -/

namespace Sys2Proof.Machine

open Sys2Proof

-- One theorem at a time: theorems that wait for each other would hold a thread each.
set_option Elab.async false

variable {s t : State}

/-! ### The module table -/

/-- What every change by `f` leaves of a module, a changed table leaves of every module. -/
theorem moduleAt_updateModule_leaves {P : Module → Module → Prop} (hrefl : ∀ m, P m m) {f : Module → Module}
    (hf : ∀ m, P m (f m)) (a b : Nat) (s : State) : P (moduleAt s b) (moduleAt (updateModule s a f) b) := by
  by_cases hb : b = a
  · subst hb
    cases hm : findItem s.ring.modules b with
    | none => simpa [moduleAt, updateModule, hm] using hrefl _
    | some m => simpa [moduleAt, updateModule, hm] using hf m
  · rw [moduleAt_updateModule_other f hb]
    exact hrefl _

/-- The counts that the owners of modules keep in the module table. -/
def ownCounts (m : Module) : List Nat × List Nat := (m.clearCounts, m.neitherCounts)

/-- A module that keeps its owner's counts, and its state where `c` holds. -/
def Kept (c : Prop) (m m' : Module) : Prop := ownCounts m' = ownCounts m ∧ (c → m'.state = m.state)

theorem Kept.refl (c : Prop) (m : Module) : Kept c m m := ⟨rfl, fun _ => rfl⟩
theorem Kept.trans {c : Prop} {m m' m'' : Module} (h : Kept c m m') (k : Kept c m' m'') : Kept c m m'' :=
  ⟨k.1.trans h.1, fun hc => (k.2 hc).trans (h.2 hc)⟩

/-- A module whose return to ACTIVE brings its owner no work (R151 step 2). -/
def PlainOwner (k : ModKind) : Prop := k ≠ .signal ∧ k ≠ .button ∧ k ≠ .traction

theorem ownerActive_plain {k : ModKind} (h : PlainOwner k) (a : Nat) (s : State) : ownerActive a k s = s := by
  obtain ⟨hsignal, hbutton, htraction⟩ := h
  cases k with
  | signal => exact absurd rfl hsignal
  | button => exact absurd rfl hbutton
  | traction => exact absurd rfl htraction
  | absent | point | detect | deck => rfl

/-- A state that has noted a good answer of a module and not yet its data (R151): nothing has changed but the ring, whose
polls to come and whose counts are as they were; with `c` the states of the modules are too. -/
structure Noted (c : Prop) (s x : State) : Prop where
  same : inner x = inner s
  todo : x.ring.todo = s.ring.todo
  modules : ∀ b, Kept c (moduleAt s b) (moduleAt x b)

namespace Noted

variable {c : Prop} {x : State}

protected theorem refl (c : Prop) (s : State) : Noted c s s := ⟨rfl, rfl, fun _ => Kept.refl c _⟩

protected theorem updateModule (h : Noted c s x) (a : Nat) {f : Module → Module} (hf : ∀ m, Kept c m (f m)) :
    Noted c s (updateModule x a f) :=
  ⟨h.same, h.todo, fun b => (h.modules b).trans (moduleAt_updateModule_leaves (Kept.refl c) hf a b x)⟩

/-- A ring with the same modules and polls to come. -/
protected theorem withRing (h : Noted c s x) {r : Ring} (hmodules : r.modules = x.ring.modules) (htodo : r.todo = x.ring.todo) :
    Noted c s (x.withRing r) := by
  refine ⟨h.same, htodo.trans h.todo, fun b => ?_⟩
  have hsame : moduleAt (x.withRing r) b = moduleAt x b := by rw [moduleAt, State.withRing_ring, hmodules, moduleAt]
  rw [hsame]
  exact h.modules b

protected theorem raise (h : Noted c s x) (n : Notice) : Noted c s (raise n x) := by
  have hring : (raise n x).ring = x.ring := raise_ring n x
  refine ⟨(inner_of_quiet (quiet_raise n x)).trans h.same, by rw [hring, h.todo], fun b => ?_⟩
  have hsame : moduleAt (raise n x) b = moduleAt x b := by rw [moduleAt, hring, moduleAt]
  rw [hsame]
  exact h.modules b

end Noted

theorem Noted.desc {c : Prop} {x : State} (h : Noted c s x) : desc x = Machine.desc s := by
  rw [Machine.desc, inner_store h.same, Machine.desc]

/-- A good answer taken: it is noted, its data is handed on, and the sweep goes on.  An ACTIVE module stays as it is, and so
do the others. -/
theorem takeAnswer_noted {a : Nat} (frame : List Byte) (s : State) (h : PlainOwner (moduleAt s a).kind) :
    ∃ x, Noted ((moduleAt s a).state = .active) s x ∧
      takeAnswer a frame s = afterOutcome (handData a (moduleAt s a).kind (payloadOf frame) x) := by
  unfold takeAnswer
  extract_lets old s1 src s2 s3 s4
  have hclosed : Noted (old.state = .active) s s2 :=
    ((Noted.refl _ s).updateModule a (f := fun m => { m with misses := 0 }) fun _ => ⟨rfl, fun _ => rfl⟩).withRing rfl rfl
  have hactive : Noted (old.state = .active) s s3 := by
    dsimp only [s3]
    split
    · exact hclosed
    · rename_i hidle
      rw [ownerActive_plain h]
      exact Noted.raise (hclosed.updateModule a (f := fun m => { m with state := .active })
        fun _ => ⟨rfl, fun hc => absurd hc hidle⟩) _
  exact ⟨s4, hactive.updateModule a (f := fun m => { m with data := some (payloadOf frame) }) fun _ => ⟨rfl, fun _ => rfl⟩, rfl⟩

/-! ### Deck claims met (R54, R63) -/

/-- Work on the elements of a list, of which one brings about what all the work after it leaves. -/
theorem foldl_reaches {α β : Type} {P Q : β → Prop} {f : β → α → β} {n : α} {l : List α} (hn : n ∈ l)
    (hbefore : ∀ b, ∀ a ∈ l, a ≠ n → P b → P (f b a)) (hat : ∀ b, P b → Q (f b n))
    (hafter : ∀ b, ∀ a ∈ l, Q b → Q (f b a)) {b : β} (hb : P b) : Q (l.foldl f b) := by
  induction l generalizing b with
  | nil => cases hn
  | cons a l ih =>
    rw [List.foldl_cons]
    by_cases ha : a = n
    · rw [ha]
      exact foldl_within (fun x c hc => hafter x c (List.mem_cons_of_mem _ hc)) (hat b hb)
    · exact ih ((List.mem_cons.1 hn).resolve_left (Ne.symm ha)) (fun x c hc => hbefore x c (List.mem_cons_of_mem _ hc))
        (fun x c hc => hafter x c (List.mem_cons_of_mem _ hc)) (hbefore b a List.mem_cons_self ha hb)

/-- The test of R61 works on the instance of its slot alone, and keeps its deck claim. -/
theorem setTest_beside (slot : Nat) (s : State) : Beside slot s (setTest slot s) ∧
    ∀ y, instAt (setTest slot s) slot = some y → ∃ x, instAt s slot = some x ∧ y.claim = x.claim := by
  cases hi : instAt s slot with
  | none =>
    have hsame : setTest slot s = s := by simp [setTest, hi]
    rw [hsame]
    exact ⟨.refl slot s, fun y hy => (by rw [hi] at hy; cases hy)⟩
  | some i =>
    by_cases hstate : i.state = .setting
    · obtain ⟨-, hbeside, -, hself⟩ := setTest_spec hi hstate
      exact ⟨hbeside, fun y hy => ⟨i, rfl, (hself y hy).1⟩⟩
    · have hsame : setTest slot s = s := by simp [setTest, hi, setReady, hstate]
      rw [hsame]
      exact ⟨.refl slot s, fun y hy => ⟨y, hi ▸ hy, rfl⟩⟩

/-- The deck section locked for an instance whose claim has been met (R54). -/
def lockDeckSection (slot : Nat) (i : Inst) (s : State) : State :=
  match (desc s).deck with
  | some d => if (instSections s i).any (fun x => x.1 == d.sec) then setLock d.sec (some { slot := slot, role := .route }) s else s
  | none => s

theorem release_lockDeckSection (slot : Nat) (i : Inst) (s : State) : Release slot s (lockDeckSection slot i s) := by
  unfold lockDeckSection
  split
  · split
    · exact (Release.refl slot s).setLock _ _
    · exact .refl slot s
  · exact .refl slot s

/-- A deck that has become ALIGNED works on no other slot, and a PENDING claim there is met, or its instance fails. -/
theorem claimAligned_spec (j slot : Nat) (s : State) :
    (∀ k, k ≠ slot → instAt (claimAligned j slot s) k = instAt s k) ∧
    (∀ i, instAt s slot = some i → i.claim = .pending → (routeAt s i.route).bind (routeTarget s) = some j →
      ∀ z, instAt (claimAligned j slot s) slot = some z → z.claim = .locked) ∧
    (∀ i, instAt s slot = some i → i.claim = .pending → (routeAt s i.route).bind (routeTarget s) ≠ some j →
      instAt (claimAligned j slot s) slot = none) ∧
    ((∀ i, instAt s slot = some i → i.claim ≠ .pending) → claimAligned j slot s = s) := by
  cases hi : instAt s slot with
  | none =>
    have hsame : claimAligned j slot s = s := by simp [claimAligned, hi]
    rw [hsame]
    simp
  | some i =>
    by_cases hp : i.claim = .pending
    · by_cases ht : (routeAt s i.route).bind (routeTarget s) = some j
      · have hmet : claimAligned j slot s = setTest slot (lockDeckSection slot i
            (updateInst s slot (fun i => { i with claim := .locked }))) := by
          simp only [claimAligned, hi, hp, ht, if_true]
          rfl
        have hlock := release_lockDeckSection slot i (updateInst s slot (fun i => { i with claim := .locked }))
        obtain ⟨hbeside, hself⟩ := setTest_beside slot
          (lockDeckSection slot i (updateInst s slot (fun i => { i with claim := .locked })))
        rw [hmet]
        refine ⟨fun k hk => ?_, fun _ _ _ _ z hz => ?_, fun i' hi' _ hne => ?_, fun h => absurd hp (h i rfl)⟩
        · exact (hbeside.others k hk).trans ((hlock.beside.others k hk).trans (instAt_updateInst_other s _ hk))
        · obtain ⟨y, hy, hzy⟩ := hself z hz
          obtain ⟨x, hx, hyx⟩ := hlock.self y hy
          rw [instAt_updateInst_same, hi] at hx
          obtain rfl := Option.some.inj hx
          exact hzy.trans (congrArg (·.1) hyx)
        · obtain rfl := Option.some.inj hi'
          exact absurd ht hne
      · have hfails : claimAligned j slot s = failInst slot .deckLost s := by simp [claimAligned, hi, hp, ht]
        obtain ⟨-, hinst, -⟩ := failInst_spec .deckLost hi
        rw [hfails]
        refine ⟨fun k hk => by rw [hinst, if_neg hk], fun i' hi' _ heq => ?_, fun _ _ _ _ => by rw [hinst, if_pos rfl],
          fun h => absurd hp (h i rfl)⟩
        obtain rfl := Option.some.inj hi'
        exact absurd heq ht
    · have hsame : claimAligned j slot s = s := by simp [claimAligned, hi, hp]
      rw [hsame]
      refine ⟨fun _ _ => rfl, fun i' hi' hp' => ?_, fun i' hi' hp' => ?_, fun _ => rfl⟩ <;>
        exact absurd (Option.some.inj hi' ▸ hp') hp

/-- Every PENDING claim meets a deck that has become ALIGNED: at its target it is LOCKED as long as its instance lives, and
elsewhere the instance has failed (R54, R63). -/
theorem deckAlignedTo_claims {j slot : Nat} {i : Inst} (hi : instAt s slot = some i) (hp : i.claim = .pending) :
    ((routeAt s i.route).bind (routeTarget s) = some j → ∀ z, instAt (deckAlignedTo j s) slot = some z → z.claim = .locked) ∧
    ((routeAt s i.route).bind (routeTarget s) ≠ some j → instAt (deckAlignedTo j s) slot = none) := by
  have hmem : slot ∈ slotsWhere s (fun i => i.claim == .pending) :=
    List.mem_map.2 ⟨(slot, i), List.mem_filter.2 ⟨mem_of_findItem hi, by simp [hp]⟩, rfl⟩
  have hstill : ∀ x, still (eligible (recomputeAll (deckSignals x) x)) = still x := fun x => by simp
  have hreached := foldl_reaches (P := fun b => desc b = desc s ∧ instAt b slot = some i)
    (Q := fun b => ((routeAt s i.route).bind (routeTarget s) = some j → ∀ z, instAt b slot = some z → z.claim = .locked) ∧
      ((routeAt s i.route).bind (routeTarget s) ≠ some j → instAt b slot = none))
    (f := fun s i => claimAligned j i s) hmem (fun b k _ hk hb => ?_) (fun b hb => ?_) (fun b k _ hb => ?_) ⟨rfl, hi⟩
  · exact ⟨fun ht z hz => hreached.1 ht z ((still_instAt (hstill _) slot).symm.trans hz),
      fun ht => (still_instAt (hstill _) slot).trans (hreached.2 ht)⟩
  · exact ⟨(ground_desc ((Ripples.refl b).claimAligned j k).same).trans hb.1,
      ((claimAligned_spec j k b).1 slot (Ne.symm hk)).trans hb.2⟩
  · have htarget : (routeAt b i.route).bind (routeTarget b) = (routeAt s i.route).bind (routeTarget s) := by
      have hfun : routeTarget b = routeTarget s := by
        funext r
        simp only [routeTarget, hb.1]
      rw [hfun, routeAt, hb.1, routeAt]
    obtain ⟨-, hmet, hfails, -⟩ := claimAligned_spec j slot b
    exact ⟨fun ht => hmet i hb.2 hp (htarget.trans ht), fun ht => hfails i hb.2 hp (htarget ▸ ht)⟩
  · obtain ⟨hothers, -, -, hidle⟩ := claimAligned_spec j k b
    by_cases hk : slot = k
    · subst hk
      by_cases ht : (routeAt s i.route).bind (routeTarget s) = some j
      · have hlocked := hb.1 ht
        rw [hidle fun x hx hpx => by rw [hlocked x hx] at hpx; cases hpx]
        exact hb
      · have hnone := hb.2 ht
        rw [hidle fun x hx => by rw [hnone] at hx; cases hx]
        exact hb
    · rw [hothers slot hk]
      exact hb

end Sys2Proof.Machine
end

section
/-! PROOFS. The answers of the DECK module and the buttons, and the data of good answers as a whole (chapters 2, 7 and 8). -/

namespace Sys2Proof.Machine

open Sys2Proof

-- One theorem at a time: theorems that wait for each other would hold a thread each.
set_option Elab.async false

variable {s t x : State}

/-! ### The deck by its answers (R126, R127, R129) -/

/-- A deck that shows an index. -/
def seenDeck (d : DeckState) (i : Nat) : DeckState := { d with reported := some i }

/-- A deck that stands at an index with no move under way. -/
def standsDeck (d : DeckState) (i : Nat) : DeckState :=
  { seenDeck d i with pos := .aligned i, req := none, timer := none, doubt := 0 }

/-- An ALIGNED deck not shown at rest in its place: in doubt, and UNPROVEN the second time. -/
def doubtfulDeck (d : DeckState) (i : Nat) : DeckState :=
  if d.doubt = 0 then { seenDeck d i with doubt := 1 } else { seenDeck d i with pos := .unproven, doubt := 0 }

/-- A deck with no latched move as a good answer leaves it (R126, R129). -/
def deckAfter (d : DeckState) (i : Nat) (rest : Bool) : DeckState :=
  match d.pos with
  | .moving f k _ => if rest = true ∧ (i = k ∨ i ≠ f) then standsDeck d i else seenDeck d i
  | .aligned j => if rest = true ∧ i = j then { seenDeck d i with doubt := 0 } else doubtfulDeck d i
  | .unproven => if rest = true then standsDeck d i else seenDeck d i

theorem deckAfter_moving {d : DeckState} {f k : Nat} {sn : Sense} (h : d.pos = .moving f k sn) (i : Nat) (rest : Bool) :
    deckAfter d i rest = if rest = true ∧ (i = k ∨ i ≠ f) then standsDeck d i else seenDeck d i := by
  simp only [deckAfter, h]

theorem deckAfter_aligned {d : DeckState} {j : Nat} (h : d.pos = .aligned j) (i : Nat) (rest : Bool) :
    deckAfter d i rest = if rest = true ∧ i = j then { seenDeck d i with doubt := 0 } else doubtfulDeck d i := by
  simp only [deckAfter, h]

theorem deckAfter_unproven {d : DeckState} (h : d.pos = .unproven) (i : Nat) (rest : Bool) :
    deckAfter d i rest = if rest = true then standsDeck d i else seenDeck d i := by
  simp only [deckAfter, h]

theorem fixtures_of_quiet (h : quiet t = quiet s) : fixtures t = fixtures s := fixtures_of_ground (ground_of_quiet h)

/-- The deck shown at an index. -/
theorem seen_eq {d : DeckState} (i : Nat) (hd : x.deck = some d) :
    updateDeck x (fun d => { d with reported := some i }) = x.withDeck (some (seenDeck d i)) := by
  rw [updateDeck, hd]
  rfl

theorem setAligned_eq {d : DeckState} (i : Nat) :
    setAligned i (x.withDeck (some (seenDeck d i))) = x.withDeck (some (standsDeck d i)) := rfl

theorem completeMove_eq (k : Nat) (req : Option MoveReq) (s : State) : completeMove k req s =
    recheckLatch (deckAlignedTo k (noteDeck (.aligned .completed none)
      (count .deckTurns (req.map moveParty) (deckDistrict (setAligned k s)) (setAligned k s)))) := rfl

theorem stopElsewhere_eq (i k : Nat) (s : State) : stopElsewhere i k s =
    recheckLatch (deckAlignedTo i (noteDeck (.aligned .stopped (some k)) (setAligned i s))) := rfl

/-- The answer of a deck, by where the deck stands. -/
theorem deckAnswer_eq {d : DeckState} (i : Nat) (rest : Bool) (hd : x.deck = some d) : deckAnswer i rest x =
    match d.pos with
    | .moving f k _ =>
      if !rest then x.withDeck (some (seenDeck d i))
      else if i = k then completeMove k d.req (x.withDeck (some (seenDeck d i)))
      else if i = f then x.withDeck (some (seenDeck d i))
      else stopElsewhere i k (x.withDeck (some (seenDeck d i)))
    | .aligned j =>
      if rest && i == j then x.withDeck (some { seenDeck d i with doubt := 0 })
      else if d.doubt = 0 then x.withDeck (some { seenDeck d i with doubt := 1 })
      else loseDeck (x.withDeck (some (seenDeck d i)))
    | .unproven =>
      if rest then deckAlignedTo i (noteDeck (.aligned .found none) (x.withDeck (some (standsDeck d i))))
      else x.withDeck (some (seenDeck d i)) := by
  rw [deckAnswer, seen_eq i hd]
  rfl

/-- A MOVING deck at rest at its target, or anywhere but where it came from, has become ALIGNED there, and the latch is
checked again (R126, R127). -/
theorem deckAnswer_moving {d : DeckState} {f k i : Nat} {sn : Sense} (hd : x.deck = some d) (hpos : d.pos = .moving f k sn)
    (h : i = k ∨ i ≠ f) : ∃ y, quiet y = quiet (x.withDeck (some (standsDeck d i))) ∧
      deckAnswer i true x = recheckLatch (deckAlignedTo i y) := by
  simp only [deckAnswer_eq i true hd, hpos, Bool.not_true, Bool.false_eq_true, if_false]
  by_cases hk : i = k
  · rw [if_pos hk, completeMove_eq, ← hk, setAligned_eq]
    exact ⟨_, (quiet_noteDeck _ _).trans (quiet_count _ _ _ _), rfl⟩
  · rw [if_neg hk, if_neg (h.resolve_left hk), stopElsewhere_eq, setAligned_eq]
    exact ⟨_, quiet_noteDeck _ _, rfl⟩

/-- An UNPROVEN deck at rest has become ALIGNED there (R129). -/
theorem deckAnswer_unproven {d : DeckState} {i : Nat} (hd : x.deck = some d) (hpos : d.pos = .unproven) :
    ∃ y, quiet y = quiet (x.withDeck (some (standsDeck d i))) ∧ deckAnswer i true x = deckAlignedTo i y := by
  simp only [deckAnswer_eq i true hd, hpos, if_true]
  exact ⟨_, quiet_noteDeck _ _, rfl⟩

/-- A deck that has become ALIGNED, with all its consequences. -/
theorem fixtures_deckAlignedTo {y : State} {v : Option DeckState} (i : Nat) (hy : quiet y = quiet (x.withDeck v)) :
    fixtures (deckAlignedTo i y) = fixtures (x.withDeck v) :=
  (fixtures_of_ground ((Ripples.refl y).deckAlignedTo i).same).trans (fixtures_of_quiet hy)

/-- An ALIGNED deck that is lost with no latched move (R129). -/
theorem fixtures_loseDeck {d : DeckState} (hd : x.deck = some d) (hlatch : d.latch = none) :
    fixtures (loseDeck x) = fixtures (x.withDeck (some { d with pos := .unproven, doubt := 0 })) := by
  have hlost : updateDeck x (fun d => { d with pos := .unproven, doubt := 0 }) =
      x.withDeck (some { d with pos := .unproven, doubt := 0 }) := by
    rw [updateDeck, hd]
    rfl
  have hkept : discardLatch .lost (x.withDeck (some { d with pos := .unproven, doubt := 0 })) =
      x.withDeck (some { d with pos := .unproven, doubt := 0 }) := by
    simp [discardLatch, hlatch]
  rw [loseDeck, hlost, hkept]
  exact (fixtures_of_ground (Ripples.refl _).deckLost.same).trans (fixtures_of_quiet (quiet_noteDeck _ _))

/-- The answer of a deck with no latched move; where the deck has become ALIGNED, the Interlocking Unit is told. -/
theorem deckAnswer_unlatched {d : DeckState} {i : Nat} {rest : Bool} (hd : x.deck = some d) (hlatch : d.latch = none) :
    fixtures (deckAnswer i rest x) = fixtures (x.withDeck (some (deckAfter d i rest))) ∧
    (deckAfter d i rest = standsDeck d i → (∀ j, d.pos ≠ .aligned j) →
      ∃ y, y.il = x.il ∧ y.store = x.store ∧ deckAnswer i rest x = deckAlignedTo i y) := by
  have haligned : ∀ y, quiet y = quiet (x.withDeck (some (standsDeck d i))) →
      fixtures (deckAlignedTo i y) = fixtures (x.withDeck (some (standsDeck d i))) ∧ y.il = x.il ∧ y.store = x.store ∧
        recheckLatch (deckAlignedTo i y) = deckAlignedTo i y := fun y hy => by
    have hfixed := fixtures_deckAlignedTo i hy
    have hdeck : (deckAlignedTo i y).deck = some (standsDeck d i) := (fixtures_deck hfixed).trans rfl
    refine ⟨hfixed, (quiet_il hy).trans rfl, (quiet_store hy).trans rfl, recheckLatch_idle fun d' l j hd' hl => ?_⟩
    obtain rfl := Option.some.inj (hdeck.symm.trans hd')
    exact absurd (hlatch.symm.trans hl) (by simp)
  cases hpos : d.pos with
  | moving f k sn =>
    by_cases h : rest = true ∧ (i = k ∨ i ≠ f)
    · obtain ⟨hrest, hplace⟩ := h
      obtain ⟨y, hy, heq⟩ := deckAnswer_moving hd hpos hplace
      obtain ⟨hfixed, hil, hstore, hidle⟩ := haligned y hy
      have hafter : deckAfter d i rest = standsDeck d i := (deckAfter_moving hpos i rest).trans (if_pos ⟨hrest, hplace⟩)
      rw [hafter, hrest, heq, hidle]
      exact ⟨hfixed, fun _ _ => ⟨y, hil, hstore, rfl⟩⟩
    · have hseen : deckAnswer i rest x = x.withDeck (some (seenDeck d i)) := by
        rw [deckAnswer_eq i rest hd, hpos]
        cases rest with
        | false => rfl
        | true =>
          obtain ⟨hk, hf⟩ : i ≠ k ∧ i = f := by simpa using h
          have hne : f ≠ k := fun hfk => hk (hf.trans hfk)
          simp [hf, hne]
      have hafter : deckAfter d i rest = seenDeck d i := (deckAfter_moving hpos i rest).trans (if_neg h)
      rw [hafter, hseen]
      refine ⟨rfl, fun heq _ => ?_⟩
      have hcontra : d.pos = .aligned i := congrArg DeckState.pos heq
      rw [hpos] at hcontra
      cases hcontra
  | aligned j =>
    refine ⟨?_, fun _ h => absurd rfl (h j)⟩
    rw [deckAfter_aligned hpos]
    simp only [deckAnswer_eq i rest hd, hpos, Bool.and_eq_true, beq_iff_eq]
    by_cases hj : rest = true ∧ i = j
    · rw [if_pos hj, if_pos hj]
    · rw [if_neg hj, if_neg hj, doubtfulDeck]
      by_cases hdoubt : d.doubt = 0
      · rw [if_pos hdoubt, if_pos hdoubt]
      · rw [if_neg hdoubt, if_neg hdoubt]
        exact fixtures_loseDeck (x := x.withDeck (some (seenDeck d i))) rfl hlatch
  | unproven =>
    cases rest with
    | true =>
      obtain ⟨y, hy, heq⟩ := deckAnswer_unproven (i := i) hd hpos
      obtain ⟨hfixed, hil, hstore, -⟩ := haligned y hy
      have hafter : deckAfter d i true = standsDeck d i := deckAfter_unproven hpos i true
      rw [hafter, heq]
      exact ⟨hfixed, fun _ _ => ⟨y, hil, hstore, rfl⟩⟩
    | false =>
      have hseen : deckAnswer i false x = x.withDeck (some (seenDeck d i)) := by simp [deckAnswer_eq i false hd, hpos]
      have hafter : deckAfter d i false = seenDeck d i := deckAfter_unproven hpos i false
      rw [hafter, hseen]
      refine ⟨rfl, fun heq _ => ?_⟩
      have hcontra : d.pos = .aligned i := congrArg DeckState.pos heq
      rw [hpos] at hcontra
      cases hcontra

/-! ### A latched move after a stop (R127 step 5, R131) -/

/-- Where no claim is PENDING, a deck that has become ALIGNED is told to no instance. -/
theorem deckAlignedTo_unclaimed {y : State} (j : Nat) (h : ∀ e ∈ y.il.instances, e.2.claim = .none) :
    deckAlignedTo j y = eligible (recomputeAll (deckSignals y) y) := by
  have hnone : slotsWhere y (fun i => i.claim == .pending) = [] := by
    rw [slotsWhere, itemsWhere, List.map_eq_nil_iff, List.filter_eq_nil_iff]
    intro e he
    simp [h e he]
  rw [deckAlignedTo, hnone]
  rfl

/-- The start conditions of a move read the sections, the instances, the trains and the state of the deck's module (R123). -/
theorem startFails_of_read {e : DeckEntry} (hsections : t.il.sections = s.il.sections) (hinst : t.il.instances = s.il.instances)
    (htrains : t.trains = s.trains) (hactive : moduleActive t e.addr = moduleActive s e.addr) : startFails t e = startFails s e := by
  have hsec : secAt t e.sec = secAt s e.sec := by rw [secAt, hsections, secAt]
  have htrain : trainAt t = trainAt s := by
    funext k
    rw [trainAt, htrains, trainAt]
  have houtput : outputOf t = outputOf s := by
    funext k
    rw [outputOf, htrain, outputOf]
  have hheld : deckHeld t e.sec = deckHeld s e.sec := by rw [deckHeld, hsec, hinst, deckHeld]
  have hfree : deckFree t e.sec = deckFree s e.sec := by rw [deckFree, hsec, htrain, houtput, deckFree]
  rw [startFails, hheld, hfree, hactive, startFails]

theorem trains_eligible (s : State) : (eligible s).trains = s.trains := by
  unfold eligible
  dsimp only
  split
  · split
    · split <;> rfl
    · rfl
  · rfl

theorem recheckLatch_stopped {w : State} (h : w.ctl.allStop ≠ none) : recheckLatch w = w := by
  obtain ⟨c, hc⟩ := Option.ne_none_iff_exists'.1 h
  unfold recheckLatch
  split
  · split
    · simp [hc]
    · rfl
  · rfl

theorem motion_noteDeck (ev : DeckEvent) (w : State) : motion (noteDeck ev w) = motion w := motion_of_quiet (quiet_noteDeck ev w)

theorem motion_startMove (k : Nat) (sense : ReqSense) (req : MoveReq) (w : State) :
    motion (startMove k sense req w) = motion w := by
  unfold startMove
  split
  · rw [motion_recomputeAll, motion_noteDeck]
    exact motion_offer _ w
  · rfl

/-- The re-check of a latched move leaves the polls to come. -/
theorem todo_recheckLatch (w : State) : (recheckLatch w).ring.todo = w.ring.todo := by
  have hempty : ∀ f : DeckState → DeckState, motion (updateDeck w f) = motion w := fun _ => rfl
  have hmotion : motion (recheckLatch w) = motion w := by
    unfold recheckLatch
    split
    · split
      · split
        · rfl
        · dsimp only
          split
          · rw [motion_noteDeck, hempty]
          · split
            · rw [motion_noteDeck, motion_startMove, hempty]
            · rw [motion_noteDeck, hempty]
      · rfl
    · rfl
  have hrest : ringRest (recheckLatch w).ring = ringRest w.ring := (Prod.mk.inj (Prod.mk.inj hmotion).2).2
  exact (congrArg Ring.todo hrest :)

/-- A latched move checked again at a deck that has become ALIGNED with no claim waiting for it: the deck as R127 step 5
leaves it. -/
theorem deck_recheckLatch {y : State} {d : DeckState} {e : DeckEntry} {l : Latch} {i : Nat}
    (hy : quiet y = quiet (x.withDeck (some (standsDeck d i)))) (he : (desc x).deck = some e) (hl : d.latch = some l)
    (hclaims : ∀ e ∈ x.il.instances, e.2.claim = .none) : (recheckLatch (deckAlignedTo i y)).deck =
      some (if x.ctl.allStop = none then latchTaken x (standsDeck d i) e l i else standsDeck d i) := by
  have hil : y.il = x.il := (quiet_il hy).trans rfl
  have hfixed := fixtures_deckAlignedTo i hy
  have hctl : (deckAlignedTo i y).ctl = x.ctl := (fixtures_ctl hfixed).trans rfl
  have hdeck : (deckAlignedTo i y).deck = some (standsDeck d i) := (fixtures_deck hfixed).trans rfl
  have hdesc : desc (deckAlignedTo i y) = desc x := (desc_of_fixtures hfixed).trans rfl
  by_cases hclear : x.ctl.allStop = none
  · rw [if_pos hclear, unlit_deck (unlit_recheckLatch_taken (by rw [hctl]; exact hclear) hdeck (hdesc ▸ he) hl rfl)]
    have hsame : still (deckAlignedTo i y) = still y := by
      rw [deckAlignedTo_unclaimed i fun e he => hclaims e (hil ▸ he)]
      simp
    have htrains : (deckAlignedTo i y).trains = x.trains := by
      rw [deckAlignedTo_unclaimed i fun e he => hclaims e (hil ▸ he), trains_eligible, unlit_trains (unlit_recomputeAll _ y),
        quiet_trains hy]
      rfl
    have hactive : moduleActive (deckAlignedTo i y) e.addr = moduleActive x e.addr := by
      rw [ground_moduleActive ((Ripples.refl y).deckAlignedTo i).same, moduleActive, moduleAt, quiet_ring hy]
      rfl
    have hfails : startFails (deckAlignedTo i y) e = startFails x e :=
      startFails_of_read ((still_sections hsame).trans (by rw [hil])) ((still_instances hsame).trans (by rw [hil])) htrains hactive
    simp only [State.withDeck_deck, latchTaken, hfails, hdesc]
  · rw [if_neg hclear, recheckLatch_stopped (by rw [hctl]; exact hclear)]
    exact hdeck

/-! ### The data of good answers -/

/-- A good answer of a POINT, DETECT or DECK module whose address has work left in the sweep: its data is handed on from a
state that has noted it, and the ring alone changes after that (R151, R155). -/
theorem exec_goodAnswer_plain {a : Nat} {frame : List Byte} {m : Module} (hwindow : s.ring.window = some a)
    (hm : findItem s.ring.modules a = some m) (hgood : goodFrame a m.kind frame = true) (htodo : s.ring.todo ≠ [])
    (hplain : PlainOwner m.kind) : ∃ x, Noted (m.state = .active) s x ∧
      ((handData a m.kind (payloadOf frame) x).ring.todo = x.ring.todo →
        ∃ r, exec (.goodAnswer frame) s = .next ((handData a m.kind (payloadOf frame) x).withRing r)) := by
  have hmod : moduleAt s a = m := by simp [moduleAt, hm]
  subst hmod
  obtain ⟨x, hx, heq⟩ := takeAnswer_noted (a := a) frame s hplain
  refine ⟨x, hx, fun hkept => ?_⟩
  obtain ⟨r, hr⟩ := afterOutcome_within (s := handData a (moduleAt s a).kind (payloadOf frame) x)
    (by rw [hkept, hx.todo]; exact htodo)
  exact ⟨r, by rw [exec_goodAnswer hwindow hgood, heq, hr]⟩

/-- What a state that has noted an answer has not changed. -/
theorem Noted.fixtures {c : Prop} (h : Noted c s x) : fixtures x = Machine.fixtures s := by
  simp only [Machine.fixtures, inner_store h.same, inner_ctl h.same, inner_deck h.same, inner_il h.same, h.todo]

theorem Noted.neitherOf {c : Prop} (h : Noted c s x) (n : Nat) : neitherOf x n = Machine.neitherOf s n := by
  have hcounts : ∀ b, (moduleAt x b).neitherCounts = (moduleAt s b).neitherCounts := fun b =>
    congrArg (·.2) (h.modules b).1
  simp only [Machine.neitherOf, h.desc, hcounts]

theorem Noted.clearCountOf {c : Prop} (h : Noted c s x) (n : Nat) : clearCountOf x n = Machine.clearCountOf s n := by
  have hcounts : ∀ b, (moduleAt x b).clearCounts = (moduleAt s b).clearCounts := fun b =>
    congrArg (·.1) (h.modules b).1
  simp only [Machine.clearCountOf, secEntry, h.desc, hcounts]

theorem shownPosition_eq (b : Byte) (k : Nat) : shownPosition b k =
    if b.getLsbD (2 * k) = true ∧ ¬ b.getLsbD (2 * k + 1) = true then some .normal
    else if b.getLsbD (2 * k + 1) = true ∧ ¬ b.getLsbD (2 * k) = true then some .reverse else none := by
  unfold shownPosition
  cases hn : b.getLsbD (2 * k) <;> cases hr : b.getLsbD (2 * k + 1) <;> simp

/-- The points of the module of a good POINT answer (R28). -/
theorem goodAnswer_points {a : Nat} {frame : List Byte} {m : Module} {b : Byte} (hwindow : s.ring.window = some a)
    (hm : findItem s.ring.modules a = some m) (hgood : goodFrame a m.kind frame = true) (htodo : s.ring.todo ≠ [])
    (hk : m.kind = .point) (hb : payloadOf frame = [b]) (hnodup : (itemNumbers (desc s).points).Nodup) :
    ∃ t, exec (.goodAnswer frame) s = .next t ∧ t.ctl = s.ctl ∧ t.deck = s.deck ∧ t.il.districts = s.il.districts ∧
      (∀ n e st, findItem (desc s).points n = some e → ptAt s n = some st → e.addr ≠ a →
        (ptAt t n).map groundPt = some (groundPt st)) ∧
      (∀ n e st, findItem (desc s).points n = some e → ptAt s n = some st → e.addr = a →
        (∀ k x, k ≠ n → findItem (desc s).points k = some x → x.addr = a → x.output ≠ e.output) →
        (ptAt t n).map groundPt = some (groundPt (answeredPt st (shownPosition b e.output) (neitherOf s n)))) := by
  obtain ⟨x, hx, hexec⟩ := exec_goodAnswer_plain hwindow hm hgood htodo (by rw [hk]; exact ⟨by decide, by decide, by decide⟩)
  have hhand : handData a m.kind (payloadOf frame) x =
      (itemsWhere (desc s).points (fun _ e => e.addr == a)).foldl (answerPoint b) x := by
    rw [hk, hb, ← hx.desc]
    rfl
  have hmem := mem_itemsWhere_iff hnodup (fun _ e => e.addr == a)
  have hl := nodup_itemsWhere hnodup (fun _ e => e.addr == a)
  have hpt : ∀ n, ptAt x n = ptAt s n := fun n => by rw [ptAt, inner_il hx.same, ptAt]
  rw [hhand] at hexec
  generalize itemsWhere (desc s).points (fun _ e => e.addr == a) = l at hexec hmem hl
  have hfixed : fixtures (l.foldl (answerPoint b) x) = fixtures x :=
    foldl_within (P := fun y => fixtures y = fixtures x) (fun y k _ hy => (answerPoint_beside b y k).fixed.trans hy) rfl
  have hall := hfixed.trans hx.fixtures
  obtain ⟨r, hr⟩ := hexec (fixtures_todo hfixed)
  refine ⟨_, hr, (fixtures_ctl hall :), (fixtures_deck hall :), (fixtures_districts hall :), fun n e st he hst haddr => ?_,
    fun n e st he hst haddr hothers => ?_⟩
  · have hn : n ∉ l := fun hin => by
      obtain ⟨e', he', haddr'⟩ := (hmem n).1 hin
      obtain rfl := Option.some.inj (he.symm.trans he')
      exact haddr (by simpa using haddr')
    exact (answerPoints_others hn).2.trans (by rw [hpt, hst]; rfl)
  · have hn : n ∈ l := (hmem n).2 ⟨e, he, by simpa using haddr⟩
    rw [← hx.neitherOf]
    refine answerPoints_same hl hn (hx.desc ▸ he) ((hpt n).trans hst) fun k hk hne => ?_
    obtain ⟨y, hy, haddr'⟩ := (hmem k).1 hk
    exact ⟨y, hx.desc ▸ hy, hothers k y hne hy (by simpa using haddr')⟩

/-- The sections of the module of a good DETECT answer (R23). -/
theorem goodAnswer_sections {a : Nat} {frame : List Byte} {m : Module} {b : Byte} (hwindow : s.ring.window = some a)
    (hm : findItem s.ring.modules a = some m) (hgood : goodFrame a m.kind frame = true) (htodo : s.ring.todo ≠ [])
    (hk : m.kind = .detect) (hb : payloadOf frame = [b]) (hnodup : (itemNumbers (desc s).sections).Nodup) :
    ∃ t, exec (.goodAnswer frame) s = .next t ∧ t.ctl = s.ctl ∧ t.deck = s.deck ∧
      (∀ n e st, findItem (desc s).sections n = some e → secAt s n = some st → e.addr ≠ a →
        (secAt t n).map (·.occ) = some st.occ) ∧
      (∀ n e st, findItem (desc s).sections n = some e → secAt s n = some st → e.addr = a →
        (∀ k x, k ≠ n → findItem (desc s).sections k = some x → x.addr = a → x.input ≠ e.input) →
        (secAt t n).map (·.occ) =
          some (occupancyAfter st (if b.getLsbD e.input then .occupied else .clear) (clearCountOf s n))) := by
  obtain ⟨x, hx, hexec⟩ := exec_goodAnswer_plain hwindow hm hgood htodo (by rw [hk]; exact ⟨by decide, by decide, by decide⟩)
  have hhand : handData a m.kind (payloadOf frame) x =
      (itemsWhere (desc s).sections (fun _ e => e.addr == a)).foldl (answerSection b) x := by
    rw [hk, hb, ← hx.desc]
    rfl
  have hmem := mem_itemsWhere_iff hnodup (fun _ e => e.addr == a)
  have hl := nodup_itemsWhere hnodup (fun _ e => e.addr == a)
  have hsec : ∀ n, secAt x n = secAt s n := fun n => by rw [secAt, inner_il hx.same, secAt]
  have hentry : ∀ {n e}, findItem (desc s).sections n = some e → secEntry x n = some e := fun he => by
    rw [secEntry, hx.desc]
    exact he
  rw [hhand] at hexec
  generalize itemsWhere (desc s).sections (fun _ e => e.addr == a) = l at hexec hmem hl
  have hfixed : fixtures (l.foldl (answerSection b) x) = fixtures x :=
    foldl_within (P := fun y => fixtures y = fixtures x) (fun y k _ hy => (answerSection_beside b y k).fixed.trans hy) rfl
  have hall := hfixed.trans hx.fixtures
  obtain ⟨r, hr⟩ := hexec (fixtures_todo hfixed)
  refine ⟨_, hr, (fixtures_ctl hall :), (fixtures_deck hall :), fun n e st he hst haddr => ?_,
    fun n e st he hst haddr hothers => ?_⟩
  · have hn : n ∉ l := fun hin => by
      obtain ⟨e', he', haddr'⟩ := (hmem n).1 hin
      obtain rfl := Option.some.inj (he.symm.trans he')
      exact haddr (by simpa using haddr')
    exact (answerSections_others hn).2.trans (by rw [hsec, hst]; rfl)
  · have hn : n ∈ l := (hmem n).2 ⟨e, he, by simpa using haddr⟩
    rw [← hx.clearCountOf]
    refine answerSections_same hl hn (hentry he) ((hsec n).trans hst) fun k hk hne => ?_
    obtain ⟨y, hy, haddr'⟩ := (hmem k).1 hk
    exact ⟨y, hentry hy, hothers k y hne hy (by simpa using haddr')⟩

/-- An answer shows the deck at rest at its index (section 7.2). -/
theorem atRest_iff {e : DeckEntry} (i : Nat) (f : Byte) (he : (desc s).deck = some e) :
    atRest s i f = true ↔ f.getLsbD 0 = true ∧ f.getLsbD 1 = false ∧ i < e.n := by
  simp [atRest, he, and_assoc]

/-- A good DECK answer handed on (R126, R129). -/
theorem handData_deck (a : Nat) {i f : Byte} {e : DeckEntry} (he : (desc x).deck = some e) : handData a .deck [i, f] x =
    deckAnswer i.toNat (decide (f.getLsbD 0 = true ∧ f.getLsbD 1 = false ∧ i.toNat < e.n)) x := by
  have hrest : atRest x i.toNat f = decide (f.getLsbD 0 = true ∧ f.getLsbD 1 = false ∧ i.toNat < e.n) := by
    rw [Bool.eq_iff_iff, atRest_iff _ _ he, decide_eq_true_iff]
  rw [← hrest]
  rfl

/-- A good answer of a deck with no latched move (R126, R129), and the deck claims that a deck which has become ALIGNED meets
(R54, R63). -/
theorem goodAnswer_deck {a : Nat} {frame : List Byte} {m : Module} {i f : Byte} {d : DeckState} {e : DeckEntry}
    (hwindow : s.ring.window = some a) (hm : findItem s.ring.modules a = some m) (hgood : goodFrame a m.kind frame = true)
    (htodo : s.ring.todo ≠ []) (hk : m.kind = .deck) (hb : payloadOf frame = [i, f]) (hd : s.deck = some d)
    (he : (desc s).deck = some e) (hlatch : d.latch = none) :
    let after := deckAfter d i.toNat (decide (f.getLsbD 0 = true ∧ f.getLsbD 1 = false ∧ i.toNat < e.n))
    ∃ t, exec (.goodAnswer frame) s = .next t ∧ t.ctl = s.ctl ∧ t.il.districts = s.il.districts ∧ t.deck = some after ∧
      (after = standsDeck d i.toNat → (∀ j, d.pos ≠ .aligned j) →
        ∀ slot x, instAt s slot = some x → x.claim = .pending →
          ((routeAt s x.route).bind (routeTarget s) = some i.toNat → ∀ y, instAt t slot = some y → y.claim = .locked) ∧
          ((routeAt s x.route).bind (routeTarget s) ≠ some i.toNat → instAt t slot = none)) := by
  intro after
  obtain ⟨x, hx, hexec⟩ := exec_goodAnswer_plain hwindow hm hgood htodo (by rw [hk]; exact ⟨by decide, by decide, by decide⟩)
  have hdeck : x.deck = some d := (inner_deck hx.same).trans hd
  obtain ⟨hfixed, hclaims⟩ := deckAnswer_unlatched (i := i.toNat)
    (rest := decide (f.getLsbD 0 = true ∧ f.getLsbD 1 = false ∧ i.toNat < e.n)) hdeck hlatch
  have hbase := hx.fixtures
  rw [hk, hb, handData_deck a (hx.desc ▸ he)] at hexec
  obtain ⟨r, hr⟩ := hexec ((fixtures_todo hfixed).trans rfl)
  refine ⟨_, hr, (fixtures_ctl hfixed).trans (fixtures_ctl hbase :), (fixtures_districts hfixed).trans (fixtures_districts hbase :),
    (fixtures_deck hfixed).trans rfl, fun hstands hmoved slot z hz hp => ?_⟩
  obtain ⟨y, hil, hstore, heq⟩ := hclaims hstands hmoved
  have hinst : instAt y slot = some z := by rw [instAt, hil, inner_il hx.same, ← instAt, hz]
  have hdesc : desc y = desc s := by rw [desc, hstore, ← desc, hx.desc]
  have htarget : (routeAt y z.route).bind (routeTarget y) = (routeAt s z.route).bind (routeTarget s) := by
    have hfun : routeTarget y = routeTarget s := by
      funext r
      simp only [routeTarget, hdesc]
    rw [hfun, routeAt, hdesc, routeAt]
  obtain ⟨hmet, hfails⟩ := deckAlignedTo_claims (j := i.toNat) hinst hp
  rw [htarget, ← heq] at hmet hfails
  exact ⟨hmet, hfails⟩

/-- A good answer that ends the move of a deck with a latched move, with no claim waiting (R127 step 5, R131). -/
theorem goodAnswer_latched {a : Nat} {frame : List Byte} {m : Module} {i f : Byte} {d : DeckState} {e : DeckEntry} {l : Latch}
    {start target : Nat} {sn : Sense} (hwindow : s.ring.window = some a) (hm : findItem s.ring.modules a = some m)
    (hgood : goodFrame a m.kind frame = true) (htodo : s.ring.todo ≠ []) (hk : m.kind = .deck)
    (hb : payloadOf frame = [i, f]) (hd : s.deck = some d) (he : (desc s).deck = some e) (hl : d.latch = some l)
    (hpos : d.pos = .moving start target sn) (hplace : i.toNat = target ∨ i.toNat ≠ start)
    (hrest : f.getLsbD 0 = true ∧ f.getLsbD 1 = false ∧ i.toNat < e.n) (hactive : m.state = .active)
    (hclaims : ∀ x ∈ s.il.instances, x.2.claim = .none) :
    ∃ t, exec (.goodAnswer frame) s = .next t ∧ t.deck = some (if s.ctl.allStop = none
      then latchTaken s (standsDeck d i.toNat) e l i.toNat else standsDeck d i.toNat) := by
  obtain ⟨x, hx, hexec⟩ := exec_goodAnswer_plain hwindow hm hgood htodo (by rw [hk]; exact ⟨by decide, by decide, by decide⟩)
  have hdeck : x.deck = some d := (inner_deck hx.same).trans hd
  obtain ⟨y, hy, heq⟩ := deckAnswer_moving (i := i.toNat) hdeck hpos hplace
  rw [hk, hb, handData_deck a (hx.desc ▸ he), decide_eq_true hrest, heq] at hexec
  have htodo' : (recheckLatch (deckAlignedTo i.toNat y)).ring.todo = x.ring.todo :=
    (todo_recheckLatch _).trans ((fixtures_todo (fixtures_deckAlignedTo _ hy)).trans rfl)
  obtain ⟨r, hr⟩ := hexec htodo'
  have hstates : ∀ b, moduleActive x b = moduleActive s b := fun b => by
    rw [moduleActive, (hx.modules b).2 hactive, moduleActive]
  have htaken : latchTaken x (standsDeck d i.toNat) e l i.toNat = latchTaken s (standsDeck d i.toNat) e l i.toNat := by
    have hfails : startFails x e = startFails s e := startFails_of_read (by rw [inner_il hx.same]) (by rw [inner_il hx.same])
      (inner_trains hx.same) (hstates _)
    simp only [latchTaken, hfails, hx.desc]
  have hresult := deck_recheckLatch hy (hx.desc ▸ he) hl fun z hz => hclaims z (inner_il hx.same ▸ hz)
  rw [htaken, inner_ctl hx.same] at hresult
  exact ⟨_, hr, hresult⟩

end Sys2Proof.Machine
end

section
/-! PROOFS. A change of a point told to an instance in SETTING, the buttons, and the data of good answers as a whole (chapters
4, 8 and 9). -/

namespace Sys2Proof.Machine

open Sys2Proof

-- One theorem at a time: theorems that wait for each other would hold a thread each.
set_option Elab.async false

variable {s t : State}

/-! ### A change of a point told to the instance that holds it (R61, R62) -/

/-- An instance in SETTING that holds the point is tested when the point is proven where it is needed, and fails when not. -/
theorem pointTold_holding {n slot : Nat} {i : Inst} {h : HeldPoint} (why : FailReason) (hi : instAt s slot = some i)
    (hstate : i.state = .setting) (hh : i.held.find? (fun g => g.point == n) = some h) :
    pointTold n why slot s = if ptProven s n h.pos then setTest slot s else failInst slot why s := by
  simp only [pointTold, hi, hstate, hh]

/-- The point told to the one instance in SETTING that holds it, however often it is listed: the instance is tested, or fails,
once. -/
theorem toldAll_single {n slot : Nat} {i : Inst} {h : HeldPoint} (why : FailReason) {l : List Nat} (hl : slot ∈ l)
    (hi : instAt s slot = some i) (hstate : i.state = .setting) (hh : i.held.find? (fun g => g.point == n) = some h)
    (hothers : ∀ k j, k ≠ slot → instAt s k = some j → ¬ SettingHolds n j) :
    toldAll n why l s = if ptProven s n h.pos then setTest slot s else failInst slot why s := by
  induction l with
  | nil => cases hl
  | cons k l ih =>
    have hcons : toldAll n why (k :: l) s = toldAll n why l (pointTold n why k s) := rfl
    rw [hcons]
    by_cases hk : k = slot
    · subst hk
      rw [pointTold_holding why hi hstate hh]
      by_cases hp : ptProven s n h.pos = true
      · rw [if_pos hp]
        obtain ⟨-, hbeside, hkept, hself⟩ := setTest_spec hi hstate
        by_cases hready : ReadyToSet s i
        · refine toldAll_idle why fun q _ j hj hholds => ?_
          by_cases hq : q = k
          · subst hq
            exact (hself j hj).2 hready hholds.1
          · exact hothers q j hq (hbeside.others q hq ▸ hj) hholds
        · rw [hkept hready]
          by_cases hin : k ∈ l
          · rw [ih hin, if_pos hp, hkept hready]
          · refine toldAll_idle why fun q hq j hj => hothers q j (fun hqk => hin (hqk ▸ hq)) hj
      · rw [if_neg hp]
        obtain ⟨-, hinst, -⟩ := failInst_spec why hi
        refine toldAll_idle why fun q _ j hj => ?_
        rw [hinst] at hj
        split at hj
        · cases hj
        · exact hothers q j ‹_› hj
    · have hidle : pointTold n why k s = s := pointTold_idle why fun j hj => hothers k j hk hj
      rw [hidle]
      exact ih ((List.mem_cons.1 hl).resolve_left (Ne.symm hk))

/-- Eligibility and aspects after the instances have been told. -/
def afterTold (n : Nat) (proven : Bool) (s : State) : State :=
  recomputeAll (pointSignals (if proven then eligible s else s) n) (if proven then eligible s else s)

theorem pointHandOn_eq (n : Nat) (why : FailReason) (s : State) :
    ∃ proven, pointHandOn n why s = afterTold n proven (toldHolders n why s) :=
  ⟨_, rfl⟩

theorem release_afterTold (slot n : Nat) (proven : Bool) (s : State) : Release slot s (afterTold n proven s) := by
  have hmarked : Release slot s (if proven then eligible s else s) := by
    split
    · exact (Release.refl slot s).eligible
    · exact .refl slot s
  exact hmarked.unlit (unlit_recomputeAll _ _)

theorem SetTested.congr {slot : Nat} {i : Inst} {u : State} (h : SetTested slot i s t) (hu : instAt u slot = instAt t slot) :
    SetTested slot i s u := by
  obtain ⟨hwaits, hset, hoccupied⟩ := h
  exact ⟨fun hr => hu.trans (hwaits hr), fun hr hf => hu.trans (hset hr hf), fun x hr hf j hj => hoccupied x hr hf j (hu ▸ hj)⟩

/-- A change of a point's position handed on, where one instance in SETTING holds the point (R61, R62). -/
theorem pointHandOn_single {n slot : Nat} {i : Inst} {h : HeldPoint} (why : FailReason) (hi : instAt s slot = some i)
    (hstate : i.state = .setting) (hh : i.held.find? (fun g => g.point == n) = some h)
    (hothers : ∀ k j, k ≠ slot → (k, j) ∈ s.il.instances → j.state = .setting → ∀ g ∈ j.held, g.point ≠ n) :
    let t := pointHandOn n why s
    (t.deck = s.deck ∧ ∀ k, k ≠ slot → instAt t k = instAt s k) ∧
    (ptProven s n h.pos = true → SetTested slot i s t ∧ RouteFrame s t) ∧
    (ptProven s n h.pos = false → instAt t slot = none) := by
  intro t
  have hholds : SettingHolds n i := ⟨hstate, h, List.mem_of_find?_eq_some hh, by simpa using List.find?_some hh⟩
  have htold : toldHolders n why s = if ptProven s n h.pos then setTest slot s else failInst slot why s :=
    toldAll_single why (mem_slotsWhere_of_settingHolds hi hholds) hi hstate hh fun k j hk hj ⟨hset, g, hg, hpoint⟩ =>
      hothers k j hk (mem_of_findItem hj) hset g hg hpoint
  obtain ⟨proven, ht⟩ : ∃ proven, t = afterTold n proven (toldHolders n why s) := pointHandOn_eq n why s
  rw [htold] at ht
  have hstill : still t = still (if ptProven s n h.pos then setTest slot s else failInst slot why s) := by
    rw [ht, afterTold, still_recomputeAll]
    cases proven
    · rfl
    · exact still_eligible _
  clear_value t
  by_cases hp : ptProven s n h.pos = true
  · obtain ⟨htested, hbeside, -⟩ := setTest_spec hi hstate
    rw [if_pos hp] at ht hstill
    have hall : Beside slot s t := hbeside.trans (ht ▸ (release_afterTold slot n proven _).beside)
    exact ⟨⟨margin_deck hall.tables.apart, hall.others⟩, fun _ => ⟨htested.congr (still_instAt hstill slot), hall.routeFrame⟩,
      fun hnot => absurd hp (by simp [hnot])⟩
  · obtain ⟨hgone, hinst, -⟩ := failInst_spec why hi
    rw [if_neg hp] at hstill
    refine ⟨⟨(still_deck hstill).trans (margin_deck hgone.tables.apart), fun k hk => ?_⟩, fun h => absurd h hp, fun _ => ?_⟩
    · rw [still_instAt hstill, hinst, if_neg hk]
    · rw [still_instAt hstill, hinst, if_pos rfl]

/-! ### Buttons (R138 to R140) -/

/-- The level of a button. -/
def levelOf (s : State) (n : Nat) : Option (Option Level) := (findItem s.demo.buttons n).map (·.level)

/-- The head of the queue made ready keeps the levels and what is aside; an ACCEPTED head waits in the queue or runs (R142,
R143). -/
theorem headReady_leaves (s : State) : aside (headReady s) = aside s ∧ (∀ n, levelOf (headReady s) n = levelOf s n) ∧
    ∀ e l, s.demo.queue = e :: l → e.accepted = true →
      (∃ g ∈ (headReady s).demo.queue, g.plan = e.plan ∧ g.accepted = true) ∨
        ∃ r, (headReady s).demo.run = some r ∧ r.plan = e.plan := by
  unfold headReady
  split
  · rename_i e l hq
    split
    · rename_i haccepted
      obtain ⟨q, htimer, hqueue⟩ := startHeadTimer_within s
      obtain ⟨e1, l1, rfl, hplan, hacc⟩ : ∃ e1 l1, q = e1 :: l1 ∧ e1.plan = e.plan ∧ e1.accepted = e.accepted := by
        rw [hq] at hqueue
        cases q with
        | nil => simp at hqueue
        | cons e1 l1 =>
          have hhead := (List.cons.inj hqueue).1
          exact ⟨e1, l1, rfl, congrArg (·.1) hhead, congrArg (·.2) hhead⟩
      refine ⟨by simp, fun n => ?_, fun e' l' heq _ => ?_⟩
      · rw [htimer]
        obtain heq | ⟨g, m, pl, -, -, -, heq⟩ := admissionTest_cases (s.withDemo { s.demo with queue := e1 :: l1 })
        · rw [heq]
          rfl
        · rw [heq]
          exact (admitHead_leaves g.plan pl _).2.2.2 n
      · obtain ⟨rfl, -⟩ := List.cons.inj (hq.symm.trans heq)
        rw [htimer]
        obtain heq | ⟨g, m, pl, hgq, -, -, heq⟩ := admissionTest_cases (s.withDemo { s.demo with queue := e1 :: l1 })
        · rw [heq]
          exact .inl ⟨e1, by simp, hplan, hacc.trans haccepted⟩
        · rw [heq]
          obtain ⟨rfl, -⟩ := List.cons.inj (show e1 :: l1 = g :: m from hgq)
          obtain ⟨⟨r, hr, hrplan, -⟩, -⟩ := admitHead_leaves e1.plan pl (s.withDemo { s.demo with queue := e1 :: l1 })
          exact .inr ⟨r, hr, hrplan.trans hplan⟩
    · rename_i hnot
      refine ⟨rfl, fun _ => rfl, fun e' l' heq ha => ?_⟩
      obtain ⟨rfl, -⟩ := List.cons.inj (hq.symm.trans heq)
      exact absurd ha hnot
  · rename_i hq
    exact ⟨rfl, fun _ => rfl, fun e' l' heq _ => by rw [hq] at heq; cases heq⟩

/-- An entry that joins the queue. -/
def entryFor (n : Nat) (accepted : Bool) (screening : Option Nat) : DemoEntry :=
  { plan := n, accepted := accepted, screening := screening, admission := none }

/-- A press that is not taken: the service is closed, the plan runs or waits already, or the queue is full (R139). -/
def PressIgnored (n : Nat) (s : State) : Prop :=
  isOpen s.demo.failing = false ∨ (∃ r, s.demo.run = some r ∧ r.plan = n) ∨ (∃ e ∈ s.demo.queue, e.plan = n) ∨
    6 ≤ s.demo.queue.length

/-- A press that is not taken is counted and told alone (R139). -/
theorem quiet_press_of_ignored {n : Nat} (h : PressIgnored n s) : quiet (press n s) = quiet s := by
  have hcounted : quiet (count .buttonPresses (some .demo) (planDistrict s n) s) = quiet s := quiet_count _ _ _ _
  unfold press
  dsimp only
  split
  · exact hcounted
  · rename_i hopen
    split
    · exact hcounted
    · rename_i htaken
      split
      · rw [quiet_raise, quiet_count, hcounted]
      · rename_i hroom
        rw [count_demo] at hopen htaken hroom
        exfalso
        obtain hclosed | ⟨r, hr, hplan⟩ | ⟨e, he, hplan⟩ | hfull := h
        · simp [hclosed] at hopen
        · exact htaken (by simp [hr, hplan])
        · refine htaken (Bool.or_eq_true_iff.2 (.inr (List.any_eq_true.2 ⟨e, he, by simp [hplan]⟩)))
        · exact hroom hfull

theorem unlamped_withDemo_congr (h : quiet t = quiet s) (v : Demo) : unlamped (t.withDemo v) = unlamped (s.withDemo v) :=
  congrArg (fun x : State => x.withDemo (unlampedDemo v)) (inner_of_quiet h)

/-- A press that is taken, by the screening window (R139). -/
theorem press_taken {n : Nat} (h : ¬ PressIgnored n s) : ∃ x, quiet x = quiet s ∧ x.demo = s.demo ∧ desc x = desc s ∧
    press n s = if (desc s).params.screening = 0 then
      (if s.demo.queue.isEmpty then headReady (recomputeLamp n (raise (.demo (.accepted n .window))
          (x.withDemo { s.demo with queue := s.demo.queue ++ [entryFor n true none] })))
        else recomputeLamp n (raise (.demo (.accepted n .window))
          (x.withDemo { s.demo with queue := s.demo.queue ++ [entryFor n true none] })))
    else recomputeLamp n (raise (.demo (.pending n (((planEntry x n).map (·.train)).getD 0) s.demo.queue.length))
      (x.withDemo { s.demo with
        queue := s.demo.queue ++ [entryFor n false (some ((desc s).params.screening * 1000))] })) := by
  have hdesc : desc (count .buttonPresses (some .demo) (planDistrict s n) s) = desc s := by rw [desc, count_store, desc]
  refine ⟨count .buttonPresses (some .demo) (planDistrict s n) s, quiet_count _ _ _ _, count_demo _ _ _ _, hdesc, ?_⟩
  simp only [PressIgnored, not_or, not_exists, not_and, Bool.not_eq_false, Nat.not_le] at h
  obtain ⟨hopen, hrun, hqueue, hroom⟩ := h
  have hfree : (s.demo.run.any (fun r => r.plan == n) || s.demo.queue.any (fun e => e.plan == n)) = false := by
    rw [Bool.or_eq_false_iff, List.any_eq_false]
    refine ⟨?_, fun e he => by simpa using hqueue e he⟩
    cases hr : s.demo.run with
    | none => rfl
    | some r => simpa using hrun r hr
  have hplace : ¬ Config.demoCapacity ≤ s.demo.queue.length := Nat.not_le.2 hroom
  simp only [press, count_demo, hdesc, hopen, hfree, hplace, Bool.not_true, Bool.false_eq_true, if_false]
  rfl

theorem inner_withDemo_of_unlamped (h : unlamped t = unlamped s) (v : Demo) : inner (t.withDemo v) = inner (s.withDemo v) :=
  congrArg (fun x : State => x.withDemo v) h

/-- A press with a screening window: a PENDING entry joins the queue, and lamps alone change besides (R139). -/
theorem press_screened {n : Nat} (h : ¬ PressIgnored n s) (hwindow : (desc s).params.screening ≠ 0) :
    (press n s).demo.run = s.demo.run ∧ (press n s).trains = s.trains ∧
    (∀ v, inner ((press n s).withDemo v) = inner (s.withDemo v)) ∧
    (press n s).demo.queue = s.demo.queue ++ [entryFor n false (some ((desc s).params.screening * 1000))] ∧
    ∀ k, levelOf (press n s) k = levelOf s k := by
  obtain ⟨x, hx, -, -, heq⟩ := press_taken h
  rw [if_neg hwindow] at heq
  have hpress : unlamped (press n s) = unlamped (s.withDemo { s.demo with
      queue := s.demo.queue ++ [entryFor n false (some ((desc s).params.screening * 1000))] }) := by
    rw [heq, unlamped_recomputeLamp, unlamped_raise]
    exact unlamped_withDemo_congr hx _
  generalize press n s = t at hpress
  exact ⟨(unlamped_run hpress).trans rfl, (unlamped_trains hpress).trans rfl,
    fun v => (inner_withDemo_of_unlamped hpress v).trans rfl, (unlamped_queue hpress).trans rfl,
    fun k => (unlamped_level hpress k).trans rfl⟩

/-- A press with no screening window: an ACCEPTED entry joins the queue, and is made ready when it is the head (R139, R140). -/
theorem press_accepted {n : Nat} (h : ¬ PressIgnored n s) (hwindow : (desc s).params.screening = 0) :
    ∃ y, unlamped y = unlamped (s.withDemo { s.demo with queue := s.demo.queue ++ [entryFor n true none] }) ∧
      press n s = if s.demo.queue.isEmpty then headReady y else y := by
  obtain ⟨x, hx, -, -, heq⟩ := press_taken h
  refine ⟨recomputeLamp n (raise (.demo (.accepted n .window))
    (x.withDemo { s.demo with queue := s.demo.queue ++ [entryFor n true none] })), ?_, by rw [heq, if_pos hwindow]⟩
  rw [unlamped_recomputeLamp, unlamped_raise]
  exact unlamped_withDemo_congr hx _

theorem inner_withDemo_withTrains (h : aside t = aside s) (v : Demo) (w : Table TrainRec) :
    inner ((t.withDemo v).withTrains w) = inner ((s.withDemo v).withTrains w) :=
  congrArg (fun x : State => (x.withDemo v).withTrains w) h

theorem aside_of_unlamped (h : unlamped t = unlamped s) : aside t = aside s :=
  congrArg (fun x : State => (x.withTrains []).withDemo State.reset.demo) h

/-- A press keeps the levels of the buttons. -/
theorem levelOf_press (n k : Nat) (s : State) : levelOf (press n s) k = levelOf s k := by
  by_cases hignored : PressIgnored n s
  · rw [levelOf, quiet_demo (quiet_press_of_ignored hignored), levelOf]
  · by_cases hwindow : (desc s).params.screening = 0
    · obtain ⟨y, hy, heq⟩ := press_accepted hignored hwindow
      have hlevel : levelOf y k = levelOf s k := (unlamped_level hy k).trans rfl
      rw [heq]
      split
      · exact ((headReady_leaves y).2.1 k).trans hlevel
      · exact hlevel
    · obtain ⟨-, -, -, -, hlevel⟩ := press_screened hignored hwindow
      exact hlevel k

/-- A press with no screening window leaves an ACCEPTED entry or a run of its plan, and what is aside (R139 to R143). -/
theorem press_accepted_leaves {n : Nat} (h : ¬ PressIgnored n s) (hwindow : (desc s).params.screening = 0) :
    aside (press n s) = aside s ∧ ((∃ e ∈ (press n s).demo.queue, e.plan = n ∧ e.accepted = true) ∨
      ∃ r, (press n s).demo.run = some r ∧ r.plan = n) := by
  obtain ⟨y, hy, heq⟩ := press_accepted h hwindow
  have hqueue : y.demo.queue = s.demo.queue ++ [entryFor n true none] := unlamped_queue hy
  have haside : aside y = aside s := (aside_of_unlamped hy).trans rfl
  rw [heq]
  split
  · rename_i hempty
    have hhead : y.demo.queue = entryFor n true none :: [] := by
      rw [hqueue, List.isEmpty_iff.1 hempty]
      rfl
    obtain ⟨hkept, -, hready⟩ := headReady_leaves y
    exact ⟨hkept.trans haside, hready _ _ hhead rfl⟩
  · exact ⟨haside, .inl ⟨entryFor n true none, by simp [hqueue], rfl, rfl⟩⟩

/-- One button of a good BUTTON answer (R138, R139). -/
theorem buttonAnswer_spec (n : Nat) (pressed : Bool) {b : Button} (hb : findItem s.demo.buttons n = some b) :
    let t := buttonAnswer n pressed s
    let level := if pressed then Level.pressed else .released
    let seen := s.withDemo { s.demo with buttons := updateItem s.demo.buttons n (fun b => { b with level := some level }) }
    (findItem t.demo.buttons n).map (·.level) = some (some level) ∧
    (¬ (pressed = true ∧ b.level = some .released) → t = seen) ∧
    (pressed = true → b.level = some .released →
      (PressIgnored n s → quiet t = quiet seen) ∧
      (¬ PressIgnored n s → (desc s).params.screening ≠ 0 → t.demo.run = s.demo.run ∧ t.trains = s.trains ∧
        inner (t.withDemo s.demo) = inner s ∧
        t.demo.queue = s.demo.queue ++ [entryFor n false (some ((desc s).params.screening * 1000))]) ∧
      (¬ PressIgnored n s → (desc s).params.screening = 0 → inner ((t.withDemo s.demo).withTrains s.trains) = inner s ∧
        ((∃ e ∈ t.demo.queue, e.plan = n ∧ e.accepted = true) ∨ ∃ r, t.demo.run = some r ∧ r.plan = n))) := by
  intro t level seen
  have hlevel : levelOf seen n = some (some level) := by
    dsimp only [levelOf, seen, State.withDemo_demo]
    rw [findItem_updateItem_same, hb]
    rfl
  have ht : t = if pressed && b.level == some .released then press n seen else seen := by
    dsimp only [t, buttonAnswer]
    rw [hb]
  refine ⟨?_, fun hnot => ?_, fun hpressed hreleased => ?_⟩
  · rw [ht]
    split
    · exact (levelOf_press n n seen).trans hlevel
    · exact hlevel
  · rw [ht, if_neg (by simpa using hnot)]
  · rw [ht, if_pos (by simp [hpressed, hreleased])]
    refine ⟨fun hignored => quiet_press_of_ignored (s := seen) hignored, fun hopen hwindow => ?_, fun hopen hwindow => ?_⟩
    · obtain ⟨hrun, htrains, hinner, hqueue, -⟩ := press_screened (s := seen) hopen hwindow
      exact ⟨hrun, htrains, (hinner s.demo).trans (by cases s; rfl), hqueue⟩
    · obtain ⟨haside, hready⟩ := press_accepted_leaves (s := seen) hopen hwindow
      exact ⟨(inner_withDemo_withTrains haside s.demo s.trains).trans (by cases s; rfl), hready⟩

/-! ### The data of good answers -/

/-- Settles O45, part by part: the lemmas on the POINT, DETECT and DECK answers, the test of R61 and the points told to an
instance, and the buttons. -/
theorem goodAnswerData : Obligations.GoodAnswerData := by
  refine ⟨fun a frame m s hwindow hm hgood htodo => ⟨fun b hk hb hnodup => ?_, fun b hk hb hnodup => ?_,
    fun i f d e hk hb hd he hlatch => ?_,
    fun i f d e l start target sn hk hb hd he hl hpos hplace hn hbolt hdrive hactive hclaims => ?_⟩,
    fun slot i s hi hstate => ?_, fun n b pressed s hb => buttonAnswer_spec n pressed hb⟩
  · obtain ⟨t, ht, hctl, hdeck, hdistricts, hothers, hpoints⟩ := goodAnswer_points hwindow hm hgood htodo hk hb hnodup
    refine ⟨t, ht, hctl, hdeck, hdistricts, fun n e st he hst haddr => ?_, fun n e st he hst haddr hapart => ?_⟩
    · obtain ⟨x, hx, hground⟩ := Option.map_eq_some_iff.1 (hothers n e st he hst haddr)
      rw [hx]
      exact (congrArg (fun p : PtState => some (p.reported, p.commanded, p.timer)) hground :)
    · intro normal reverse shown reported
      have hshown : shownPosition b e.output = shown := shownPosition_eq b e.output
      have hreported : reportAfter st shown (neitherOf s n) = reported := by
        dsimp only [reported]
        clear_value shown
        cases hrep : st.reported <;> cases shown <;> simp [reportAfter, hrep]
      obtain ⟨x, hx, hground⟩ := Option.map_eq_some_iff.1 (hpoints n e st he hst haddr hapart)
      rw [hshown] at hground
      rw [hx, ← hreported]
      exact (congrArg (fun p : PtState => some (p.reported, p.commanded, p.lockedPos, p.timer)) hground :)
  · obtain ⟨t, ht, hctl, hdeck, hothers, hsections⟩ := goodAnswer_sections hwindow hm hgood htodo hk hb hnodup
    refine ⟨t, ht, hctl, hdeck, hothers, fun n e st he hst haddr hapart => ?_⟩
    rw [hsections n e st he hst haddr hapart]
    cases hbit : b.getLsbD e.input <;> simp [occupancyAfter]
  · intro rests seen stands doubtful
    obtain ⟨t, ht, hctl, hdistricts, hdeck, hclaims⟩ := goodAnswer_deck hwindow hm hgood htodo hk hb hd he hlatch
    refine ⟨t, ht, hctl, hdistricts, fun start target sn hpos => ?_, fun j hpos => ?_, fun hpos => ?_, fun hstands => ?_⟩
    · rw [hdeck, deckAfter_moving hpos]
      simp only [decide_eq_true_iff]
      rfl
    · rw [hdeck, deckAfter_aligned hpos]
      simp only [decide_eq_true_iff]
      rfl
    · rw [hdeck, deckAfter_unproven hpos]
      simp only [decide_eq_true_iff]
      rfl
    · exact hclaims (Option.some.inj (hdeck.symm.trans hstands))
  · exact goodAnswer_latched hwindow hm hgood htodo hk hb hd he hl hpos hplace ⟨hbolt, hdrive, hn⟩ hactive hclaims
  · intro others
    obtain ⟨htested, hbeside, -⟩ := setTest_spec hi hstate
    exact ⟨htested, hbeside.routeFrame, ⟨margin_deck hbeside.tables.apart, hbeside.others⟩,
      fun n h why hh hothers => pointHandOn_single why hi hstate hh hothers⟩

end Sys2Proof.Machine
end

section
/-! PROOFS. The ring commands: how they are offered, placed and sent, and what an all-stop removes (chapter 9). -/

namespace Sys2Proof.Machine

open Sys2Proof

-- One theorem at a time: theorems that wait for each other would hold a thread each.
set_option Elab.async false

variable {s t : State}

/-! ### Commands placed (R159, R161) -/

theorem waitsFor_iff (c : RingCmd) (l : List RingCmd) :
    waitsFor (cmdTarget c) l = true ↔ ∃ x ∈ l, cmdTarget x = cmdTarget c := by
  simp [waitsFor]

theorem replaceCmd_eq (c : RingCmd) (l : List RingCmd) :
    replaceCmd c l = l.map (fun x => if cmdTarget x = cmdTarget c then c else x) := by
  simp [replaceCmd]

theorem cmdReaches_iff (s : State) (c : RingCmd) :
    cmdReaches s c = true ↔ ∃ a, cmdModule (desc s) c = some a ∧ moduleActive s a = true := by
  unfold cmdReaches
  cases cmdModule (desc s) c <;> simp

/-- A command placed with nothing lost. -/
theorem offer_placed {c : RingCmd} {r : Ring} (hreach : cmdReaches s c = true) (h : placeCmd s.ring c = (r, none)) :
    offer c s = s.withRing r := by
  simp [offer, hreach, h]

/-- A command that has gone to the overflow slot. -/
theorem offer_toSlot {c : RingCmd} (hreach : cmdReaches s c = true) (h : placeCmd s.ring c = toSlot s.ring c) :
    offer c s = (match s.ring.slot with
      | none => s.withRing { s.ring with slot := some c }
      | some x => raise (.module (.commandLost x)) (s.withRing { s.ring with slot := some c })) := by
  simp only [offer, hreach, if_true, h, toSlot]
  cases s.ring.slot <;> rfl

/-- No command for the target of `c` waits. -/
def NoneWaits (c : RingCmd) (r : Ring) : Prop :=
  (∀ x ∈ r.stopRun, ¬ cmdTarget x = cmdTarget c) ∧ (∀ x ∈ r.queue, ¬ cmdTarget x = cmdTarget c) ∧
    ∀ x, r.slot = some x → ¬ cmdTarget x = cmdTarget c

theorem waitsFor_eq_false {c : RingCmd} {l : List RingCmd} (h : ∀ x ∈ l, ¬ cmdTarget x = cmdTarget c) :
    waitsFor (cmdTarget c) l = false := by
  rw [Bool.eq_false_iff]
  exact fun hw => by
    obtain ⟨x, hx, heq⟩ := (waitsFor_iff c l).1 hw
    exact h x hx heq

/-- A command that finds none for its target joins the queue, or finds it full. -/
theorem placeCmd_noneWaits {c : RingCmd} {r : Ring} (h : NoneWaits c r) :
    placeCmd r c = if r.queue.length < 32 then ({ r with queue := r.queue ++ [c] }, none) else placeFull r c := by
  obtain ⟨hstop, hqueue, hslot⟩ := h
  have hnone : r.slot.any (fun x => cmdTarget x == cmdTarget c) = false := by
    cases hs : r.slot with
    | none => rfl
    | some x => simpa using hslot x hs
  simp only [placeCmd, waitsFor_eq_false hstop, waitsFor_eq_false hqueue, hnone, Bool.false_eq_true, if_false]
  rfl

/-- A command that an evicted LAMP can make room for. -/
def IsOver (c : RingCmd) : Prop := (∃ g a, c = .aspect g a) ∨ ∃ t v sn, c = .speed t v sn

theorem placeFull_over {c : RingCmd} (h : IsOver c) (r : Ring) : placeFull r c = placeOver 3 r c := by
  obtain ⟨g, a, rfl⟩ | ⟨x, v, sn, rfl⟩ := h <;> rfl

/-- A command that no LAMP makes room for goes to the overflow slot. -/
theorem placeFull_toSlot {c : RingCmd} (hlamp : isLamp c = false) {r : Ring} (hfull : ¬ r.queue.length < 32)
    (h : IsOver c → ∀ y ∈ r.queue, isLamp y = false) : placeFull r c = toSlot r c := by
  have hover : (∀ y ∈ r.queue, isLamp y = false) → placeOver 3 r c = toSlot r c := fun hnone => by
    have hany : r.queue.any isLamp = false := by
      rw [List.any_eq_false]
      exact fun y hy => by simp [hnone y hy]
    simp only [placeOver, hany, Bool.false_eq_true, if_false]
    exact if_neg hfull
  cases c with
  | lamp => simp [isLamp] at hlamp
  | aspect g a => exact hover (h (.inl ⟨g, a, rfl⟩))
  | speed x v sn => exact hover (h (.inr ⟨x, v, sn, rfl⟩))
  | pointMove | deckTurn | power => rfl

/-- The oldest LAMP of a list. -/
theorem evictLamp_split {l1 l2 : List RingCmd} {x : RingCmd} (hx : isLamp x = true) (h : ∀ y ∈ l1, isLamp y = false) :
    evictLamp (l1 ++ x :: l2) = l1 ++ l2 := by
  induction l1 with
  | nil => simp [evictLamp, hx]
  | cons y l ih =>
    have hy : isLamp y = false := h y List.mem_cons_self
    simp [evictLamp, hy, ih fun z hz => h z (List.mem_cons_of_mem _ hz)]

/-- One eviction of a full queue with a LAMP in it. -/
theorem placeOver_evicts {k : Nat} {r : Ring} {c x : RingCmd} {l1 l2 : List RingCmd} (hq : r.queue = l1 ++ x :: l2)
    (hx : isLamp x = true) (hfull : ¬ r.queue.length < 32) : placeOver (k + 1) r c = placeOver k (evictOne r) c := by
  have hany : r.queue.any isLamp = true := by simp [hq, hx]
  simp only [placeOver, hany, if_true]
  exact if_neg hfull

theorem placeOver_room {k : Nat} {r : Ring} (c : RingCmd) (h : r.queue.length < 32) :
    placeOver (k + 1) r c = ({ r with queue := r.queue ++ [c] }, none) := if_pos h

/-- A full queue with a LAMP and an empty slot: the oldest LAMP gives way (R161). -/
theorem placeOver_lamp {r : Ring} {c x : RingCmd} {l1 l2 : List RingCmd} (k : Nat) (hq : r.queue = l1 ++ x :: l2)
    (hx : isLamp x = true) (h1 : ∀ y ∈ l1, isLamp y = false) (hlen : r.queue.length = 32) (hslot : r.slot = none) :
    placeOver (k + 2) r c = ({ r with queue := l1 ++ l2 ++ [c] }, none) := by
  have hevicted : evictOne r = { r with queue := l1 ++ l2 } := by
    rw [evictOne, hq, evictLamp_split hx h1]
    simp only [refillSlot, hslot]
  rw [placeOver_evicts hq hx (by omega), hevicted]
  have hroom : (l1 ++ l2).length < 32 := by
    rw [hq] at hlen
    simp only [List.length_append, List.length_cons] at hlen ⊢
    omega
  exact placeOver_room c hroom

/-- The first eviction of a full queue with a command in the slot: the slot's command takes the place (R161). -/
theorem evictOne_slot {r : Ring} {x w : RingCmd} {l1 l2 : List RingCmd} (hq : r.queue = l1 ++ x :: l2)
    (hx : isLamp x = true) (h1 : ∀ y ∈ l1, isLamp y = false) (hlen : r.queue.length = 32) (hslot : r.slot = some w) :
    evictOne r = { r with queue := l1 ++ l2 ++ [w], slot := none } := by
  have hroom : (l1 ++ l2).length < Config.ringCapacity := by
    rw [hq] at hlen
    simp only [List.length_append, List.length_cons, Config.ringCapacity] at hlen ⊢
    omega
  rw [evictOne, hq, evictLamp_split hx h1]
  simp only [refillSlot, hslot, hroom, if_true]

/-- A full queue with a LAMP and a command in the slot, after the first eviction (R161). -/
theorem placeOver_slot {r : Ring} {c x w : RingCmd} {l1 l2 : List RingCmd} (hq : r.queue = l1 ++ x :: l2)
    (hx : isLamp x = true) (h1 : ∀ y ∈ l1, isLamp y = false) (hlen : r.queue.length = 32) (hslot : r.slot = some w) :
    placeOver 3 r c = placeOver 2 { r with queue := l1 ++ l2 ++ [w], slot := none } c ∧ (l1 ++ l2 ++ [w]).length = 32 := by
  refine ⟨by rw [placeOver_evicts hq hx (by omega), evictOne_slot hq hx h1 hlen hslot], ?_⟩
  rw [hq] at hlen
  simp only [List.length_append, List.length_cons, List.length_nil] at hlen ⊢
  omega

/-- A full queue with no LAMP and an empty slot (R161). -/
theorem placeOver_noLamp {r : Ring} {c : RingCmd} (k : Nat) (h : ∀ y ∈ r.queue, isLamp y = false)
    (hlen : r.queue.length = 32) : placeOver (k + 1) r c = toSlot r c := by
  have hany : r.queue.any isLamp = false := by
    rw [List.any_eq_false]
    exact fun y hy => by simp [h y hy]
  have hfull : ¬ r.queue.length < Config.ringCapacity := by simp [Config.ringCapacity, hlen]
  simp only [placeOver, hany, hfull, Bool.false_eq_true, if_false]

/-- A command offered, by what waits and by the room of the queue (R159, R161). -/
theorem offer_cases (c : RingCmd) (s : State) :
    (cmdReaches s c = false → offer c s = s) ∧
    (cmdReaches s c = true → (∃ x ∈ s.ring.stopRun, cmdTarget x = cmdTarget c) →
      offer c s = s.withRing { s.ring with stopRun := replaceCmd c s.ring.stopRun }) ∧
    (cmdReaches s c = true → (∀ x ∈ s.ring.stopRun, ¬ cmdTarget x = cmdTarget c) →
      (∃ x ∈ s.ring.queue, cmdTarget x = cmdTarget c) →
      offer c s = s.withRing { s.ring with queue := replaceCmd c s.ring.queue }) ∧
    (∀ x, cmdReaches s c = true → (∀ y ∈ s.ring.stopRun, ¬ cmdTarget y = cmdTarget c) →
      (∀ y ∈ s.ring.queue, ¬ cmdTarget y = cmdTarget c) → s.ring.slot = some x → cmdTarget x = cmdTarget c →
      offer c s = s.withRing { s.ring with slot := some c }) ∧
    (cmdReaches s c = true → NoneWaits c s.ring → s.ring.queue.length < 32 →
      offer c s = s.withRing { s.ring with queue := s.ring.queue ++ [c] }) := by
  refine ⟨fun h => by simp [offer, h], fun hr h => offer_placed hr ?_, fun hr hstop h => offer_placed hr ?_,
    fun x hr hstop hqueue hslot hx => offer_placed hr ?_, fun hr hnone hroom => offer_placed hr ?_⟩
  · simp only [placeCmd, (waitsFor_iff c _).2 h, if_true]
  · simp only [placeCmd, waitsFor_eq_false hstop, (waitsFor_iff c _).2 h, if_true, Bool.false_eq_true, if_false]
  · simp [placeCmd, waitsFor_eq_false hstop, waitsFor_eq_false hqueue, hslot, hx]
  · rw [placeCmd_noneWaits hnone, if_pos hroom]

/-- A command that finds the queue full with none for its target waiting (R161). -/
theorem offer_full {c : RingCmd} {s : State} (hr : cmdReaches s c = true) (hnone : NoneWaits c s.ring)
    (hfull : 32 ≤ s.ring.queue.length) :
    (isLamp c = true → offer c s = s) ∧
    (IsOver c → ∀ l1 x l2, s.ring.queue = l1 ++ x :: l2 → isLamp x = true → (∀ y ∈ l1, isLamp y = false) →
      s.ring.queue.length = 32 →
      (s.ring.slot = none → offer c s = s.withRing { s.ring with queue := l1 ++ l2 ++ [c] }) ∧
      (∀ w, s.ring.slot = some w → ((∀ y ∈ l1 ++ l2 ++ [w], isLamp y = false) →
          offer c s = s.withRing { s.ring with queue := l1 ++ l2 ++ [w], slot := some c }) ∧
        (∀ l3 z l4, l1 ++ l2 ++ [w] = l3 ++ z :: l4 → isLamp z = true → (∀ y ∈ l3, isLamp y = false) →
          offer c s = s.withRing { s.ring with queue := l3 ++ l4 ++ [c], slot := none }))) ∧
    (isLamp c = false → (IsOver c → ∀ y ∈ s.ring.queue, isLamp y = false) → offer c s = (match s.ring.slot with
      | none => s.withRing { s.ring with slot := some c }
      | some x => raise (.module (.commandLost x)) (s.withRing { s.ring with slot := some c }))) := by
  have hplace : placeCmd s.ring c = placeFull s.ring c := by rw [placeCmd_noneWaits hnone, if_neg (Nat.not_lt.2 hfull)]
  refine ⟨fun hlamp => ?_, fun hover l1 x l2 hq hx h1 hlen => ⟨fun hslot => ?_, fun w hslot => ⟨fun hnolamp => ?_,
    fun l3 z l4 hsplit hz h3 => ?_⟩⟩, fun hlamp hnolamp => ?_⟩
  · have hsame : placeFull s.ring c = (s.ring, none) := by
      cases c with
      | lamp => rfl
      | aspect | speed | pointMove | deckTurn | power => cases hlamp
    exact (offer_placed hr (hplace.trans hsame)).trans (by cases s; rfl)
  · refine offer_placed hr ?_
    rw [hplace, placeFull_over hover]
    exact placeOver_lamp 1 hq hx h1 hlen hslot
  · obtain ⟨hplaced, hmoved⟩ := placeOver_slot (c := c) hq hx h1 hlen hslot
    refine offer_placed hr ?_
    rw [hplace, placeFull_over hover, hplaced]
    exact placeOver_noLamp 1 hnolamp hmoved
  · obtain ⟨hplaced, hmoved⟩ := placeOver_slot (c := c) hq hx h1 hlen hslot
    refine offer_placed hr ?_
    rw [hplace, placeFull_over hover, hplaced]
    exact placeOver_lamp (r := { s.ring with queue := l1 ++ l2 ++ [w], slot := none }) 0 hsplit hz h3 hmoved rfl
  · exact offer_toSlot hr (hplace.trans (placeFull_toSlot hlamp (Nat.not_lt.2 hfull) hnolamp))

end Sys2Proof.Machine
end

section
/-! PROOFS. Commands sent, powered and stopped: the Ring Master's commands by their causes (chapters 6 and 9). -/

namespace Sys2Proof.Machine

open Sys2Proof

-- One theorem at a time: theorems that wait for each other would hold a thread each.
set_option Elab.async false

variable {s t : State}

/-! ### What a boundary leaves of the ring -/

/-- The layout, the module table, the answer window and the line. -/
def posted (s : State) : Store × Table Module × Option Nat × List Byte :=
  (s.store, s.ring.modules, s.ring.window, s.ring.line)

theorem posted_of_ringRest (hstore : t.store = s.store) (h : ringRest t.ring = ringRest s.ring) : posted t = posted s := by
  have hmodules : t.ring.modules = s.ring.modules := (congrArg Ring.modules h :)
  have hwindow : t.ring.window = s.ring.window := (congrArg Ring.window h :)
  have hline : t.ring.line = s.ring.line := (congrArg Ring.line h :)
  rw [posted, hstore, hmodules, hwindow, hline, posted]

theorem posted_of_ground (h : ground t = ground s) : posted t = posted s :=
  posted_of_ringRest (ground_store h) (ground_ring h)

theorem posted_of_inner (h : inner t = inner s) (hring : ringRest t.ring = ringRest s.ring) : posted t = posted s :=
  posted_of_ringRest (inner_store h) hring

theorem posted_of_quiet (h : quiet t = quiet s) : posted t = posted s := posted_of_ground (ground_of_quiet h)

theorem ringRest_of_motion (h : motion t = motion s) : ringRest t.ring = ringRest s.ring := congrArg (·.2.2) h

theorem posted_recomputeService (s : State) : posted (recomputeService s) = posted s :=
  posted_of_ringRest (aside_store (aside_recomputeService s)) (ringRest_of_motion (motion_recomputeService s))

theorem posted_settleAll (s : State) : posted (settleAll s) = posted s := posted_of_ground (Ripples.refl s).settleAll.same

theorem posted_endWaking (s : State) : posted (endWaking s) = posted s := by
  rw [endWaking, posted_recomputeService, posted_of_quiet (quiet_raise _ _)]
  split
  · exact (posted_settleAll s :)
  · rfl

theorem posted_offerPower (on : Bool) (s : State) : posted (offerPower on s) = posted s := by
  have hring := ringRest_offerPower on s
  have hmodules : (offerPower on s).ring.modules = s.ring.modules := (congrArg Ring.modules hring :)
  have hwindow : (offerPower on s).ring.window = s.ring.window := (congrArg Ring.window hring :)
  have hline : (offerPower on s).ring.line = s.ring.line := (congrArg Ring.line hring :)
  rw [posted, inner_store (inner_offerPower on s), hmodules, hwindow, hline, posted]

theorem posted_discardLatch (cause : DiscardCause) (s : State) : posted (discardLatch cause s) = posted s :=
  (posted_of_quiet (quiet_discardLatch (s := s) rfl cause)).trans rfl

theorem posted_expireAll (cause : ExpireCause) (s : State) : posted (expireEntries (fun _ => true) cause s) = posted s :=
  (posted_of_quiet (quiet_expireAll (s := s) rfl cause)).trans rfl

theorem posted_enterRest (s : State) : posted (enterRest s) = posted s := by
  unfold enterRest
  dsimp only
  rw [posted_recomputeService, posted_discardLatch, posted_of_quiet (quiet_raise _ _), posted_expireAll]
  exact (posted_offerPower false _).trans rfl

theorem posted_restBoundary (s : State) : posted (restBoundary s) = posted s := by
  have habandon : ∀ cause, posted (abandonRest cause s) = posted s := fun cause =>
    (posted_of_quiet (quiet_raise _ _)).trans rfl
  unfold restBoundary
  split
  · exact habandon _
  · split
    · exact habandon _
    · split
      · exact habandon _
      · exact posted_enterRest s

theorem posted_modeBoundary (s : State) : posted (modeBoundary s) = posted s := by
  have hwaking : posted (if s.ctl.mode = .waking then endWaking s else s) = posted s := by
    split
    · exact posted_endWaking s
    · rfl
  have hrest : ∀ x : State, posted (if x.ctl.mode = .inService ∧ x.ctl.pendingRest.isSome then restBoundary x else x) =
      posted x := fun x => by
    split
    · exact posted_restBoundary x
    · rfl
  exact (hrest _).trans hwaking

/-- The pending setting has become the running one (R155 step 2). -/
def settingTaken (s : State) : State :=
  match s.ring.pendingSetting with
  | some v => raise (.module (.sweepSet v)) (s.withRing { s.ring with running := v, pendingSetting := none })
  | none => s

/-- The sweep timer restarted (R155). -/
def timerRestarted (s : State) : State :=
  s.withRing { s.ring with timer := some (sweepInterval s.ring.running), nextGroup := 0, postponed := false }

theorem sweepBoundary_eq (s : State) : sweepBoundary s =
    if (settingTaken (modeBoundary s)).ring.running ≠ s.ring.running ∨
      ((settingTaken (modeBoundary s)).ctl.mode = .rest ∧ s.ctl.mode ≠ .rest) then timerRestarted (settingTaken (modeBoundary s))
    else settingTaken (modeBoundary s) := rfl

theorem posted_settingTaken (s : State) : posted (settingTaken s) = posted s := by
  unfold settingTaken
  split
  · exact (posted_of_quiet (quiet_raise _ _)).trans rfl
  · rfl

/-- A whole-sweep boundary leaves the layout, the module table, the answer window and the line (R155). -/
theorem posted_sweepBoundary (s : State) : posted (sweepBoundary s) = posted s := by
  have htaken := (posted_settingTaken (modeBoundary s)).trans (posted_modeBoundary s)
  rw [sweepBoundary_eq]
  split
  · exact Eq.trans rfl htaken
  · exact htaken

theorem posted_settleSweep (s : State) : posted (settleSweep s) = posted s := by
  unfold settleSweep
  dsimp only
  split
  · split
    · exact (posted_sweepBoundary _).trans rfl
    · rfl
  · rfl

/-- What follows an outcome leaves them too, once the window is closed (R154, R155, R158). -/
theorem posted_afterOutcome {s : State} (h : s.ring.window = none) : posted (afterOutcome s) = posted s := by
  unfold afterOutcome
  dsimp only
  split
  · refine (posted_settleSweep _).trans ?_
    rw [posted, posted, h]
    rfl
  · exact (posted_settleSweep _).trans rfl

/-! ### Polls and commands sent (R150, R162) -/

theorem exec_poll {a : Nat} {l : List Nat} {s : State} (h : pollDue s.ring = true) (htodo : s.ring.todo = a :: l) :
    exec .poll s = .next (s.withRing { s.ring with todo := l, window := some a, due := 0, line := pollFrame a }) := by
  have hsend : sendPoll s = s.withRing { s.ring with todo := l, window := some a, due := 0, line := pollFrame a } := by
    simp only [sendPoll, htodo, h, if_true]
  exact congrArg Host.Outcome.next hsend

/-- A sweep that is not under way, or has polls to come, is not done. -/
theorem settleSweep_idle {s : State} (h : s.ring.underWay = false ∨ s.ring.todo ≠ []) : settleSweep s = s := by
  have hdone : partialDone s.ring = false := by
    obtain h | h := h
    · simp [partialDone, h]
    · simp [partialDone, h]
  simp [settleSweep, hdone]

/-- A command that is due leaves for the line (R162). -/
theorem ringCommandSent_spec {s : State} (h : sendDue s.ring = true) :
    (∀ c l, s.ring.stopRun = c :: l → exec .ringCommandSent s = .next (settleSweep (s.withRing
      { s.ring with stopRun := l, due := s.ring.due - 1, line := cmdFrame (desc s) c }))) ∧
    (∀ c l, s.ring.stopRun = [] → s.ring.queue = c :: l → exec .ringCommandSent s = .next (settleSweep (s.withRing (refillSlot
      { s.ring with queue := l, due := s.ring.due - 1, line := cmdFrame (desc s) c })))) := by
  refine ⟨fun c l hstop => congrArg Host.Outcome.next ?_, fun c l hstop hqueue => congrArg Host.Outcome.next ?_⟩
  · simp only [sendCommand, h, hstop, if_true]
  · simp only [sendCommand, h, hstop, hqueue, if_true]

/-! ### The traction module (R115, R153) -/

theorem powerWaits_iff (r : Ring) :
    powerWaits r = true ↔ (∃ c ∈ r.queue, ∃ b, c = .power b) ∨ ∃ b, r.slot = some (.power b) := by
  have htarget : ∀ c, cmdTarget c = .traction ↔ ∃ b, c = .power b := fun c => by cases c <;> simp [cmdTarget]
  simp only [powerWaits, waitsFor, Bool.or_eq_true, List.any_eq_true, beq_iff_eq, htarget]
  cases r.slot <;> simp [htarget]

/-- A command offered changes the ring, and tells of a command lost. -/
theorem quiet_offer (c : RingCmd) (s : State) : quiet (offer c s) = quiet (s.withRing (offer c s).ring) := by
  unfold offer
  split
  · dsimp only
    split
    · rw [quiet_raise, raise_ring]
      rfl
    · rfl
  · cases s
    rfl

theorem cmdReaches_congr (hstore : t.store = s.store) (hmodules : t.ring.modules = s.ring.modules) (c : RingCmd) :
    cmdReaches t c = cmdReaches s c := by
  have hactive : moduleActive t = moduleActive s := by
    funext a
    rw [moduleActive, moduleAt, hmodules, moduleActive, moduleAt]
  rw [cmdReaches, desc, hstore, hactive, cmdReaches, desc]

theorem offer_ring_congr (hstore : t.store = s.store) (hring : t.ring = s.ring) (c : RingCmd) :
    (offer c t).ring = (offer c s).ring := by
  rw [offer_ring, offer_ring, cmdReaches_congr hstore (by rw [hring]), hring]

theorem quiet_offer_congr (h : quiet t = quiet s) (c : RingCmd) : quiet (offer c t) = quiet (offer c s) := by
  rw [quiet_offer c t, quiet_offer c s, offer_ring_congr (quiet_store h) (quiet_ring h)]
  exact congrArg (fun x : State => x.withRing (offer c s).ring) h

/-- A mismatch of the power noted, and told when it is new (R153). -/
def mismatchTold (on shown : Bool) (s : State) : State :=
  if s.ring.mismatch then s
  else raise (.module (.powerMismatch on shown)) (s.withRing { s.ring with mismatch := true })

theorem quiet_mismatchTold (on shown : Bool) (s : State) :
    quiet (mismatchTold on shown s) = quiet (s.withRing { s.ring with mismatch := true }) := by
  unfold mismatchTold
  split
  · rename_i hset
    rw [← hset]
    rfl
  · exact quiet_raise _ _

theorem tractionAnswer_mismatch {on : Bool} {flags : Byte} (hover : flags.getLsbD 1 = false)
    (hpower : s.ring.power = some on) (hne : flags.getLsbD 0 ≠ on) : tractionAnswer flags s =
      if powerWaits (mismatchTold on (flags.getLsbD 0) s).ring then mismatchTold on (flags.getLsbD 0) s
      else offerPower on (mismatchTold on (flags.getLsbD 0) s) := by
  unfold tractionAnswer
  rw [if_neg (by rw [hover]; decide), hpower]
  exact if_neg hne

/-- A power that is commanded already is offered again. -/
theorem offerPower_again {on : Bool} (h : s.ring.power = some on) : offerPower on s = offer (.power on) s := by
  have hsame : s.withRing { s.ring with power := some on } = s := by
    rw [← h]
    rfl
  rw [offerPower, hsame]

/-- A good answer of the traction module without OVERLOAD, by the commanded power (R153). -/
theorem tractionAnswer_spec {on : Bool} {flags : Byte} {s : State} (hover : flags.getLsbD 1 = false)
    (hpower : s.ring.power = some on) :
    (flags.getLsbD 0 = on → tractionAnswer flags s = s.withRing { s.ring with mismatch := false }) ∧
    (flags.getLsbD 0 ≠ on → powerWaits s.ring = true →
      quiet (tractionAnswer flags s) = quiet (s.withRing { s.ring with mismatch := true })) ∧
    (flags.getLsbD 0 ≠ on → powerWaits s.ring = false →
      quiet (tractionAnswer flags s) = quiet (offer (.power on) (s.withRing { s.ring with mismatch := true }))) := by
  have hquiet := quiet_mismatchTold on (flags.getLsbD 0) s
  have hring : (mismatchTold on (flags.getLsbD 0) s).ring = { s.ring with mismatch := true } := quiet_ring hquiet
  have hwaits : powerWaits (mismatchTold on (flags.getLsbD 0) s).ring = powerWaits s.ring := by
    rw [hring]
    rfl
  refine ⟨fun heq => ?_, fun hne hw => ?_, fun hne hw => ?_⟩
  · unfold tractionAnswer
    rw [if_neg (by rw [hover]; decide), hpower]
    exact if_pos heq
  · rw [tractionAnswer_mismatch hover hpower hne, hwaits, if_pos hw, hquiet]
  · rw [tractionAnswer_mismatch hover hpower hne, hwaits, if_neg (by simp [hw]), offerPower_again (by rw [hring]; exact hpower)]
    exact quiet_offer_congr hquiet _

/-- The entry to WAKING (R11). -/
theorem quiet_enterWaking (cause : WakeCause) (s : State) : quiet (enterWaking cause s) = quiet (offer (.power true)
    ((s.withCtl { s.ctl with mode := .waking, wakeBy := cause }).withRing { s.ring with power := some true })) := quiet_raise _ _

/-- A set of supervised trains has a refresh due: each supervision state changed, and no other train. -/
theorem trainAt_foldl_updateSup (f : Sup → Sup) (hf : ∀ u, f (f u) = f u) (l : List Nat) (k : Nat) (s : State) :
    trainAt (l.foldl (fun s t => updateSup s t f) s) k =
      if k ∈ l then (trainAt s k).map (fun r => { r with sup := r.sup.map f }) else trainAt s k := by
  induction l generalizing s with
  | nil => simp
  | cons j l ih =>
    rw [List.foldl_cons, ih]
    by_cases hk : k = j
    · subst hk
      have hone : trainAt (updateSup s k f) k = (trainAt s k).map (fun r => { r with sup := r.sup.map f }) :=
        findItem_updateItem_same _ _ _
      rw [hone]
      by_cases hl : k ∈ l
      · simp only [hl, List.mem_cons, true_or, if_true, Option.map_map]
        congr 1
        funext r
        simp [Option.map_map, Function.comp_def, hf]
      · simp [hl]
    · have hone : trainAt (updateSup s j f) k = trainAt s k := findItem_updateItem_other _ _ _ _ hk
      simp [hone, hk]

/-- A train that is not supervised has no supervision state (R101). -/
theorem sup_of_not_supervised {k : Nat} {r : TrainRec} (hr : trainAt s k = some r) (hk : k ∉ supervised s) : r.sup = none := by
  by_contra hsup
  refine hk (List.mem_map.2 ⟨(k, r), List.mem_filter.2 ⟨mem_of_findItem hr, ?_⟩, rfl⟩)
  cases hs : r.sup with
  | none => exact absurd hs hsup
  | some u => simp [hs]

/-- Every supervision state of a train has changed. -/
theorem trainAt_supervised {f : Sup → Sup} (hf : ∀ u, f (f u) = f u) (k : Nat) (s : State) :
    trainAt ((supervised s).foldl (fun s t => updateSup s t f) s) k =
      (trainAt s k).map (fun r => { r with sup := r.sup.map f }) := by
  rw [trainAt_foldl_updateSup f hf]
  split
  · rfl
  · rename_i hk
    cases hr : trainAt s k with
    | none => rfl
    | some r =>
      have hsup := sup_of_not_supervised hr hk
      obtain ⟨state, list, heading, driver, throttle, pend, cause, sup⟩ := r
      dsimp only at hsup
      subst hsup
      rfl

/-- Trains alone have changed. -/
theorem foldl_updateSup_within (f : Sup → Sup) (l : List Nat) (s : State) :
    ∃ v, l.foldl (fun s t => updateSup s t f) s = s.withTrains v := by
  induction l generalizing s with
  | nil => exact ⟨s.trains, by cases s; rfl⟩
  | cons j l ih =>
    obtain ⟨v, hv⟩ := ih (updateSup s j f)
    exact ⟨v, hv.trans rfl⟩

/-- The traction module has become ACTIVE with a power commanded: it is offered again, and every refresh is due (R115,
R153). -/
theorem ownerActive_traction {on : Bool} (a : Nat) (hpower : s.ring.power = some on) :
    (ownerActive a .traction s).ring = (offer (.power on) s).ring ∧
    inner ((ownerActive a .traction s).withTrains s.trains) = inner s ∧
    ∀ x, trainAt (ownerActive a .traction s) x =
      (trainAt s x).map (fun r => { r with sup := r.sup.map (fun u => { u with refresh := 20 }) }) := by
  obtain ⟨v, hv⟩ := foldl_updateSup_within (fun u => { u with refresh := Config.refreshDue }) (supervised s) s
  have hrefreshed : refreshAll s = s.withTrains v := hv
  have heq : ownerActive a .traction s = offer (.power on) (s.withTrains v) := by
    rw [← offerPower_again (s := s.withTrains v) hpower, ← hrefreshed]
    have hsame : (refreshAll s).ring.power = some on := by rw [refreshAll_ring, hpower]
    simp only [ownerActive, hsame]
  rw [heq]
  have hinner := inner_offer (.power on) (s.withTrains v)
  refine ⟨offer_ring_congr (s := s) (t := s.withTrains v) rfl rfl _, ?_, fun x => ?_⟩
  · exact (congrArg (fun x : State => x.withTrains s.trains) hinner).trans (by cases s; rfl)
  · rw [trainAt, inner_trains hinner, ← trainAt, ← hrefreshed]
    exact trainAt_supervised (f := fun u => { u with refresh := Config.refreshDue }) (fun _ => rfl) x s

/-! ### What an all-stop removes (R116, R160) -/

/-- A command that is no SPEED of a supervised train. -/
def notStopped (s : State) : RingCmd → Bool
  | .speed x _ _ => !(supervised s).contains x
  | _ => true

theorem notStopped_eq (s : State) (c : RingCmd) : (!isSpeedOf (supervised s) c) = notStopped s c := by
  cases c <;> rfl

/-- The ring after an all-stop (R116, R160, R161). -/
theorem stopTrains_ring (s : State) :
    let queue := s.ring.queue.filter (notStopped s)
    let slot := s.ring.slot.filter (notStopped s)
    let stops := (supervised s).filterMap (fun x => (trainAt s x).bind (fun r => r.sup.map (fun u => RingCmd.speed x 0 u.sense)))
    (stopTrains s).ring = { s.ring with
      stopRun := (if tractionActive s then stops else []) ++ s.ring.stopRun.filter (notStopped s),
      queue := if queue.length < 32 then queue ++ slot.toList else queue,
      slot := if queue.length < 32 then none else slot } := by
  intro queue slot stops
  obtain ⟨v, hv⟩ := foldl_updateSup_within stopSup (supervised s) s
  have hzero : ∀ x, speedZero (s.withTrains v) x =
      (trainAt s x).bind (fun r => r.sup.map (fun u => RingCmd.speed x 0 u.sense)) := fun x => by
    have htrain : trainAt (s.withTrains v) x = (trainAt s x).map (fun r => { r with sup := r.sup.map stopSup }) := by
      rw [← hv]
      exact trainAt_supervised (f := stopSup) (fun _ => rfl) x s
    rw [speedZero, htrain]
    cases trainAt s x with
    | none => rfl
    | some r => simp [Function.comp_def, stopSup]
  have hstops : (supervised s).filterMap (speedZero (s.withTrains v)) = stops := by
    rw [show speedZero (s.withTrains v) = _ from funext hzero]
  have hstopped : stopTrains s = (s.withTrains v).withRing
      (if tractionActive s then { removeSpeeds (supervised s) s.ring with
          stopRun := stops ++ (removeSpeeds (supervised s) s.ring).stopRun }
        else removeSpeeds (supervised s) s.ring) := by
    rw [← hstops, ← show (s.withTrains v).ring = s.ring from rfl, ← show tractionActive (s.withTrains v) = tractionActive s from rfl,
      ← hv]
    rfl
  have hremoved : removeSpeeds (supervised s) s.ring = { s.ring with
      stopRun := s.ring.stopRun.filter (notStopped s),
      queue := if queue.length < 32 then queue ++ slot.toList else queue,
      slot := if queue.length < 32 then none else slot } := by
    have hfilter : (fun c => !isSpeedOf (supervised s) c) = notStopped s := funext (notStopped_eq s)
    rw [removeSpeeds, hfilter]
    change refillSlot { s.ring with stopRun := s.ring.stopRun.filter (notStopped s), queue := queue, slot := slot } = _
    clear_value queue slot
    cases slot with
    | none => simp [refillSlot]
    | some c =>
      by_cases hroom : queue.length < 32
      · simp [refillSlot, Config.ringCapacity, hroom]
      · simp [refillSlot, Config.ringCapacity, hroom]
  rw [hstopped, hremoved]
  cases tractionActive s <;> rfl

end Sys2Proof.Machine
end

section
/-! PROOFS. What the outcome of a poll leaves of the module table (chapter 9). -/

namespace Sys2Proof.Machine

open Sys2Proof

-- One theorem at a time: theorems that wait for each other would hold a thread each.
set_option Elab.async false

variable {s t : State}

/-! ### The module table but for the counts of its owners -/

/-- The layout, the module table but for the counts of its owners, and the answer window. -/
def wired (s : State) : Store × Table (ModKind × ModState × Nat × Option (List Byte)) × Option Nat :=
  (s.store, s.ring.modules.map (fun e => (e.1, moduleView e.2)), s.ring.window)

theorem wired_of_posted (h : posted t = posted s) : wired t = wired s :=
  congrArg (fun x : Store × Table Module × Option Nat × List Byte =>
    (x.1, x.2.1.map (fun e => (e.1, moduleView e.2)), x.2.2.1)) h

theorem wired_of_ground (h : ground t = ground s) : wired t = wired s := wired_of_posted (posted_of_ground h)

theorem moduleView_of_wired (h : wired t = wired s) (b : Nat) : moduleView (moduleAt t b) = moduleView (moduleAt s b) := by
  have htable : t.ring.modules.map (fun e => (e.1, moduleView e.2)) = s.ring.modules.map (fun e => (e.1, moduleView e.2)) :=
    congrArg (·.2.1) h
  have hread : ∀ x : State, moduleView (moduleAt x b) = (findItem (x.ring.modules.map (fun e => (e.1, moduleView e.2))) b).getD
      (moduleView { kind := .absent, state := .absent, misses := 0, data := none, clearCounts := [], neitherCounts := [] }) :=
    fun x => by rw [findItem_map_entry _ moduleView, Option.getD_map, moduleAt]
  rw [hread, hread, htable]

theorem window_of_wired (h : wired t = wired s) : t.ring.window = s.ring.window := congrArg (·.2.2) h
theorem store_of_wired (h : wired t = wired s) : t.store = s.store := congrArg (·.1) h

/-- A module changed but for what shows of it. -/
theorem wired_updateModule (a : Nat) {f : Module → Module} (hf : ∀ m, moduleView (f m) = moduleView m) (s : State) :
    wired (updateModule s a f) = wired s := by
  have htable := map_updateItem s.ring.modules a f moduleView hf
  rw [wired, wired, ← htable]
  rfl

theorem wired_setNeither (n v : Nat) (s : State) : wired (setNeither n v s) = wired s := by
  unfold setNeither
  split
  · refine wired_updateModule _ ?_ s
    exact fun _ => rfl
  · rfl

theorem wired_setClearCount (n v : Nat) (s : State) : wired (setClearCount n v s) = wired s := by
  unfold setClearCount
  split
  · refine wired_updateModule _ ?_ s
    exact fun _ => rfl
  · rfl

/-! ### Sections and points -/

theorem wired_occupancyChanged (n : Nat) (occ : Occupancy) (s : State) : wired (occupancyChanged n occ s) = wired s :=
  (wired_of_ground (Ripples.occupancyChanged s n occ).same).trans rfl

theorem wired_filterSection (n : Nat) (shown : Occupancy) (s : State) : wired (filterSection n shown s) = wired s := by
  have hchanged : ∀ occ, wired (occupancyChanged n occ (setClearCount n 0 s)) = wired s := fun occ =>
    (wired_occupancyChanged n occ _).trans (wired_setClearCount n 0 s)
  unfold filterSection
  split
  · rfl
  · split
    · exact hchanged _
    · exact wired_setClearCount n 0 s
    · exact wired_setClearCount n 0 s
    · split
      · exact wired_setClearCount n 1 s
      · exact hchanged _

theorem wired_failSection (n : Nat) (s : State) : wired (failSection n s) = wired s := by
  unfold failSection
  dsimp only
  split
  · exact (wired_occupancyChanged n _ _).trans (wired_setClearCount n 0 s)
  · exact wired_setClearCount n 0 s

theorem wired_pointHandOn (n : Nat) (why : FailReason) (s : State) : wired (pointHandOn n why s) = wired s :=
  wired_of_ground ((Ripples.refl s).pointHandOn n why).same

theorem wired_notePoint (n : Nat) (ev : PointEvent) (s : State) : wired (notePoint n ev s) = wired s :=
  wired_of_posted (posted_of_quiet (notePoint_blocks n ev s))

theorem wired_pointAnswer (n : Nat) (shown : Option Position) (s : State) : wired (pointAnswer n shown s) = wired s := by
  unfold pointAnswer
  split
  · rfl
  · extract_lets changed
    have hchanged : ∀ r, wired (changed r s) = wired s := fun r => by
      dsimp only [changed]
      rw [wired_pointHandOn, wired_notePoint, wired_setNeither]
      rfl
    clear_value changed
    split
    · split
      · exact hchanged _
      · exact wired_setNeither n 0 s
    · exact wired_setNeither n 0 s
    · exact hchanged _
    · rfl
    · split
      · exact wired_setNeither n 0 s
      · exact hchanged _
    · split
      · exact wired_setNeither n 1 s
      · exact hchanged _

theorem wired_failPoints (l : List Nat) (s : State) : wired (failPoints l s) = wired s := by
  refine (foldl_same wired _ (fun x n => ?_) _ _).trans (foldl_same wired _ (fun x n => ?_) _ _)
  · rw [wired_pointHandOn, wired_notePoint]
  · exact (wired_setNeither n 0 _).trans rfl

/-! ### The deck -/

theorem posted_noteDeck (ev : DeckEvent) (s : State) : posted (noteDeck ev s) = posted s := posted_of_quiet (quiet_noteDeck ev s)

theorem posted_startMove (k : Nat) (sense : ReqSense) (req : MoveReq) (s : State) : posted (startMove k sense req s) = posted s := by
  refine posted_of_ringRest ?_ (ringRest_of_motion (motion_startMove k sense req s))
  cases hd : s.deck with
  | none => simp [startMove, hd]
  | some d =>
    cases he : (desc s).deck with
    | none => simp [startMove, hd, he]
    | some e => exact (unlit_store (unlit_startMove k sense req hd he) :)

theorem posted_recheckLatch (s : State) : posted (recheckLatch s) = posted s := by
  have hempty : ∀ f : DeckState → DeckState, posted (updateDeck s f) = posted s := fun _ => rfl
  unfold recheckLatch
  split
  · split
    · split
      · rfl
      · dsimp only
        split
        · rw [posted_noteDeck, hempty]
        · split
          · rw [posted_noteDeck, posted_startMove, hempty]
          · rw [posted_noteDeck, hempty]
    · rfl
  · rfl

theorem posted_deckAlignedTo (j : Nat) (s : State) : posted (deckAlignedTo j s) = posted s :=
  posted_of_ground ((Ripples.refl s).deckAlignedTo j).same

theorem posted_deckLost (s : State) : posted (deckLost s) = posted s := posted_of_ground (Ripples.refl s).deckLost.same

theorem posted_setAligned (j : Nat) (s : State) : posted (setAligned j s) = posted s := rfl

theorem posted_loseDeck (s : State) : posted (loseDeck s) = posted s := by
  rw [loseDeck, posted_deckLost, posted_noteDeck, posted_discardLatch]
  rfl

theorem posted_deckModuleFailed (s : State) : posted (deckModuleFailed s) = posted s := by
  rw [deckModuleFailed, posted_deckLost, posted_discardLatch, posted_noteDeck]
  rfl

theorem posted_deckAnswer (i : Nat) (rests : Bool) (s : State) : posted (deckAnswer i rests s) = posted s := by
  cases hd : s.deck with
  | none =>
    have hsame : deckAnswer i rests s = updateDeck s (fun d => { d with reported := some i }) := by
      simp [deckAnswer, updateDeck, hd]
    rw [hsame]
    rfl
  | some d =>
    have hseen : posted (s.withDeck (some (seenDeck d i))) = posted s := rfl
    rw [deckAnswer_eq i rests hd]
    split
    · split
      · rfl
      · split
        · rw [completeMove_eq, posted_recheckLatch, posted_deckAlignedTo, posted_noteDeck,
            posted_of_quiet (quiet_count _ _ _ _), posted_setAligned, hseen]
        · split
          · rfl
          · rw [stopElsewhere_eq, posted_recheckLatch, posted_deckAlignedTo, posted_noteDeck, posted_setAligned, hseen]
    · split
      · rfl
      · split
        · rfl
        · rw [posted_loseDeck, hseen]
    · split
      · rw [posted_deckAlignedTo, posted_noteDeck]
        rfl
      · rfl

/-! ### The traction module -/

theorem posted_setAllStop (cause : StopCause) (s : State) : posted (setAllStop cause s) = posted s := by
  cases h : s.ctl.allStop with
  | none =>
    obtain ⟨haside, -, hring⟩ := setAllStop_clear h cause
    exact posted_of_ringRest (aside_store haside :) hring
  | some c => rw [setAllStop_set (by simp [h])]

theorem posted_tractionAnswer (flags : Byte) (s : State) : posted (tractionAnswer flags s) = posted s := by
  unfold tractionAnswer
  split
  · exact posted_setAllStop _ s
  · split
    · rfl
    · rename_i on hpower
      split
      · rfl
      · have htold : posted (mismatchTold on (flags.getLsbD 0) s) = posted s := by
          unfold mismatchTold
          split
          · rfl
          · exact (posted_of_quiet (quiet_raise _ _)).trans rfl
        change posted (if powerWaits (mismatchTold on (flags.getLsbD 0) s).ring then mismatchTold on (flags.getLsbD 0) s
          else offerPower on (mismatchTold on (flags.getLsbD 0) s)) = posted s
        split
        · exact htold
        · rw [posted_offerPower, htold]

/-! ### The owners -/

theorem wired_handData (a : Nat) (k : ModKind) (payload : List Byte) (s : State) : wired (handData a k payload s) = wired s := by
  unfold handData
  split
  · refine foldl_same wired _ (fun x n => ?_) _ s
    split
    · exact wired_filterSection n _ x
    · rfl
  · refine foldl_same wired _ (fun x n => ?_) _ s
    split
    · exact wired_pointAnswer n _ x
    · rfl
  · refine foldl_same wired _ (fun x n => ?_) _ s
    split
    · exact wired_of_ground ((Ripples.refl x).buttonAnswer n _).same
    · rfl
  · exact wired_of_posted (posted_deckAnswer _ _ s)
  · exact wired_of_posted (posted_tractionAnswer _ s)
  · rfl

theorem posted_ownerActive (a : Nat) (k : ModKind) (s : State) : posted (ownerActive a k s) = posted s := by
  unfold ownerActive
  split
  · exact posted_of_ground (((Ripples.refl s).recomputeAll _).resendAspects a).same
  · exact posted_of_ground ((Ripples.refl s).resendLamps a).same
  · have hrefreshed : posted (refreshAll s) = posted s := posted_of_ground (Ripples.refl s).refreshAll.same
    dsimp only
    split
    · rw [posted_offerPower, hrefreshed]
    · exact hrefreshed
  · rfl

theorem wired_ownerFailed (a : Nat) (k : ModKind) (s : State) : wired (ownerFailed a k s) = wired s := by
  cases k with
  | detect => exact foldl_same wired _ (fun x n => wired_failSection n x) _ s
  | point => exact wired_failPoints _ s
  | signal => exact wired_of_ground ((Ripples.refl s).recomputeAll _).same
  | button => rfl
  | deck => exact wired_of_posted (posted_deckModuleFailed s)
  | traction => exact wired_of_posted (posted_setAllStop _ s)
  | absent => rfl

/-! ### Good answers and misses -/

theorem wired_afterOutcome (h : s.ring.window = none) : wired (afterOutcome s) = wired s :=
  wired_of_posted (posted_afterOutcome h)

theorem moduleAt_of_posted (h : posted t = posted s) (b : Nat) : moduleAt t b = moduleAt s b := by
  have hmodules : t.ring.modules = s.ring.modules := congrArg (·.2.1) h
  rw [moduleAt, hmodules, moduleAt]

theorem modules_of_posted (h : posted t = posted s) : t.ring.modules = s.ring.modules := congrArg (·.2.1) h

theorem store_updateModule (s : State) (a : Nat) (f : Module → Module) : (updateModule s a f).store = s.store := rfl

/-- A module in the table changed, and the others as they were. -/
theorem moduleAt_updateModule {a : Nat} (f : Module → Module) (h : (findItem s.ring.modules a).isSome = true) :
    (findItem (updateModule s a f).ring.modules a).isSome = true ∧ moduleAt (updateModule s a f) a = f (moduleAt s a) ∧
      ∀ b, b ≠ a → moduleAt (updateModule s a f) b = moduleAt s b :=
  ⟨by simpa [updateModule] using h, moduleAt_updateModule_same f h, fun _ hb => moduleAt_updateModule_other f hb⟩

/-- A good answer makes its module ACTIVE with no misses and the payload as its data, and leaves the other modules but for
their owners' counts (R151). -/
theorem takeAnswer_modules {a : Nat} {m : Module} (frame : List Byte) (hm : findItem s.ring.modules a = some m) :
    (takeAnswer a frame s).ring.window = none ∧
    moduleView (moduleAt (takeAnswer a frame s) a) = (m.kind, .active, 0, some (payloadOf frame)) ∧
    (∀ b, b ≠ a → moduleView (moduleAt (takeAnswer a frame s) b) = moduleView (moduleAt s b)) ∧
    (takeAnswer a frame s).store = s.store := by
  have hmod : moduleAt s a = m := by simp [moduleAt, hm]
  unfold takeAnswer
  extract_lets old s1 src s2 s3 s4
  obtain ⟨hsome1, hsame1, hother1⟩ := moduleAt_updateModule (s := s) (a := a) (fun m => { m with misses := 0 }) (by simp [hm])
  have hactive : ∃ y : State, posted s3 = posted y ∧ (findItem y.ring.modules a).isSome = true ∧ y.ring.window = none ∧
      y.store = s.store ∧ moduleAt y a = { m with misses := 0, state := .active } ∧ ∀ b, b ≠ a → moduleAt y b = moduleAt s b := by
    dsimp only [s3]
    split
    · rename_i hold
      refine ⟨s2, rfl, hsome1, rfl, rfl, ?_, hother1⟩
      refine hsame1.trans ?_
      have hstate : m.state = .active := hmod ▸ hold
      rw [hmod, ← hstate]
    · obtain ⟨hsome2, hsame2, hother2⟩ := moduleAt_updateModule (s := s2) (a := a) (fun m => { m with state := .active }) hsome1
      refine ⟨updateModule s2 a (fun m => { m with state := .active }), ?_, hsome2, rfl, rfl, ?_, fun b hb => ?_⟩
      · rw [posted_ownerActive, posted_of_quiet (quiet_raise _ _)]
      · exact hsame2.trans ((congrArg (fun m : Module => { m with state := .active }) hsame1).trans (by rw [hmod]))
      · exact (hother2 b hb).trans (hother1 b hb)
  obtain ⟨y, hy, hsome, hwindow, hstore, hsame, hother⟩ := hactive
  obtain ⟨-, hsame4, hother4⟩ := moduleAt_updateModule (s := s3) (a := a) (fun m => { m with data := some (payloadOf frame) })
    (by rw [modules_of_posted hy]; exact hsome)
  have hwindow4 : s4.ring.window = none := (congrArg (·.2.2.1) hy :).trans hwindow
  have hstore4 : s4.store = s.store := (congrArg (·.1) hy :).trans hstore
  have hdata := wired_handData a old.kind (payloadOf frame) s4
  have hwired : wired (afterOutcome (handData a old.kind (payloadOf frame) s4)) = wired s4 :=
    (wired_afterOutcome ((window_of_wired hdata).trans hwindow4)).trans hdata
  refine ⟨(window_of_wired hwired).trans hwindow4, ?_, fun b hb => ?_, (store_of_wired hwired).trans hstore4⟩
  · rw [moduleView_of_wired hwired, hsame4, moduleAt_of_posted hy, hsame]
    rfl
  · rw [moduleView_of_wired hwired, hother4 b hb, moduleAt_of_posted hy, hother b hb]

/-- A miss noted: the window is closed and the miss counted (R150). -/
def missNoted (s : State) : State := count .ringErrors none none (s.withRing { s.ring with window := none })

theorem quiet_missNoted (s : State) : quiet (missNoted s) = quiet (s.withRing { s.ring with window := none }) := quiet_count _ _ _ _

/-- A miss of an ACTIVE module below the limit, the third in a row, and a miss of any other module (R152). -/
theorem takeMiss_cases {a : Nat} {m : Module} (hm : findItem s.ring.modules a = some m) : takeMiss a s = afterOutcome
    (if m.state = .active then
      (if m.misses < 2 then updateModule (missNoted s) a (fun m => { m with misses := m.misses + 1 })
        else ownerFailed a m.kind (failedModule a (missNoted s)))
    else missNoted s) := by
  have hmod : moduleAt (missNoted s) a = m := by
    rw [moduleAt, quiet_ring (quiet_missNoted s)]
    simp [hm]
  have hlimit : m.misses + 1 < Config.missLimit ↔ m.misses < 2 := by
    simp only [Config.missLimit]
    omega
  unfold takeMiss
  extract_lets src s1 m' s2
  have hm' : m' = m := hmod
  dsimp only [s2]
  simp only [hm', hlimit, failModule_eq]
  rw [show s1 = missNoted s from rfl, hmod]

theorem ring_missNoted (s : State) : (missNoted s).ring = { s.ring with window := none } := quiet_ring (quiet_missNoted s)

theorem window_of_ringRest {r r' : Ring} (h : ringRest r = ringRest r') : r.window = r'.window := congrArg (fun x => x.window) h

theorem window_failedModule (a : Nat) (s : State) : (failedModule a s).ring.window = s.ring.window :=
  (window_of_ringRest (ringRest_failedModule a s)).trans rfl

/-- The failed module, and the other modules, as the failure is handed on (R152). -/
theorem moduleAt_failedModule {a : Nat} (h : (findItem s.ring.modules a).isSome = true) :
    moduleAt (failedModule a s) a = { moduleAt s a with state := .failed, misses := 3 } ∧
      ∀ b, b ≠ a → moduleAt (failedModule a s) b = moduleAt s b := by
  have hmodules := modules_of_ringRest (ringRest_failedModule a s)
  obtain ⟨-, hsame, hother⟩ := moduleAt_updateModule (s := s) (a := a)
    (fun m => { m with state := .failed, misses := Config.missLimit }) h
  have hread : ∀ b, moduleAt (failedModule a s) b =
      moduleAt (updateModule s a (fun m => { m with state := .failed, misses := Config.missLimit })) b := fun b => by
    rw [moduleAt, hmodules, moduleAt]
  exact ⟨(hread a).trans hsame, fun b hb => (hread b).trans (hother b hb)⟩

/-- A miss counts at an ACTIVE module, and the third in a row makes it FAILED; no other module changes but for its owner's
counts (R150, R152). -/
theorem takeMiss_modules {a : Nat} {m : Module} (hm : findItem s.ring.modules a = some m) :
    (takeMiss a s).ring.window = none ∧
    moduleView (moduleAt (takeMiss a s) a) = (if m.state = .active then (if m.misses < 2 then (m.kind, .active, m.misses + 1, m.data)
      else (m.kind, .failed, 3, m.data)) else moduleView m) ∧
    (∀ b, b ≠ a → moduleView (moduleAt (takeMiss a s) b) = moduleView (moduleAt s b)) ∧ (takeMiss a s).store = s.store := by
  have hsome : (findItem (missNoted s).ring.modules a).isSome = true := by simp [ring_missNoted, hm]
  have hmod : moduleAt (missNoted s) a = m := by simp [moduleAt, ring_missNoted, hm]
  have hread : ∀ b, moduleAt (missNoted s) b = moduleAt s b := fun b => by
    rw [moduleAt, ring_missNoted]
    rfl
  have hstore : (missNoted s).store = s.store := (quiet_store (quiet_missNoted s)).trans rfl
  rw [takeMiss_cases hm]
  by_cases hactive : m.state = .active
  · by_cases hfew : m.misses < 2
    · rw [if_pos hactive, if_pos hfew, if_pos hactive, if_pos hfew]
      obtain ⟨-, hsame, hother⟩ := moduleAt_updateModule (s := missNoted s) (a := a) (fun m => { m with misses := m.misses + 1 }) hsome
      have hwindow : (updateModule (missNoted s) a (fun m => { m with misses := m.misses + 1 })).ring.window = none := by
        simp [updateModule, ring_missNoted]
      have hwired := wired_afterOutcome hwindow
      refine ⟨(window_of_wired hwired).trans hwindow, ?_, fun b hb => ?_,
        (store_of_wired hwired).trans ((store_updateModule _ a _).trans hstore)⟩
      · rw [moduleView_of_wired hwired, hsame, hmod, moduleView, hactive]
      · rw [moduleView_of_wired hwired, hother b hb, hread]
    · rw [if_pos hactive, if_neg hfew, if_pos hactive, if_neg hfew]
      obtain ⟨hsame, hother⟩ := moduleAt_failedModule hsome
      have howned := wired_ownerFailed a m.kind (failedModule a (missNoted s))
      have hnoted : (missNoted s).ring.window = none := by simp [ring_missNoted]
      have hwindow : (failedModule a (missNoted s)).ring.window = none := (window_failedModule a _).trans hnoted
      have hwired := (wired_afterOutcome ((window_of_wired howned).trans hwindow)).trans howned
      have hstore' : (failedModule a (missNoted s)).store = s.store := (aside_store (aside_failedModule a _)).trans hstore
      refine ⟨(window_of_wired hwired).trans hwindow, ?_, fun b hb => ?_, (store_of_wired hwired).trans hstore'⟩
      · rw [moduleView_of_wired hwired, hsame, hmod]
        rfl
      · rw [moduleView_of_wired hwired, hother b hb, hread]
  · rw [if_neg hactive, if_neg hactive]
    have hwindow : (missNoted s).ring.window = none := by simp [ring_missNoted]
    have hwired := wired_afterOutcome hwindow
    refine ⟨(window_of_wired hwired).trans hwindow, ?_, fun b hb => ?_, (store_of_wired hwired).trans hstore⟩
    · rw [moduleView_of_wired hwired, hmod]
    · rw [moduleView_of_wired hwired, hread]

end Sys2Proof.Machine
end

section
/-! PROOFS. What the failure of a module makes safe, kind by kind (chapters 2, 4, 7, 8 and 9). -/

namespace Sys2Proof.Machine

open Sys2Proof

-- One theorem at a time: theorems that wait for each other would hold a thread each.
set_option Elab.async false

variable {s t : State}

/-! ### Sections (R24) -/

theorem entryAt_set_zero {l : List Nat} {i j : Nat} (h : i = j ∨ entryAt l i 0 = 0) : entryAt (l.set j 0) i 0 = 0 := by
  by_cases hij : j = i
  · subst hij
    by_cases hlen : j < l.length
    · simp [entryAt, List.getElem?_set_self hlen]
    · simp [entryAt, List.set_eq_of_length_le (Nat.not_lt.1 hlen), List.getElem?_eq_none (Nat.not_lt.1 hlen)]
  · have hzero := h.resolve_left (Ne.symm hij)
    rwa [entryAt, List.getElem?_set_ne hij, ← entryAt]

/-- A clear count set to 0 is read as 0, and so is one that was 0 before. -/
theorem clearCountOf_setClearCount_zero {n k : Nat} (h : n = k ∨ clearCountOf s n = 0) :
    clearCountOf (setClearCount k 0 s) n = 0 := by
  cases hn : secEntry s n with
  | none =>
    have hnone : secEntry (setClearCount k 0 s) n = none := by
      rw [secEntry, desc_of_fixtures (fixtures_setClearCount k 0 s)]
      exact hn
    simp [clearCountOf, hnone]
  | some x =>
    have hx : secEntry (setClearCount k 0 s) n = some x := by
      rw [secEntry, desc_of_fixtures (fixtures_setClearCount k 0 s)]
      exact hn
    simp only [clearCountOf, hn, hx] at h ⊢
    cases hk : secEntry s k with
    | none =>
      have hsame : setClearCount k 0 s = s := by simp [setClearCount, hk]
      have hne : n ≠ k := fun heq => by rw [heq, hk] at hn; cases hn
      rw [hsame]
      exact h.resolve_left hne
    | some e =>
      have hset : setClearCount k 0 s = updateModule s e.addr (fun m => { m with clearCounts := m.clearCounts.set e.input 0 }) := by
        simp [setClearCount, hk]
      rw [hset]
      obtain rfl | hzero := h
      · obtain rfl := Option.some.inj (hn.symm.trans hk)
        by_cases hm : (findItem s.ring.modules x.addr).isSome = true
        · rw [moduleAt_updateModule_same _ hm]
          exact entryAt_set_zero (.inl rfl)
        · rw [Option.not_isSome_iff_eq_none] at hm
          simp [moduleAt, updateModule, hm, entryAt]
      · exact moduleAt_updateModule_leaves (P := fun m m' => entryAt m.clearCounts x.input 0 = 0 → entryAt m'.clearCounts x.input 0 = 0)
          (fun _ => id) (fun m hm => entryAt_set_zero (.inr hm)) _ _ s hzero

/-- One section of a DETECT module that has failed: it is OCCUPIED and counted from 0, and no other section changes (R24). -/
theorem failSection_spec (n : Nat) (s : State) :
    (∀ st, secAt s n = some st → (secAt (failSection n s) n).map (·.occ) = some .occupied) ∧
    (∀ k, k = n ∨ clearCountOf s k = 0 → clearCountOf (failSection n s) k = 0) ∧ SectionsBeside n s (failSection n s) := by
  have hcount : ∀ k, k = n ∨ clearCountOf s k = 0 → clearCountOf (setClearCount n 0 s) k = 0 := fun k =>
    clearCountOf_setClearCount_zero
  unfold failSection
  dsimp only
  by_cases hclear : (secAt (setClearCount n 0 s) n).any (fun st => st.occ == .clear) = true
  · rw [if_pos hclear]
    refine ⟨fun st hst => (occupancyChanged_stored .occupied ((secAt_setClearCount n 0 n s).trans hst)).1, fun k hk => ?_,
      sectionsBeside_occupancyChanged n .occupied s⟩
    have hsame := (Ripples.occupancyChanged (setClearCount n 0 s) n .occupied).same
    have hkept : clearCountOf (occupancyChanged n .occupied (setClearCount n 0 s)) k = clearCountOf (setClearCount n 0 s) k := by
      simp only [clearCountOf, secEntry, ground_desc hsame, ground_moduleAt hsame]
      rfl
    exact hkept.trans (hcount k hk)
  · rw [if_neg hclear]
    refine ⟨fun st hst => ?_, hcount, sectionsBeside_setClearCount n 0 s⟩
    rw [secAt_setClearCount, hst] at hclear
    rw [secAt_setClearCount, hst]
    cases hocc : st.occ with
    | occupied => simp [hocc]
    | clear => simp [hocc] at hclear

/-- The sections of a DETECT module that has failed (R24). -/
theorem failSections_spec {l : List Nat} {n : Nat} {st : SecState} (hst : secAt s n = some st) :
    fixtures (l.foldl (fun s n => failSection n s) s) = fixtures s ∧
    (n ∈ l → (secAt (l.foldl (fun s n => failSection n s) s) n).map (·.occ) = some .occupied ∧
      clearCountOf (l.foldl (fun s n => failSection n s) s) n = 0) ∧
    (n ∉ l → (secAt (l.foldl (fun s n => failSection n s) s) n).map (·.occ) = some st.occ) := by
  refine ⟨?_, fun hn => ?_, fun hn => ?_⟩
  · exact foldl_within (P := fun x => fixtures x = fixtures s) (fun x k _ hx => (failSection_spec k x).2.2.fixed.trans hx) rfl
  · refine foldl_reaches (P := fun x => (secAt x n).isSome = true)
      (Q := fun x => (secAt x n).map (·.occ) = some .occupied ∧ clearCountOf x n = 0) hn (fun x k _ hk hx => ?_) (fun x hx => ?_)
      (fun x k _ hx => ?_) (by simp [hst])
    · have hsame := congrArg Option.isSome ((failSection_spec k x).2.2.others n (Ne.symm hk))
      rwa [Option.isSome_map, Option.isSome_map, hx] at hsame
    · obtain ⟨y, hy⟩ := Option.isSome_iff_exists.1 hx
      obtain ⟨hocc, hcount, -⟩ := failSection_spec n x
      exact ⟨hocc y hy, hcount n (.inl rfl)⟩
    · obtain ⟨hocc, hcount, hbeside⟩ := failSection_spec k x
      refine ⟨?_, hcount n (.inr hx.2)⟩
      by_cases hk : n = k
      · subst hk
        obtain ⟨y, hy, -⟩ := Option.map_eq_some_iff.1 hx.1
        exact hocc y hy
      · exact (hbeside.others n hk).trans hx.1
  · refine foldl_within (P := fun x => (secAt x n).map (·.occ) = some st.occ) (fun x k hk hx => ?_) (by simp [hst])
    exact ((failSection_spec k x).2.2.others n fun h => hn (h ▸ hk)).trans hx

/-! ### Points (R30) -/

/-- A point of a POINT module that has failed. -/
def failedPt (st : PtState) : PtState :=
  { st with reported := .unproven, timer := if st.reported = .moving then none else st.timer }

theorem failedPt_failedPt (st : PtState) : failedPt (failedPt st) = failedPt st := rfl

/-- One point takes its safe values, before any hand-on. -/
def failPoint (s : State) (n : Nat) : State := setNeither n 0 (updatePt s n failedPt)

theorem neitherOf_setNeither_kept {n k : Nat} (h : neitherOf s n = 0) : neitherOf (setNeither k 0 s) n = 0 := by
  by_cases hnk : n = k
  · rw [hnk]
    exact neitherOf_setNeither_zero k s
  · cases hk : findItem (desc s).points k with
    | none => simpa [setNeither, hk] using h
    | some e =>
      have hset : setNeither k 0 s = updateModule s e.addr (fun m => { m with neitherCounts := m.neitherCounts.set e.output 0 }) := by
        simp [setNeither, hk]
      have hentry : findItem (desc (setNeither k 0 s)).points n = findItem (desc s).points n := by
        rw [desc_of_fixtures (fixtures_setNeither k 0 s)]
      cases hn : findItem (desc s).points n with
      | none => simp [neitherOf, hentry, hn]
      | some x =>
        simp only [neitherOf, hentry, hn] at h ⊢
        rw [hset]
        exact moduleAt_updateModule_leaves
          (P := fun m m' => entryAt m.neitherCounts x.output 0 = 0 → entryAt m'.neitherCounts x.output 0 = 0)
          (fun _ => id) (fun m hm => entryAt_set_zero (.inr hm)) _ _ s h

theorem ptAt_failPoint (s : State) (n m : Nat) : ptAt (failPoint s n) m = if m = n then (ptAt s m).map failedPt else ptAt s m := by
  rw [failPoint, ptAt_setNeither]
  by_cases h : m = n
  · rw [if_pos h, h, ptAt_updatePt_same]
  · rw [if_neg h, ptAt_updatePt_other _ _ h]

theorem fixtures_failPoint (s : State) (n : Nat) : fixtures (failPoint s n) = fixtures s :=
  (fixtures_setNeither n 0 _).trans rfl

theorem instances_failPoint (s : State) (n : Nat) : (failPoint s n).il.instances = s.il.instances := by
  unfold failPoint setNeither
  split <;> rfl

theorem neitherOf_failPoint {n k : Nat} (h : n = k ∨ neitherOf s n = 0) : neitherOf (failPoint s k) n = 0 := by
  obtain rfl | h := h
  · exact neitherOf_setNeither_zero n _
  · exact neitherOf_setNeither_kept (s := updatePt s k failedPt) h

/-- All the points of a module have their safe values before the first hand-on (R30). -/
theorem failPoint_all (l : List Nat) (n : Nat) (s : State) :
    fixtures (l.foldl failPoint s) = fixtures s ∧ (l.foldl failPoint s).il.instances = s.il.instances ∧
    ptAt (l.foldl failPoint s) n = (if n ∈ l then (ptAt s n).map failedPt else ptAt s n) ∧
    (n ∈ l → neitherOf (l.foldl failPoint s) n = 0) := by
  refine ⟨foldl_same fixtures _ fixtures_failPoint l s, foldl_same (fun x : State => x.il.instances) _ instances_failPoint l s,
    ?_, fun hn => ?_⟩
  · induction l generalizing s with
    | nil => simp
    | cons k l ih =>
      rw [List.foldl_cons, ih, ptAt_failPoint]
      by_cases hk : n = k
      · by_cases hl : n ∈ l
        · simp [hk, hk ▸ hl, Option.map_map, Function.comp_def, failedPt_failedPt]
        · simp [hk, hk ▸ hl]
      · simp [hk]
  · exact foldl_reaches (P := fun _ => True) (Q := fun x => neitherOf x n = 0) hn (fun _ _ _ _ _ => trivial)
      (fun x _ => neitherOf_failPoint (.inl rfl)) (fun x k _ hx => neitherOf_failPoint (.inr hx)) trivial

/-- A point whose report has changed is noted and handed on (R30). -/
def handOnFailed (s : State) (n : Nat) : State := pointHandOn n (.pointLost n) (notePoint n .position s)

theorem ripples_handOnFailed (s : State) (n : Nat) : Ripples s (handOnFailed s n) :=
  ((Ripples.refl s).notePoint n _).pointHandOn n _

theorem failPoints_eq (l : List Nat) (s : State) : failPoints l s =
    (l.filter (fun n => (ptAt s n).any (fun st => st.reported != .unproven))).foldl handOnFailed (l.foldl failPoint s) := rfl

theorem Unproven.still {n : Nat} (h : Unproven s n) (k : still t = still s) : Unproven t n := fun pos => by
  rw [ptProven, still_ptAt k, ← ptProven]
  exact h pos

/-- The consequences of a failed point keep points unproven, and an instance in SETTING that holds the point fails (R62). -/
theorem handOnFailed_spec {n : Nat} (hn : Unproven s n) :
    (∀ m, Unproven s m → Unproven (handOnFailed s n) m) ∧
    (∀ k, instAt s k = none → instAt (handOnFailed s n) k = none) ∧
    ∀ k i, instAt s k = some i → i.state = .setting →
      (instAt (handOnFailed s n) k = none ∨ instAt (handOnFailed s n) k = some i) ∧
      ((∃ h ∈ i.held, h.point = n) → instAt (handOnFailed s n) k = none) := by
  obtain ⟨proven, ht⟩ := pointHandOn_eq n (.pointLost n) (notePoint n .position s)
  have hnoted : still (notePoint n .position s) = still s := still_notePoint n _ s
  have hun : Unproven (notePoint n .position s) n := hn.still hnoted
  have hstill : still (handOnFailed s n) = still (toldHolders n (.pointLost n) (notePoint n .position s)) := by
    rw [handOnFailed, ht]
    cases proven
    · exact still_recomputeAll _ _
    · exact (still_recomputeAll _ _).trans (still_eligible _)
  have hgone : GivenUp (notePoint n .position s) (toldHolders n (.pointLost n) (notePoint n .position s)) :=
    givenUp_toldAll _ _ hun
  have hread : ∀ k, instAt (notePoint n .position s) k = instAt s k := still_instAt hnoted
  have hkept : ∀ k, (∀ i, instAt s k = some i → ¬ SettingHolds n i) → instAt (handOnFailed s n) k = instAt s k := fun k hk => by
    rw [still_instAt hstill, ← hread k]
    exact instAt_toldAll_other _ _ hun (hread k ▸ hk)
  have hfails : ∀ k i, instAt s k = some i → SettingHolds n i → instAt (handOnFailed s n) k = none := fun k i hi hholds => by
    have hi' := (hread k).trans hi
    rw [still_instAt hstill]
    exact (toldAll_failed _ hun (mem_slotsWhere_of_settingHolds hi' hholds) hi' hholds).1
  refine ⟨fun m hm => (hgone.unproven (hm.still hnoted)).still hstill, fun k hk => ?_, fun k i hi hstate => ⟨?_, fun hh => ?_⟩⟩
  · exact (hkept k (by simp [hk])).trans hk
  · by_cases hholds : SettingHolds n i
    · exact .inl (hfails k i hi hholds)
    · refine .inr ((hkept k fun j hj => ?_).trans hi)
      rw [hi] at hj
      exact Option.some.inj hj ▸ hholds
  · exact hfails k i hi ⟨hstate, hh⟩

/-- The points of a POINT module that has failed, and the instances in SETTING that held one whose report changed (R30). -/
theorem failPoints_spec {l : List Nat} {n : Nat} {st : PtState} (hst : ptAt s n = some st) :
    fixtures (failPoints l s) = fixtures s ∧
    (n ∈ l → neitherOf (failPoints l s) n = 0 ∧ (ptAt (failPoints l s) n).map groundPt = some (groundPt (failedPt st))) ∧
    (n ∉ l → (ptAt (failPoints l s) n).map groundPt = some (groundPt st)) ∧
    (n ∈ l → st.reported ≠ .unproven → ∀ slot i, instAt s slot = some i → i.state = .setting →
      (∃ h ∈ i.held, h.point = n) → instAt (failPoints l s) slot = none) := by
  rw [failPoints_eq]
  generalize hchanged : l.filter (fun n => (ptAt s n).any (fun st => st.reported != .unproven)) = changed
  obtain ⟨hfixed, hinst, hpt, hcount⟩ := failPoint_all l n s
  have hripples : Ripples (l.foldl failPoint s) (changed.foldl handOnFailed (l.foldl failPoint s)) :=
    (Ripples.refl _).foldl (fun x k hx => hx.trans (ripples_handOnFailed x k)) changed
  refine ⟨(fixtures_of_ground hripples.same).trans hfixed, fun hn => ⟨?_, ?_⟩, fun hn => ?_, fun hn hrep slot i hi hstate hh => ?_⟩
  · rw [neitherOf_of_ground hripples.same]
    exact hcount hn
  · rw [ground_ptAt hripples.same, hpt, if_pos hn, hst]
    rfl
  · rw [ground_ptAt hripples.same, hpt, if_neg hn, hst]
    rfl
  · have hmem : n ∈ changed := by
      rw [← hchanged]
      exact List.mem_filter.2 ⟨hn, by simp [hst, hrep]⟩
    have hun : ∀ k ∈ changed, Unproven (l.foldl failPoint s) k := fun k hk pos => by
      rw [← hchanged] at hk
      obtain ⟨-, -, hptk, -⟩ := failPoint_all l k s
      rw [ptProven, hptk, if_pos (List.mem_filter.1 hk).1]
      cases ptAt s k with
      | none => rfl
      | some y => cases pos <;> rfl
    refine foldl_reaches (P := fun x => (instAt x slot = none ∨ instAt x slot = some i) ∧ ∀ k ∈ changed, Unproven x k)
      (Q := fun x => instAt x slot = none ∧ ∀ k ∈ changed, Unproven x k) hmem (fun x k hk _ hx => ?_) (fun x hx => ?_)
      (fun x k hk hx => ?_) ⟨.inr (by rw [instAt, hinst, ← instAt, hi]), hun⟩ |>.1
    · obtain ⟨hstay, hnone, hsome⟩ := handOnFailed_spec (hx.2 k hk)
      refine ⟨?_, fun m hm => hstay m (hx.2 m hm)⟩
      obtain hfree | hlive := hx.1
      · exact .inl (hnone slot hfree)
      · exact (hsome slot i hlive hstate).1
    · obtain ⟨hstay, hnone, hsome⟩ := handOnFailed_spec (hx.2 n hmem)
      refine ⟨?_, fun m hm => hstay m (hx.2 m hm)⟩
      obtain hfree | hlive := hx.1
      · exact hnone slot hfree
      · exact (hsome slot i hlive hstate).2 hh
    · obtain ⟨hstay, hnone, -⟩ := handOnFailed_spec (hx.2 k hk)
      exact ⟨hnone slot hx.1, fun m hm => hstay m (hx.2 m hm)⟩

end Sys2Proof.Machine
end

section
/-! PROOFS. Failed SIGNAL, DECK and BUTTON modules, and the commands that no longer wait for a failed module (chapters 2, 4, 7
and 8). -/

namespace Sys2Proof.Machine

open Sys2Proof

-- One theorem at a time: theorems that wait for each other would hold a thread each.
set_option Elab.async false

variable {s t : State}

/-! ### Signals (R35, R37) -/

/-- The signal is described, and its module is not ACTIVE. -/
def Dark (n : Nat) (s : State) : Prop := ∃ g, findItem (desc s).signals n = some g ∧ moduleActive s g.addr = false

theorem Dark.ripple {n : Nat} (h : Dark n s) (r : Ripples s t) : Dark n t := by
  obtain ⟨g, hg, hidle⟩ := h
  exact ⟨g, by rw [ground_desc r.same]; exact hg, (ground_moduleActive r.same _).trans hidle⟩

/-- No instance vouches for a signal whose module is not ACTIVE, so its aspect is STOP (R35). -/
theorem aspectOf_dark {n : Nat} (h : Dark n s) : aspectOf s n = .stop := by
  obtain ⟨g, hg, hidle⟩ := h
  refine aspectOf_stop ?_
  rintro ⟨slot, i, r, -, -, -, -, ⟨g', hg', hactive⟩, -⟩
  obtain rfl := Option.some.inj (hg.symm.trans hg')
  rw [hidle] at hactive
  cases hactive

/-- A signal recomputed stores its aspect, and no other signal's. -/
theorem signals_recomputeOne {n : Nat} (k : Nat) (h : (findItem s.il.signals n).isSome = true) :
    findItem (recomputeOne k s).il.signals n = if n = k then some (aspectOf s n) else findItem s.il.signals n := by
  obtain ⟨old, hold⟩ := Option.isSome_iff_exists.1 h
  have hstored : ∀ (a : Aspect), (raise (.signal k a) (offer (.aspect k a)
      (s.withIl { s.il with signals := putItem s.il.signals k a }))).il.signals = putItem s.il.signals k a := fun a => by
    rw [quiet_il (quiet_raise _ _), inner_il (inner_offer _ _)]
    rfl
  by_cases hk : n = k
  · subst hk
    rw [if_pos rfl, recomputeOne_eq hold]
    split
    · rename_i hsame
      rw [hold, hsame]
    · rw [hstored, findItem_putItem_same]
  · rw [if_neg hk]
    cases hfound : findItem s.il.signals k with
    | none => simp [recomputeOne, hfound]
    | some a =>
      rw [recomputeOne_eq hfound]
      split
      · rfl
      · rw [hstored, findItem_putItem_other _ _ _ _ hk]

/-- The signal is dark and at STOP. -/
def DarkAtStop (n : Nat) (s : State) : Prop := Dark n s ∧ findItem s.il.signals n = some .stop

/-- A dark signal at STOP stays there. -/
theorem darkAtStop_recomputeOne {n : Nat} (k : Nat) (h : DarkAtStop n s) : DarkAtStop n (recomputeOne k s) := by
  obtain ⟨hdark, hstop⟩ := h
  refine ⟨hdark.ripple ((Ripples.refl s).recomputeOne k), ?_⟩
  rw [signals_recomputeOne k (by simp [hstop])]
  split
  · rw [aspectOf_dark hdark]
  · exact hstop

theorem darkAtStop_recomputeChain {n : Nat} (fuel k : Nat) (h : DarkAtStop n s) : DarkAtStop n (recomputeChain fuel k s) := by
  induction fuel generalizing k s with
  | zero => exact darkAtStop_recomputeOne k h
  | succ fuel ih =>
    rw [recomputeChain]
    split
    · exact darkAtStop_recomputeOne k h
    · exact foldl_keeps (DarkAtStop n) _ (fun x u hx => ih u hx) _ _ (darkAtStop_recomputeOne k h)

/-- A dark signal that is stored comes to STOP when it is recomputed. -/
theorem darkAtStop_of_recomputeOne {n : Nat} (hdark : Dark n s) (h : (findItem s.il.signals n).isSome = true) :
    DarkAtStop n (recomputeOne n s) := by
  refine ⟨hdark.ripple ((Ripples.refl s).recomputeOne n), ?_⟩
  rw [signals_recomputeOne n h, if_pos rfl, aspectOf_dark hdark]

theorem darkAtStop_of_recompute {n : Nat} (hdark : Dark n s) (h : (findItem s.il.signals n).isSome = true) :
    DarkAtStop n (recompute n s) := by
  have hone := darkAtStop_of_recomputeOne hdark h
  unfold recompute
  cases s.il.signals.length with
  | zero => exact hone
  | succ fuel =>
    rw [recomputeChain]
    split
    · exact hone
    · exact foldl_keeps (DarkAtStop n) _ (fun x u hx => darkAtStop_recomputeChain fuel u hx) _ _ hone

/-- A stored signal stays stored. -/
theorem signals_isSome_recompute {n : Nat} (k : Nat) (h : (findItem s.il.signals n).isSome = true) :
    (findItem (recompute k s).il.signals n).isSome = true := by
  have hone : ∀ (j : Nat) (x : State), (findItem x.il.signals n).isSome = true →
      (findItem (recomputeOne j x).il.signals n).isSome = true := fun j x hx => by
    rw [signals_recomputeOne j hx]
    split
    · rfl
    · exact hx
  have hchain : ∀ (fuel j : Nat) (x : State), (findItem x.il.signals n).isSome = true →
      (findItem (recomputeChain fuel j x).il.signals n).isSome = true := fun fuel => by
    induction fuel with
    | zero => exact hone
    | succ fuel ih =>
      intro j x hx
      rw [recomputeChain]
      split
      · exact hone j x hx
      · exact foldl_keeps (fun y : State => (findItem y.il.signals n).isSome = true) _ (fun y u hy => ih u y hy) _ _ (hone j x hx)
  exact hchain _ k s h

/-- The signals of a SIGNAL module that has failed come to STOP (R37). -/
theorem recomputeAll_dark {n : Nat} {l : List Nat} (hn : n ∈ l) (hdark : Dark n s)
    (h : (findItem s.il.signals n).isSome = true) : findItem (recomputeAll l s).il.signals n = some .stop :=
  (foldl_reaches (P := fun x => Dark n x ∧ (findItem x.il.signals n).isSome = true) (Q := DarkAtStop n) hn
    (fun x k _ _ hx => ⟨hx.1.ripple ((Ripples.refl x).recompute k), signals_isSome_recompute k hx.2⟩)
    (fun _ hx => darkAtStop_of_recompute hx.1 hx.2) (fun _ _ _ hx => darkAtStop_recomputeChain _ _ hx) ⟨hdark, h⟩).2

/-! ### The deck (R130) -/

/-- The deck section given up works on the instance of its slot alone (R63, R81). -/
theorem release_giveUpDeck (slot n : Nat) (s : State) : Release slot s (giveUpDeck slot n s) := by
  unfold giveUpDeck
  split
  · refine ((Release.refl slot s).freeSection n).updateInst fun i => ?_
    split <;> rfl
  · exact (((Release.refl slot s).freeSection n).updateInst).freeTest

/-- The deck lost is told to an instance: it works on no other slot; an instance in SETTING with a claim fails (R63). -/
theorem deckLostTold_spec {e : DeckEntry} (slot : Nat) (he : (desc s).deck = some e) :
    (∀ k, k ≠ slot → instAt (deckLostTold slot s) k = instAt s k) ∧
    (∀ i, instAt s slot = some i → i.state = .setting → i.claim ≠ .none → instAt (deckLostTold slot s) slot = none) ∧
    (instAt s slot = none → deckLostTold slot s = s) := by
  cases hi : instAt s slot with
  | none =>
    have hsame : deckLostTold slot s = s := by simp [deckLostTold, hi]
    rw [hsame]
    exact ⟨fun _ _ => rfl, fun _ _ _ _ => hi, fun _ => rfl⟩
  | some i =>
    have hfails : ∀ k, k ≠ slot → instAt (failInst slot .deckLost s) k = instAt s k := fun k hk => by
      rw [(failInst_spec .deckLost hi).2.1, if_neg hk]
    have hgives : ∀ k, k ≠ slot → instAt (giveUpDeck slot e.sec s) k = instAt s k := (release_giveUpDeck slot e.sec s).beside.others
    refine ⟨fun k hk => ?_, fun j hj hstate hclaim => ?_, fun h => by cases h⟩
    · simp only [deckLostTold, hi, he]
      split
      · split
        · exact hfails k hk
        · rfl
      · split
        · exact hfails k hk
        · rfl
      · split
        · exact hgives k hk
        · rfl
    · obtain rfl := Option.some.inj hj
      have hone : deckLostTold slot s = failInst slot .deckLost s := by
        simp [deckLostTold, hi, he, hstate, hclaim]
      rw [hone, (failInst_spec .deckLost hi).2.1, if_pos rfl]

/-- An instance in SETTING with a deck claim fails when the deck is lost (R63). -/
theorem deckLost_claims {e : DeckEntry} {slot : Nat} {i : Inst} (he : (desc s).deck = some e) (hi : instAt s slot = some i)
    (hstate : i.state = .setting) (hclaim : i.claim ≠ .none) : instAt (deckLost s) slot = none := by
  have hmem : slot ∈ slotsWhere s (fun _ => true) :=
    List.mem_map.2 ⟨(slot, i), List.mem_filter.2 ⟨mem_of_findItem hi, rfl⟩, rfl⟩
  have hdesc : ∀ (x : State) (k : Nat), desc (deckLostTold k x) = desc x := fun x k =>
    ground_desc ((Ripples.refl x).deckLostTold k).same
  have hreached := foldl_reaches (P := fun x => desc x = desc s ∧ instAt x slot = some i)
    (Q := fun x => desc x = desc s ∧ instAt x slot = none) (f := fun s i => deckLostTold i s) hmem
    (fun x k _ hk hx => ⟨(hdesc x k).trans hx.1, ((deckLostTold_spec k (hx.1 ▸ he)).1 slot (Ne.symm hk)).trans hx.2⟩)
    (fun x hx => ⟨(hdesc x slot).trans hx.1, (deckLostTold_spec slot (hx.1 ▸ he)).2.1 i hx.2 hstate hclaim⟩)
    (fun x k _ hx => ⟨(hdesc x k).trans hx.1, by
      obtain ⟨hothers, -, hfree⟩ := deckLostTold_spec k (hx.1 ▸ he)
      by_cases hk : slot = k
      · subst hk
        rw [hfree hx.2]
        exact hx.2
      · exact (hothers slot hk).trans hx.2⟩) ⟨rfl, hi⟩
  exact (still_instAt (still_recomputeAll _ _) slot).trans hreached.2

/-- A failed DECK module leaves the deck UNPROVEN with no move and no latch (R130). -/
def lostDeck (d : DeckState) : DeckState := { d with pos := .unproven, req := none, timer := none, latch := none, doubt := 0 }

theorem deckModuleFailed_spec (s : State) : ∃ y, quiet y = quiet (s.withDeck (s.deck.map lostDeck)) ∧
    deckModuleFailed s = deckLost y := by
  refine ⟨_, ?_, rfl⟩
  refine (quiet_discardLatch (quiet_noteDeck _ _) _).trans ?_
  rw [updateDeck, State.withDeck_deck, Option.map_map]
  rfl

/-! ### Buttons (R138) -/

/-- A table whose entries are changed by their numbers. -/
theorem findItem_map_pair {α β : Type} (l : Table α) (g : Nat × α → β) (k : Nat) :
    findItem (l.map (fun e => (e.1, g e))) k = (findItem l k).map (fun a => g (k, a)) := by
  induction l with
  | nil => rfl
  | cons e l ih =>
    obtain ⟨i, a⟩ := e
    by_cases h : i = k
    · simp [findItem, h]
    · simpa [findItem, h] using ih

/-- The buttons of a BUTTON module that has failed have no level seen (R138). -/
theorem buttons_ownerFailed (a n : Nat) (s : State) : findItem (ownerFailed a .button s).demo.buttons n =
    (findItem s.demo.buttons n).map (fun b =>
      if (planEntry s n).any (fun pl => pl.addr == a) then { b with level := none } else b) := by
  have hmap : (ownerFailed a .button s).demo.buttons = s.demo.buttons.map (fun e => (e.1,
      if (planEntry s e.1).any (fun pl => pl.addr == a) then { e.2 with level := none } else e.2)) := by
    refine List.map_congr_left fun e _ => ?_
    split <;> rfl
  rw [hmap, findItem_map_pair]

/-! ### Commands for a failed module (R152) -/

/-- The module is not ACTIVE, and no command waits for it. -/
def Barred (a : Nat) (s : State) : Prop := moduleActive s a = false ∧ NoneFor (desc s) a s.ring

namespace Barred

variable {a : Nat}

theorem ripple (h : Barred a s) (r : Ripples s t) : Barred a t :=
  ⟨(ground_moduleActive r.same a).trans h.1, by
    rw [ground_desc r.same]
    exact r.bare a h.1 h.2⟩

/-- Waiting commands and states of modules as they were. -/
theorem same (h : Barred a s) (hdesc : desc t = desc s) (hactive : moduleActive t a = moduleActive s a)
    (hwaits : ∀ c, Waits c t.ring → Waits c s.ring) : Barred a t :=
  ⟨hactive.trans h.1, fun c hc => by
    rw [hdesc]
    exact h.2 c (hwaits c hc)⟩

theorem updateModule (h : Barred a s) (b : Nat) {f : Module → Module} (hf : ∀ m, (f m).state = m.state) :
    Barred a (updateModule s b f) :=
  h.same rfl (by
    have hstate := moduleAt_updateModule_leaves (P := fun m m' => m'.state = m.state) (fun _ => rfl) hf b a s
    rw [moduleActive, hstate, moduleActive]) fun _ hc => hc

theorem setClearCount (h : Barred a s) (n v : Nat) : Barred a (setClearCount n v s) := by
  unfold Machine.setClearCount
  split
  · refine h.updateModule _ ?_
    exact fun _ => rfl
  · exact h

theorem setNeither (h : Barred a s) (n v : Nat) : Barred a (setNeither n v s) := by
  unfold Machine.setNeither
  split
  · refine h.updateModule _ ?_
    exact fun _ => rfl
  · exact h

theorem failSection (h : Barred a s) (n : Nat) : Barred a (failSection n s) := by
  unfold Machine.failSection
  dsimp only
  split
  · exact Barred.ripple (s := updateSec (Machine.setClearCount n 0 s) n (fun st => { st with occ := .occupied }))
      (h.setClearCount n 0) (Ripples.occupancyChanged _ n _)
  · exact h.setClearCount n 0

theorem failPoints (h : Barred a s) (l : List Nat) : Barred a (failPoints l s) := by
  rw [failPoints_eq]
  refine Barred.ripple (foldl_keeps (Barred a) failPoint (fun x n hx => ?_) l s h)
    ((Ripples.refl _).foldl (fun x k hx => hx.trans (ripples_handOnFailed x k)) _)
  exact Barred.setNeither (s := updatePt x n failedPt) hx n 0

theorem quiet (h : Barred a s) (hq : quiet t = quiet s) : Barred a t :=
  h.same (by rw [desc, quiet_store hq, desc]) (by rw [moduleActive, moduleAt, quiet_ring hq, moduleActive, moduleAt])
    fun c hc => by rwa [quiet_ring hq] at hc

/-- The SPEED commands of an all-stop go to an ACTIVE traction module alone (R116). -/
theorem stopTrains (h : Barred a s) : Barred a (stopTrains s) := by
  obtain ⟨hidle, hnone⟩ := h
  have hdesc : desc (Machine.stopTrains s) = desc s := by rw [desc, aside_store (aside_stopTrains s), desc]
  have hmodules : (Machine.stopTrains s).ring.modules = s.ring.modules := by rw [stopTrains_ring]
  refine ⟨by rw [moduleActive, moduleAt, hmodules]; exact hidle, ?_⟩
  rw [hdesc, stopTrains_ring]
  rintro c (hc | hc | hc)
  · obtain hc | hc := List.mem_append.1 hc
    · split at hc
      case isTrue hactive =>
        obtain ⟨x, -, hx⟩ := List.mem_filterMap.1 hc
        obtain ⟨r, -, hr⟩ := Option.bind_eq_some_iff.1 hx
        obtain ⟨u, -, rfl⟩ := Option.map_eq_some_iff.1 hr
        intro htraction
        simp [tractionActive, show (desc s).traction = some a from htraction, hidle] at hactive
      case isFalse => cases hc
    · exact hnone c (.inl (List.mem_of_mem_filter hc))
  · dsimp only at hc
    split at hc
    · obtain hc | hc := List.mem_append.1 hc
      · exact hnone c (.inr (.inl (List.mem_of_mem_filter hc)))
      · exact hnone c (.inr (.inr ((Option.filter_eq_some_iff.1 (Option.mem_toList.1 hc)).1)))
    · exact hnone c (.inr (.inl (List.mem_of_mem_filter hc)))
  · dsimp only at hc
    split at hc
    · cases hc
    · exact hnone c (.inr (.inr (Option.filter_eq_some_iff.1 hc).1))

theorem setAllStop (h : Barred a s) (cause : StopCause) : Barred a (setAllStop cause s) := by
  unfold Machine.setAllStop
  split
  · exact h
  · refine Barred.ripple (Barred.stopTrains ?_) (Ripples.refl _).recomputeService
    exact Barred.quiet (s := s.withCtl { s.ctl with allStop := some cause }) h (quiet_raise _ _)

end Barred

/-- The owner's work leaves no command for the failed module (R152). -/
theorem barred_ownerFailed {a : Nat} (k : ModKind) (h : Barred a s) : Barred a (ownerFailed a k s) := by
  cases k with
  | detect => exact foldl_keeps (Barred a) _ (fun x n hx => hx.failSection n) _ s h
  | point => exact h.failPoints _
  | signal => exact h.ripple ((Ripples.refl s).recomputeAll _)
  | button => exact h
  | deck =>
    obtain ⟨y, hy, heq⟩ := deckModuleFailed_spec s
    change Barred a (deckModuleFailed s)
    rw [heq]
    exact Barred.ripple (Barred.quiet (s := s.withDeck (s.deck.map lostDeck)) h hy) (Ripples.refl y).deckLost
  | traction => exact h.setAllStop _
  | absent => exact h

end Sys2Proof.Machine
end

section
/-! PROOFS. The failure of a module and its safe values (R152). -/

namespace Sys2Proof.Machine

open Sys2Proof

-- One theorem at a time: theorems that wait for each other would hold a thread each.
set_option Elab.async false

variable {s t : State}

/-! ### The module failed -/

theorem ring_failedModule (a : Nat) (s : State) : (failedModule a s).ring = removeCommands (desc s) a
    (updateModule s a (fun m => { m with state := .failed, misses := Config.missLimit })).ring := by
  rw [failedModule, count_ring, raise_ring]
  rfl

/-- A failed module changes the ring, and is told. -/
theorem quiet_failedModule (a : Nat) (s : State) : quiet (failedModule a s) = quiet (s.withRing (failedModule a s).ring) := by
  rw [ring_failedModule, failedModule, quiet_count, quiet_raise]
  rfl

theorem todo_failedModule (a : Nat) (s : State) : (failedModule a s).ring.todo = s.ring.todo :=
  (todo_of_ringRest (ringRest_failedModule a s)).trans rfl

/-- No command for a module waits once they are removed (R152 step 2). -/
theorem noneFor_removeCommands (d : Desc) (a : Nat) (r : Ring) : NoneFor d a (removeCommands d a r) := by
  have hkept : ∀ (l : List RingCmd) (c : RingCmd), c ∈ l.filter (fun c => cmdModule d c != some a) → cmdModule d c ≠ some a :=
    fun l c hc => by simpa using (List.mem_filter.1 hc).2
  have hslot : ∀ c, r.slot.filter (fun c => cmdModule d c != some a) = some c → cmdModule d c ≠ some a := fun c hc => by
    simpa using (Option.filter_eq_some_iff.1 hc).2
  intro c hc
  obtain hc | hc | hc := waits_refillSlot hc
  · exact hkept _ c hc
  · exact hkept _ c hc
  · exact hslot c hc

theorem barred_failedModule {a : Nat} (h : (findItem s.ring.modules a).isSome = true) : Barred a (failedModule a s) := by
  refine ⟨?_, ?_⟩
  · rw [moduleActive, (moduleAt_failedModule h).1]
    rfl
  · rw [desc, aside_store (aside_failedModule a s), ring_failedModule]
    exact noneFor_removeCommands _ _ _

/-! ### Its owner -/

theorem fixtures_failPoints (l : List Nat) (s : State) : fixtures (failPoints l s) = fixtures s := by
  rw [failPoints_eq]
  refine (fixtures_of_ground (((Ripples.refl _).foldl (fun x k hx => hx.trans (ripples_handOnFailed x k)) _).same)).trans ?_
  exact foldl_same fixtures _ fixtures_failPoint l s

/-- The owner of a failed module takes no part in the sweep; only the traction module's changes the mode (R116, R152). -/
theorem ownerFailed_leaves (a : Nat) (k : ModKind) (s : State) :
    (ownerFailed a k s).ring.todo = s.ring.todo ∧ (k ≠ .traction → (ownerFailed a k s).ctl = s.ctl) := by
  have hfixed : fixtures (ownerFailed a k s) = fixtures s →
      (ownerFailed a k s).ring.todo = s.ring.todo ∧ (k ≠ .traction → (ownerFailed a k s).ctl = s.ctl) :=
    fun h => ⟨fixtures_todo h, fun _ => fixtures_ctl h⟩
  cases k with
  | detect => exact hfixed (foldl_same fixtures _ (fun x n => (failSection_spec n x).2.2.fixed) _ s)
  | point => exact hfixed (fixtures_failPoints _ s)
  | signal => exact hfixed (fixtures_of_ground ((Ripples.refl s).recomputeAll _).same)
  | button => exact ⟨rfl, fun _ => rfl⟩
  | absent => exact ⟨rfl, fun _ => rfl⟩
  | deck =>
    obtain ⟨y, hy, heq⟩ := deckModuleFailed_spec s
    change (deckModuleFailed s).ring.todo = s.ring.todo ∧ (_ → (deckModuleFailed s).ctl = s.ctl)
    have hlost : fixtures (deckModuleFailed s) = fixtures (s.withDeck (s.deck.map lostDeck)) := by
      rw [heq]
      exact (fixtures_of_ground (Ripples.refl y).deckLost.same).trans (fixtures_of_quiet hy)
    exact ⟨(fixtures_todo hlost).trans rfl, fun _ => (fixtures_ctl hlost).trans rfl⟩
  | traction =>
    refine ⟨?_, fun h => absurd rfl h⟩
    change (setAllStop .tractionFailed s).ring.todo = s.ring.todo
    cases hstop : s.ctl.allStop with
    | none => exact (congrArg Ring.todo (setAllStop_clear hstop .tractionFailed).2.2 :)
    | some c => simp [setAllStop, hstop]

/-- The items of a failed module have their safe values (R152 step 4). -/
theorem madeSafe_ownerFailed {a : Nat} {x : State} {r : Ring} (k : ModKind) (hx : quiet x = quiet (s.withRing r)) (hbar : Barred a x)
    (hfailed : (moduleAt x a).state = .failed) : MadeSafe a k s (ownerFailed a k x) := by
  have hdesc : desc x = desc s := by rw [desc, quiet_store hx]; rfl
  have hsec : ∀ n, secAt x n = secAt s n := fun n => by rw [secAt, quiet_il hx]; rfl
  have hpt : ∀ n, ptAt x n = ptAt s n := fun n => by rw [ptAt, quiet_il hx]; rfl
  have hinst : ∀ n, instAt x n = instAt s n := fun n => by rw [instAt, quiet_il hx]; rfl
  have hctl : x.ctl = s.ctl := (quiet_ctl hx).trans rfl
  have hmem : ∀ {α : Type} {l : Table α} {n : Nat} {e : α} (p : Nat → α → Bool), findItem l n = some e → p n e = true →
      n ∈ itemsWhere l p := fun p he hp =>
    List.mem_map.2 ⟨_, List.mem_filter.2 ⟨mem_of_findItem he, hp⟩, rfl⟩
  obtain ⟨-, hnone⟩ := barred_ownerFailed k hbar
  have hstore : (ownerFailed a k x).store = x.store := store_of_wired (wired_ownerFailed a k x)
  have hother : ∀ c, Waits c (ownerFailed a k x).ring → cmdModule (desc s) c ≠ some a := fun c hc => by
    have := hnone c hc
    rwa [desc, hstore, ← desc, hdesc] at this
  refine ⟨fun c hc => hother c (.inl hc), fun c hc => hother c (.inr (.inl hc)), fun c hc => hother c (.inr (.inr hc)),
    fun hk => ((ownerFailed_leaves a k x).2 hk).trans hctl, ?_, ?_, ?_, ?_, ?_⟩
  · rintro rfl n e st he hst
    obtain ⟨-, hin, hout⟩ := failSections_spec (l := itemsWhere (desc x).sections (fun _ e => e.addr == a)) ((hsec n).trans hst)
    refine ⟨fun ha => hin (hmem _ (hdesc ▸ he) (beq_iff_eq.2 ha)), fun ha hnodup => hout fun hn => ha ?_⟩
    obtain ⟨e', he', ha'⟩ := (mem_itemsWhere_iff (hdesc.symm ▸ hnodup) _ n).1 hn
    obtain rfl := Option.some.inj (he.symm.trans (hdesc ▸ he'))
    exact beq_iff_eq.1 ha'
  · rintro rfl n e st he hst
    obtain ⟨-, hin, hout, hlost⟩ := failPoints_spec (l := itemsWhere (desc x).points (fun _ e => e.addr == a)) ((hpt n).trans hst)
    have hread : ∀ {o : Option PtState} {y : PtState}, o.map groundPt = some (groundPt y) →
        o.map (fun x => (x.reported, x.commanded, x.lockedPos, x.timer)) = some (y.reported, y.commanded, y.lockedPos, y.timer) :=
      fun {o y} h => by
        obtain ⟨z, rfl, hz⟩ := Option.map_eq_some_iff.1 h
        exact (congrArg (fun x : PtState => some (x.reported, x.commanded, x.lockedPos, x.timer)) hz :)
    refine ⟨fun ha => ?_, fun ha hnodup => hread (hout fun hn => ha ?_), fun ha hne slot i hi => ?_⟩
    · obtain ⟨hcount, hground⟩ := hin (hmem _ (hdesc ▸ he) (beq_iff_eq.2 ha))
      exact ⟨hcount, hread hground⟩
    · obtain ⟨e', he', ha'⟩ := (mem_itemsWhere_iff (hdesc.symm ▸ hnodup) _ n).1 hn
      obtain rfl := Option.some.inj (he.symm.trans (hdesc ▸ he'))
      exact beq_iff_eq.1 ha'
    · exact hlost (hmem _ (hdesc ▸ he) (beq_iff_eq.2 ha)) hne slot i ((hinst slot).trans hi)
  · rintro rfl n g old hg ha hold
    refine recomputeAll_dark (hmem _ (hdesc ▸ hg) (beq_iff_eq.2 ha)) ⟨g, by rw [hdesc]; exact hg, ?_⟩ ?_
    · rw [ha]
      exact hbar.1
    · rw [quiet_il hx]
      exact Option.isSome_iff_exists.2 ⟨old, hold⟩
  · rintro rfl d hd
    obtain ⟨y, hy, heq⟩ := deckModuleFailed_spec x
    have hdeck : x.deck = s.deck := (quiet_deck hx).trans rfl
    change (deckModuleFailed x).deck = _ ∧ ∀ e slot i, _ → _ → _ → _ → instAt (deckModuleFailed x) slot = none
    rw [heq]
    refine ⟨?_, fun e slot i he hi hstate hclaim => ?_⟩
    · rw [ground_deck (Ripples.refl y).deckLost.same, quiet_deck hy, hdeck, hd]
      rfl
    · refine deckLost_claims (e := e) (i := i) ?_ ?_ hstate hclaim
      · rw [desc, quiet_store hy]
        exact (congrArg Desc.deck hdesc).trans he
      · rw [instAt, quiet_il hy]
        exact (hinst slot).trans hi
  · rintro rfl n b e hb he
    have hplan : planEntry x n = some e := by rw [planEntry, hdesc]; exact he
    have hread := buttons_ownerFailed a n x
    rw [quiet_demo hx, hplan, show (s.withRing r).demo = s.demo from rfl, hb] at hread
    refine ⟨fun ha => ⟨?_, fun b' _ => ?_⟩, fun ha => ?_⟩
    · simpa [ha] using hread
    · rw [shownLevel, show planEntry (ownerFailed a .button x) n = planEntry x n from rfl, hplan]
      simp [ha, show moduleAt (ownerFailed a .button x) a = moduleAt x a from rfl, hfailed]
    · simpa [ha] using hread

/-! ### The outcome of a poll with more polls to come -/

theorem afterOutcome_more (h : s.ring.todo ≠ []) : afterOutcome s = s.withRing { s.ring with due := dueAfter s } := by
  have hpolls : (s.ring.restTail && s.ring.todo.isEmpty) = false := by simp [h]
  simp only [afterOutcome, State.withRing_ring, hpolls]
  exact settleSweep_idle (.inr h)

/-- The commands due are no part of what a failure makes safe. -/
theorem MadeSafe.due {a : Nat} {k : ModKind} (h : MadeSafe a k s t) (n : Nat) :
    MadeSafe a k s (t.withRing { t.ring with due := n }) := h

/-- The third miss in a row of an ACTIVE module, with polls to come (R152). -/
theorem takeMiss_madeSafe {a : Nat} {m : Module} (hm : findItem s.ring.modules a = some m) (hactive : m.state = .active)
    (hmisses : 2 ≤ m.misses) (htodo : s.ring.todo ≠ []) : MadeSafe a m.kind s (takeMiss a s) := by
  have hsome : (findItem (missNoted s).ring.modules a).isSome = true := by simp [ring_missNoted, hm]
  have hquiet : quiet (failedModule a (missNoted s)) = quiet (s.withRing (failedModule a (missNoted s)).ring) :=
    (quiet_failedModule a (missNoted s)).trans ((quiet_withRing_congr (quiet_missNoted s) _).trans rfl)
  have hkept : (failedModule a (missNoted s)).ring.todo = s.ring.todo := by
    rw [todo_failedModule, ring_missNoted]
  have hsafe := madeSafe_ownerFailed m.kind hquiet (barred_failedModule hsome) (by rw [(moduleAt_failedModule hsome).1])
  have hmore : (ownerFailed a m.kind (failedModule a (missNoted s))).ring.todo ≠ [] := by
    rw [(ownerFailed_leaves a m.kind _).1, hkept]
    exact htodo
  have hmiss : takeMiss a s = afterOutcome (ownerFailed a m.kind (failedModule a (missNoted s))) := by
    rw [takeMiss_cases hm, if_pos hactive, if_neg (by omega)]
  rw [hmiss]
  generalize ownerFailed a m.kind (failedModule a (missNoted s)) = y at hsafe hmore
  rw [afterOutcome_more hmore]
  exact hsafe.due _

end Sys2Proof.Machine
end

section
/-! PROOFS. The whole-sweep boundary (R11, R14, R17, R155). -/

namespace Sys2Proof.Machine

open Sys2Proof

-- One theorem at a time: theorems that wait for each other would hold a thread each.
set_option Elab.async false

variable {s t : State}

/-! ### Disturbed sections settled (R17) -/

theorem still_disrupt (k : Nat) (cause : Cause) (s : State) : still (disrupt k cause s) = still s := by
  have hhand : ∀ x : State, aside (handDisruption k x) = aside x := fun x => by
    unfold handDisruption
    split
    · exact aside_abort _ x
    · rfl
  unfold disrupt
  split
  · refine still_of_aside ((hhand _).trans ?_)
    rw [aside_noteTrain, aside_count, markDisrupted, aside_updateTrain]
  · rfl

/-- A section that leaves a train's list has no occupant (R97). -/
theorem still_leaveList (k n : Nat) (s : State) :
    still (leaveList k n s) = still (updateSec s n (fun st => { st with occupant := .none })) := by
  have hleft : still (setOccupant n .none (updateTrain s k (fun r => { r with list := r.list.filter (· != n) }))) =
      still (updateSec s n (fun st => { st with occupant := .none })) := by
    rw [setOccupant, still_noteSection]
    exact still_updateSec_congr (t := updateTrain s k _) (still_of_aside (aside_updateTrain s k _)) n _
  unfold leaveList
  dsimp only
  split
  · split
    · exact (still_of_aside (aside_updateSup _ _ _)).trans hleft
    · exact hleft
  · exact hleft

/-- A section that becomes CLEAR keeps its state but for an occupant that leaves, and no other section changes (R97). -/
theorem still_becameClear (n : Nat) (s : State) :
    (still (becameClear n s) = still s ∧ ∀ st, secAt s n = some st → (∀ k, st.occupant ≠ .train k) → st.occupant = .none) ∨
    still (becameClear n s) = still (updateSec s n (fun st => { st with occupant := .none })) := by
  cases hst : secAt s n with
  | none => exact .inl ⟨by simp [becameClear, hst], nofun⟩
  | some st =>
    cases ho : st.occupant with
    | none =>
      refine .inl ⟨by simp [becameClear, hst, ho], fun st' hst' _ => ?_⟩
      obtain rfl := Option.some.inj hst'
      exact ho
    | unknown =>
      refine .inr ?_
      simp only [becameClear, hst, Option.map_some, Option.getD_some, ho, setOccupant, still_noteSection]
    | train k =>
      have hfar : ∀ st', some st = some st' → (∀ k, st'.occupant ≠ .train k) → st'.occupant = .none := fun st' h hk => by
        obtain rfl := Option.some.inj h
        exact absurd ho (hk k)
      simp only [becameClear, hst, Option.map_some, Option.getD_some, ho]
      split
      · exact .inl ⟨still_disrupt _ _ _, hfar⟩
      · refine .inr (Eq.trans ?_ (still_leaveList k n s))
        split
        · exact still_disrupt _ _ _
        · exact still_of_aside (aside_noteTrain _ _ _)
      · exact .inl ⟨rfl, hfar⟩

/-- A section as a wake leaves it (R17). -/
def Settled (st y : SecState) : Prop :=
  y.disturbed = false ∧ y.occ = st.occ ∧ y.lock = st.lock ∧ (st.disturbed = false → y.occupant = st.occupant) ∧
  (st.disturbed = true → st.occ = .occupied → y.occupant =
    (match st.occupant with | .train x => Occupant.train x | _ => .unknown)) ∧
  (st.disturbed = true → st.occ = .clear → (∀ x, st.occupant ≠ .train x) → y.occupant = .none)

/-- A section that is not disturbed is settled. -/
theorem settled_refl {st : SecState} (h : st.disturbed = false) : Settled st st :=
  ⟨h, rfl, rfl, fun _ => rfl, fun hd => absurd hd (by simp [h]), fun hd => absurd hd (by simp [h])⟩

/-- The section is calm again. -/
def calmed (n : Nat) (s : State) : State := updateSec s n (fun st => { st with disturbed := false })

theorem secAt_calmed_other {n m : Nat} (h : m ≠ n) (s : State) : secAt (calmed n s) m = secAt s m := secAt_updateSec_other s _ h

theorem secAt_calmed_same {n : Nat} {st : SecState} (h : secAt s n = some st) :
    secAt (calmed n s) n = some { st with disturbed := false } := by
  rw [calmed, secAt_updateSec_same, h]
  rfl

/-- A disturbed section settled changes its own state alone. -/
theorem settleSection_disturbed {n : Nat} {st : SecState} (hst : secAt s n = some st) (hd : st.disturbed = true) :
    ∃ y, Settled st y ∧ secAt (settleSection n s) n = some y ∧ ∀ m, m ≠ n → secAt (settleSection n s) m = secAt s m := by
  have hkept : ∀ {x : State}, still x = still (calmed n s) →
      secAt x n = some { st with disturbed := false } ∧ ∀ m, m ≠ n → secAt x m = secAt s m := fun hx =>
    ⟨by rw [still_secAt hx, secAt_calmed_same hst], fun m hm => by rw [still_secAt hx, secAt_calmed_other hm]⟩
  have hleft : ∀ {x : State} {o : Occupant}, still x = still (updateSec (calmed n s) n (fun st => { st with occupant := o })) →
      secAt x n = some { st with disturbed := false, occupant := o } ∧ ∀ m, m ≠ n → secAt x m = secAt s m := fun hx =>
    ⟨by rw [still_secAt hx, secAt_updateSec_same, secAt_calmed_same hst]; rfl,
      fun m hm => by rw [still_secAt hx, secAt_updateSec_other _ _ hm, secAt_calmed_other hm]⟩
  have hcalm : ¬ st.disturbed = false := by simp [hd]
  cases hocc : st.occ with
  | clear =>
    have hset : settleSection n s =
        recomputeAll (sectionSignals (becameClear n (calmed n s)) n) (becameClear n (calmed n s)) := by
      simp only [settleSection, hst, hd, if_true, hocc]
      rfl
    rw [hset]
    obtain ⟨hsame, hnone⟩ | hgone := still_becameClear n (calmed n s)
    · refine ⟨{ st with disturbed := false }, ⟨rfl, rfl, rfl, fun h => absurd h hcalm, fun _ h => ?_, fun _ _ hfar => ?_⟩,
        hkept ((still_recomputeAll _ _).trans hsame)⟩
      · rw [hocc] at h
        cases h
      · exact hnone _ (secAt_calmed_same hst) hfar
    · refine ⟨{ st with disturbed := false, occupant := .none },
        ⟨rfl, rfl, rfl, fun h => absurd h hcalm, fun _ h => ?_, fun _ _ _ => rfl⟩,
        hleft ((still_recomputeAll _ _).trans hgone)⟩
      rw [hocc] at h
      cases h
  | occupied =>
    have hclear : ¬ st.occ = .clear := by simp [hocc]
    have hunknown : (∀ k, st.occupant ≠ .train k) → settleSection n s =
        recomputeAll (sectionSignals (noteSection n .unknown (updateSec (calmed n s) n (fun st => { st with occupant := .unknown }))) n)
          (noteSection n .unknown (updateSec (calmed n s) n (fun st => { st with occupant := .unknown }))) := fun hfar => by
      simp only [settleSection, hst, hd, if_true, hocc]
      cases ho : st.occupant with
      | train k => exact absurd ho (hfar k)
      | _ => rfl
    by_cases htrain : ∃ k, st.occupant = .train k
    · obtain ⟨k, ho⟩ := htrain
      have hset : settleSection n s = calmed n s := by
        simp only [settleSection, hst, hd, if_true, hocc, ho]
        rfl
      rw [hset]
      exact ⟨{ st with disturbed := false }, ⟨rfl, rfl, rfl, fun _ => rfl, fun _ _ => by rw [ho], fun _ h => absurd h hclear⟩,
        hkept rfl⟩
    · have hfar : ∀ k, st.occupant ≠ .train k := fun k hk => htrain ⟨k, hk⟩
      rw [hunknown hfar]
      refine ⟨{ st with disturbed := false, occupant := .unknown },
        ⟨rfl, rfl, rfl, fun h => absurd h hcalm, fun _ _ => ?_, fun _ h => absurd h hclear⟩,
        hleft ((still_recomputeAll _ _).trans (still_noteSection _ _ _))⟩
      cases ho : st.occupant with
      | train k => exact absurd ho (hfar k)
      | _ => rfl

/-- One section settled: no other section changes, and it stays as it is when it was not disturbed. -/
theorem settleSection_spec (n : Nat) (s : State) :
    (∀ m, m ≠ n → secAt (settleSection n s) m = secAt s m) ∧
    (∀ st, secAt s n = some st → ∃ y, secAt (settleSection n s) n = some y ∧ Settled st y ∧ (st.disturbed = false → y = st)) := by
  cases hst : secAt s n with
  | none =>
    have hsame : settleSection n s = s := by simp [settleSection, hst]
    rw [hsame]
    exact ⟨fun _ _ => rfl, nofun⟩
  | some st =>
    by_cases hd : st.disturbed = true
    · obtain ⟨y, hy, hself, hother⟩ := settleSection_disturbed hst hd
      refine ⟨hother, fun st' hst' => ?_⟩
      obtain rfl := Option.some.inj hst'
      exact ⟨y, hself, hy, fun h => absurd h (by simp [hd])⟩
    · have hsame : settleSection n s = s := by simp [settleSection, hst, hd]
      rw [hsame]
      refine ⟨fun _ _ => rfl, fun st' hst' => ?_⟩
      obtain rfl := Option.some.inj hst'
      exact ⟨st, hst, settled_refl (by simpa using hd), fun _ => rfl⟩

/-- Every section settled (R17). -/
theorem settleAll_spec {n : Nat} {st : SecState} (hst : secAt s n = some st) :
    ∃ y, secAt (settleAll s) n = some y ∧ Settled st y := by
  have hmem : n ∈ (s.trains.map (fun e => e.2.list)).flatten ++
      (itemNumbers s.il.sections).filter (fun n => !(s.trains.map (fun e => e.2.list)).flatten.contains n) := by
    by_cases hlist : n ∈ (s.trains.map (fun e => e.2.list)).flatten
    · exact List.mem_append_left _ hlist
    · refine List.mem_append_right _ (List.mem_filter.2 ⟨List.mem_map.2 ⟨_, mem_of_findItem hst, rfl⟩, ?_⟩)
      simpa using hlist
  refine foldl_reaches (P := fun x => secAt x n = some st) (Q := fun x => ∃ y, secAt x n = some y ∧ Settled st y) hmem
    (fun x k _ hk hx => ((settleSection_spec k x).1 n (Ne.symm hk)).trans hx) (fun x hx => ?_) (fun x k _ hx => ?_) hst
  · obtain ⟨y, hy, hsettled, -⟩ := (settleSection_spec n x).2 st hx
    exact ⟨y, hy, hsettled⟩
  · obtain ⟨y, hy, hsettled⟩ := hx
    by_cases hk : n = k
    · subst hk
      obtain ⟨z, hz, -, hcalm⟩ := (settleSection_spec n x).2 y hy
      exact ⟨y, hz.trans (congrArg some (hcalm hsettled.1)), hsettled⟩
    · exact ⟨y, ((settleSection_spec k x).1 n hk).trans hy, hsettled⟩

end Sys2Proof.Machine
end

section
/-! PROOFS. Mode Control's work at the whole-sweep boundary, and the sweep setting (R11, R14, R155). -/

namespace Sys2Proof.Machine

open Sys2Proof

-- One theorem at a time: theorems that wait for each other would hold a thread each.
set_option Elab.async false

variable {s t : State}

/-! ### The end of WAKING (R11) -/

theorem endWaking_spec (s : State) :
    ringRest (endWaking s).ring = ringRest s.ring ∧ (endWaking s).ctl = { s.ctl with mode := .inService } ∧
    (s.ctl.wakeBy = .commit → (endWaking s).il.sections = s.il.sections) ∧
    (s.ctl.wakeBy = .wake → ∀ n st, secAt s n = some st → ∃ y, secAt (endWaking s) n = some y ∧ Settled st y) := by
  have hend : ∀ x : State, aside (recomputeService (raise (.mode .inService) (x.withCtl { x.ctl with mode := .inService }))) =
      aside (x.withCtl { x.ctl with mode := .inService }) := fun x => by rw [aside_recomputeService, aside_raise]
  have hwaking : endWaking s = (if s.ctl.wakeBy = .wake then recomputeService (raise (.mode .inService)
      ((settleAll s).withCtl { (settleAll s).ctl with mode := .inService })) else
      recomputeService (raise (.mode .inService) (s.withCtl { s.ctl with mode := .inService }))) := by
    unfold endWaking
    split <;> rfl
  refine ⟨ringRest_of_motion (motion_endWaking s), ?_, fun hby => ?_, fun hby n st hst => ?_⟩
  · rw [hwaking]
    split
    · rw [aside_ctl (hend _)]
      exact congrArg (fun c : Control => { c with mode := .inService }) (ground_ctl (Ripples.refl s).settleAll.same)
    · exact aside_ctl (hend s)
  · rw [hwaking, if_neg (by simp [hby]), aside_il (hend s)]
    rfl
  · rw [hwaking, if_pos hby, secAt, aside_il (hend _)]
    exact settleAll_spec hst

/-! ### The entry to REST (R14) -/

theorem besideLamps_of_quiet (h : quiet t = quiet s) : besideLamps t = besideLamps s := by
  rw [besideLamps, aside_of_quiet h, quiet_trains h, quiet_demo h, quiet_ring h, besideLamps]

/-- With no run the service cleared drops its queue (R136). -/
theorem besideLamps_clearService {s : State} (hrun : s.demo.run = none) :
    besideLamps (clearService s) = besideLamps (s.withDemo { s.demo with queue := [] }) := by
  have hdrop : quiet (s.demo.queue.foldl (fun s e => raise (.demo (.dropped e.plan)) s) (s.withDemo { s.demo with queue := [] })) =
      quiet (s.withDemo { s.demo with queue := [] }) := foldl_same quiet _ (fun s _ => quiet_raise _ s) _ _
  have hidle : ∀ x : State, x.demo.run = none → abort .serviceClosed x = x := fun x hx => by simp [abort, hx]
  rw [clearService, hidle _ ((congrArg Demo.run (quiet_demo hdrop)).trans hrun)]
  exact besideLamps_of_quiet hdrop

/-- Out of service with no run, the service drops its queue and drives no train (R136). -/
theorem recomputeService_away {s : State} (hmode : s.ctl.mode ≠ .inService) (hrun : s.demo.run = none) :
    (recomputeService s).trains = s.trains ∧ (s.demo.failing.mode = false → (recomputeService s).demo.queue = []) := by
  have hfails : (failingNow s).mode = true := by simpa [failingNow] using hmode
  have hlamps : ∀ {x y : State}, besideLamps x = besideLamps y → y.trains = s.trains ∧ (s.demo.failing.mode = false → y.demo.queue = []) →
      (recomputeLamps x).trains = s.trains ∧ (s.demo.failing.mode = false → (recomputeLamps x).demo.queue = []) :=
    fun {x y} hxy ⟨htrains, hqueue⟩ => by
      have hsame := (besideLamps_recomputeLamps x).trans hxy
      exact ⟨(congrArg (fun b => b.2.1) hsame :).trans htrains, fun h => (besideLamps_queue hsame).trans (hqueue h)⟩
  unfold recomputeService
  dsimp only
  split
  case isTrue hsame =>
    rw [hsame] at hfails
    exact ⟨rfl, fun h => absurd (h.symm.trans hfails) (by decide)⟩
  case isFalse =>
    rw [if_neg (by simp [isOpen, hfails])]
    split
    case isTrue =>
      have hraised : ∀ n : Notice, quiet (raise n (s.withDemo { s.demo with failing := failingNow s })) =
          quiet (s.withDemo { s.demo with failing := failingNow s }) := fun n => quiet_raise n _
      refine hlamps (y := s.withDemo { s.demo with failing := failingNow s, queue := [] }) ?_ ⟨rfl, fun _ => rfl⟩
      rw [besideLamps_clearService ((congrArg Demo.run (quiet_demo (hraised _))).trans hrun), quiet_demo (hraised _)]
      exact besideLamps_of_quiet (quiet_withDemo_congr (hraised _) _)
    case isFalse hold =>
      rw [if_pos (by simp [hfails])]
      refine hlamps (besideLamps_raise _ _) ⟨rfl, fun h => absurd ?_ hold⟩
      simp [hfails, conditionAdded, h]

/-- The ring as the entry to REST leaves it (R14). -/
def restRing (r : Ring) : Ring :=
  { r with service := r.pendingSetting.getD r.running, pendingSetting := none, running := { mode := .full, period := 1000 },
           postCount := 0, overloaded := false, power := some false }

/-- No section disturbed, no retry entry and no latched move. -/
def emptied (s : State) : State :=
  ((s.withIl { s.il with sections := s.il.sections.map (fun e => (e.1, { e.2 with disturbed := false })) }).withEngine
    { s.engine with retry := [] }).withDeck (s.deck.map (fun d => { d with latch := none }))

theorem inner_emptied (h : inner t = inner s) (r : Ring) : inner (emptied (t.withRing r)) = inner (emptied s) := by
  have hread : ∀ (x : State) (r : Ring), inner (emptied (x.withRing r)) = inner (emptied (inner x)) := fun x r => by cases x; rfl
  have hsame : s = s.withRing s.ring := by cases s; rfl
  rw [hread, h, ← hread s s.ring, ← hsame]

/-- REST entered, before the service is recomputed. -/
def rested (s : State) : State := emptied (s.withCtl { s.ctl with pendingRest := none, mode := .rest })

theorem enterRest_eq (s : State) : ∃ x, enterRest s = recomputeService x ∧ inner x = inner (rested s) ∧
    ringRest x.ring = ringRest (restRing s.ring) := by
  refine ⟨_, rfl, ?_⟩
  generalize hs1 : offerPower false (s.withCtl { s.ctl with pendingRest := none, mode := .rest }) = s1
  have hinner : inner s1 = inner (s.withCtl { s.ctl with pendingRest := none, mode := .rest }) := by
    rw [← hs1]
    exact inner_offerPower false _
  have hring : ringRest s1.ring = { ringRest s.ring with power := some false } := by
    rw [← hs1]
    exact ringRest_offerPower false _
  generalize hr : ({ s1.ring with
    service := s1.ring.pendingSetting.getD s1.ring.running, pendingSetting := none,
    running := { mode := .full, period := Config.restPeriod }, postCount := 0, overloaded := false } : Ring) = r
  have hquiet := quiet_discardLatch ((quiet_raise (.mode .rest) _).trans (quiet_expireAll (t := (s1.withRing r).withIl
    { s1.il with sections := s1.il.sections.map (fun e => (e.1, { e.2 with disturbed := false })) }) rfl .rest)) .rest
  refine ⟨(inner_of_quiet hquiet).trans (inner_emptied hinner r), ?_⟩
  have hrest : ringRest r = { restRing (ringRest s1.ring) with power := (ringRest s1.ring).power } := by
    rw [← hr]
    rfl
  refine (congrArg ringRest (quiet_ring hquiet :)).trans (hrest.trans ?_)
  rw [hring]
  rfl

/-- The entry to REST with no run (R14). -/
theorem enterRest_spec {s : State} (hrun : s.demo.run = none) :
    aside (enterRest s) = aside (rested s) ∧ ringRest (enterRest s).ring = ringRest (restRing s.ring) ∧
    (enterRest s).trains = s.trains ∧ (s.demo.failing.mode = false → (enterRest s).demo.queue = []) := by
  obtain ⟨x, hx, hinner, hring⟩ := enterRest_eq s
  have hdemo : x.demo = s.demo := (inner_demo hinner).trans rfl
  have hctl : x.ctl.mode = .rest := (congrArg Control.mode (inner_ctl hinner) :).trans rfl
  obtain ⟨htrains, hqueue⟩ := recomputeService_away (s := x) (by simp [hctl]) (by rw [hdemo]; exact hrun)
  rw [hx]
  exact ⟨(aside_recomputeService x).trans (aside_of_inner hinner), (ringRest_of_motion (motion_recomputeService x)).trans hring,
    htrains.trans ((inner_trains hinner).trans rfl), by rwa [hdemo] at hqueue⟩

/-! ### The sweep setting (R155) -/

theorem quiet_settingTaken (s : State) : quiet (settingTaken s) = quiet (s.withRing
    { s.ring with running := s.ring.pendingSetting.getD s.ring.running, pendingSetting := none }) := by
  unfold settingTaken
  split
  · rename_i v hv
    rw [quiet_raise, hv]
    rfl
  · rename_i hv
    have hsame : ({ s.ring with running := s.ring.pendingSetting.getD s.ring.running, pendingSetting := none } : Ring) = s.ring := by
      rw [hv, Option.getD_none, ← hv]
    rw [hsame]
    cases s
    rfl

/-- The pending setting becomes the running one, and one that changes it restarts the timer (R155). -/
structure NewSetting (r r' : Ring) : Prop where
  running : r'.running = r.pendingSetting.getD r.running
  pending : r'.pendingSetting = none
  timer : r'.timer = if r.pendingSetting.getD r.running = r.running then r.timer
    else some (sweepInterval (r.pendingSetting.getD r.running))
  nextGroup : r'.nextGroup = if r.pendingSetting.getD r.running = r.running then r.nextGroup else 0

/-- A boundary that does not bring REST: Mode Control's work, then the setting. -/
theorem sweepBoundary_awake {s y : State} (hy : modeBoundary s = y) (hring : ringRest y.ring = ringRest s.ring)
    (hmode : y.ctl.mode = .rest → s.ctl.mode = .rest) :
    inner (sweepBoundary s) = inner y ∧ NewSetting s.ring (sweepBoundary s).ring := by
  have hquiet := quiet_settingTaken y
  have hrunning : y.ring.running = s.ring.running := (congrArg Ring.running hring :)
  have hpending : y.ring.pendingSetting = s.ring.pendingSetting := (congrArg Ring.pendingSetting hring :)
  have htimer : y.ring.timer = s.ring.timer := (congrArg Ring.timer hring :)
  have hgroup : y.ring.nextGroup = s.ring.nextGroup := (congrArg Ring.nextGroup hring :)
  have htaken : (settingTaken y).ring =
      { y.ring with running := s.ring.pendingSetting.getD s.ring.running, pendingSetting := none } := by
    rw [quiet_ring hquiet, hrunning, hpending]
    rfl
  have hctl : (settingTaken y).ctl = y.ctl := (quiet_ctl hquiet :)
  have hinner : inner (settingTaken y) = inner y := (inner_of_quiet hquiet).trans (inner_withRing _ _)
  rw [sweepBoundary_eq, hy, hctl, htaken]
  by_cases hsame : s.ring.pendingSetting.getD s.ring.running = s.ring.running
  · rw [if_neg]
    · refine ⟨hinner, ?_, ?_, ?_, ?_⟩
      · rw [htaken]
      · rw [htaken]
      · rw [htaken, if_pos hsame]
        exact htimer
      · rw [htaken, if_pos hsame]
        exact hgroup
    · rintro (h | ⟨h, hnot⟩)
      · exact h hsame
      · exact hnot (hmode h)
  · rw [if_pos (.inl hsame)]
    have hrestart : (timerRestarted (settingTaken y)).ring = { (settingTaken y).ring with
      timer := some (sweepInterval (settingTaken y).ring.running), nextGroup := 0, postponed := false } := rfl
    refine ⟨hinner, ?_, ?_, ?_, ?_⟩
    · rw [hrestart, htaken]
    · rw [hrestart, htaken]
    · rw [hrestart, htaken, if_neg hsame]
    · rw [hrestart, htaken, if_neg hsame]

/-- A boundary that brings REST (R14, R155). -/
theorem sweepBoundary_rest {s y : State} (hy : modeBoundary s = y) (hring : ringRest y.ring = ringRest (restRing s.ring))
    (hmode : y.ctl.mode = .rest) (hawake : s.ctl.mode ≠ .rest) :
    inner (sweepBoundary s) = inner y ∧ ringRest (sweepBoundary s).ring =
      ringRest { restRing s.ring with timer := some 1000, nextGroup := 0, postponed := false } := by
  have hquiet := quiet_settingTaken y
  have hpending : y.ring.pendingSetting = none := (congrArg Ring.pendingSetting hring :)
  have hrunning : y.ring.running = { mode := .full, period := 1000 } := (congrArg Ring.running hring :)
  have htaken : ringRest (settingTaken y).ring = ringRest (restRing s.ring) := by
    refine Eq.trans ?_ hring
    rw [quiet_ring hquiet, hpending, Option.getD_none]
    have hkept : ({ y.ring with running := y.ring.running, pendingSetting := none } : Ring) = y.ring := by rw [← hpending]
    exact congrArg ringRest hkept
  have hctl : (settingTaken y).ctl = y.ctl := (quiet_ctl hquiet :)
  rw [sweepBoundary_eq, hy, hctl, if_pos (.inr ⟨hmode, hawake⟩)]
  refine ⟨(inner_of_quiet hquiet).trans (inner_withRing _ _), ?_⟩
  have hrestart : ringRest (timerRestarted (settingTaken y)).ring = { ringRest (settingTaken y).ring with
    timer := some (sweepInterval (ringRest (settingTaken y).ring).running), nextGroup := 0, postponed := false } := rfl
  have hinterval : sweepInterval { mode := .full, period := 1000 } = 1000 := by decide
  rw [hrestart, htaken]
  exact congrArg (fun v => { ringRest (restRing s.ring) with timer := some v, nextGroup := 0, postponed := false }) hinterval

/-! ### The boundary -/

theorem modeBoundary_waking (h : s.ctl.mode = .waking) (hpend : s.ctl.pendingRest = none) : modeBoundary s = endWaking s := by
  have hctl := (endWaking_spec s).2.1
  have hnone : ¬ ((endWaking s).ctl.mode = .inService ∧ (endWaking s).ctl.pendingRest.isSome = true) := by simp [hctl, hpend]
  unfold modeBoundary
  simp only [h, if_true]
  exact if_neg hnone

theorem modeBoundary_awake (h : s.ctl.mode ≠ .waking) :
    modeBoundary s = if s.ctl.mode = .inService ∧ s.ctl.pendingRest.isSome = true then restBoundary s else s := by
  unfold modeBoundary
  simp only [h, if_false]

/-- A pending REST that finds the layout quiet is entered, and any other is abandoned (R14). -/
theorem restBoundary_cases (s : State) :
    (allStill s = true ∧ deckMoving s = false ∧ s.demo.run = none → restBoundary s = enterRest s) ∧
    (¬ (allStill s = true ∧ deckMoving s = false ∧ s.demo.run = none) → ∃ cause, restBoundary s = abandonRest cause s) := by
  refine ⟨fun ⟨hstill, hdeck, hrun⟩ => by simp [restBoundary, hstill, hdeck, hrun], fun hbusy => ?_⟩
  unfold restBoundary
  split
  · exact ⟨_, rfl⟩
  · split
    · exact ⟨_, rfl⟩
    · split
      · exact ⟨_, rfl⟩
      · rename_i hstill hdeck hrun
        exact absurd ⟨by simpa using hstill, by simpa using hdeck, by simpa using hrun⟩ hbusy

/-- A boundary in WAKING with no REST pending (R11). -/
theorem sweepBoundary_waking (h : s.ctl.mode = .waking) (hpend : s.ctl.pendingRest = none) :
    inner (sweepBoundary s) = inner (endWaking s) ∧ NewSetting s.ring (sweepBoundary s).ring := by
  obtain ⟨hring, hctl, -, -⟩ := endWaking_spec s
  refine sweepBoundary_awake (modeBoundary_waking h hpend) hring fun hrest => ?_
  rw [hctl] at hrest
  cases hrest

/-- A boundary that abandons a pending REST (R14). -/
theorem sweepBoundary_busy (h : s.ctl.mode = .inService) (hpend : s.ctl.pendingRest.isSome = true)
    (hbusy : ¬ (allStill s = true ∧ deckMoving s = false ∧ s.demo.run = none)) :
    inner (sweepBoundary s) = inner (s.withCtl { s.ctl with pendingRest := none }) ∧ NewSetting s.ring (sweepBoundary s).ring := by
  obtain ⟨cause, hcause⟩ := (restBoundary_cases s).2 hbusy
  have hquiet : quiet (abandonRest cause s) = quiet (s.withCtl { s.ctl with pendingRest := none }) := quiet_raise _ _
  have hmode : modeBoundary s = abandonRest cause s := by
    rw [modeBoundary_awake (by simp [h]), if_pos ⟨h, hpend⟩, hcause]
  obtain ⟨hinner, hnew⟩ := sweepBoundary_awake hmode (congrArg ringRest (quiet_ring hquiet :)) fun hrest => by
    rw [quiet_ctl hquiet] at hrest
    exact hrest
  exact ⟨hinner.trans (inner_of_quiet hquiet), hnew⟩

/-- A boundary with no work for Mode Control. -/
theorem sweepBoundary_plain (h : s.ctl.mode ≠ .waking) (hpend : ¬ (s.ctl.mode = .inService ∧ s.ctl.pendingRest.isSome = true)) :
    inner (sweepBoundary s) = inner s ∧ NewSetting s.ring (sweepBoundary s).ring :=
  sweepBoundary_awake (by rw [modeBoundary_awake h, if_neg hpend]) rfl id

/-- A boundary that brings REST (R14). -/
theorem sweepBoundary_resting (h : s.ctl.mode = .inService) (hpend : s.ctl.pendingRest.isSome = true)
    (hquiet : allStill s = true ∧ deckMoving s = false ∧ s.demo.run = none) :
    inner (sweepBoundary s) = inner (enterRest s) ∧ ringRest (sweepBoundary s).ring =
      ringRest { restRing s.ring with timer := some 1000, nextGroup := 0, postponed := false } := by
  obtain ⟨haside, hring, -, -⟩ := enterRest_spec hquiet.2.2
  have hctl : (enterRest s).ctl.mode = .rest := (congrArg Control.mode (aside_ctl haside) :).trans rfl
  exact sweepBoundary_rest (by rw [modeBoundary_awake (by simp [h]), if_pos ⟨h, hpend⟩, (restBoundary_cases s).1 hquiet]) hring hctl
    (by simp [h])

/-- The work of the whole-sweep boundary (R155). -/
theorem boundaryWork_sweepBoundary (s : State) : BoundaryWork s (sweepBoundary s) := by
  refine ⟨fun hawake hwaking => ?_, fun h hpend => ?_, fun h hpend hbusy => ?_, fun ⟨h, hpend, hquiet⟩ => ?_, fun h hpend => ?_⟩
  · have hnew : NewSetting s.ring (sweepBoundary s).ring := by
      by_cases h : s.ctl.mode = .waking
      · exact (sweepBoundary_waking h (hwaking h)).2
      · by_cases hpend : s.ctl.mode = .inService ∧ s.ctl.pendingRest.isSome = true
        · exact (sweepBoundary_busy hpend.1 hpend.2 fun hquiet => hawake ⟨hpend.1, hpend.2, hquiet⟩).2
        · exact (sweepBoundary_plain h hpend).2
    exact ⟨hnew.running, hnew.pending, hnew.timer, hnew.nextGroup⟩
  · obtain ⟨hinner, -⟩ := sweepBoundary_waking h hpend
    obtain ⟨-, hctl, hcommit, hwake⟩ := endWaking_spec s
    have hil : (sweepBoundary s).il = (endWaking s).il := inner_il hinner
    refine ⟨(inner_ctl hinner :).trans hctl, fun hby => ?_, fun hby n st hst => ?_⟩
    · rw [hil]
      exact hcommit hby
    · obtain ⟨y, hy, hsettled⟩ := hwake hby n st hst
      exact ⟨y, by rw [secAt, hil]; exact hy, hsettled⟩
  · obtain ⟨hinner, -⟩ := sweepBoundary_busy h hpend hbusy
    refine ⟨(inner_ctl hinner :).trans rfl, ?_⟩
    have hback := congrArg (fun x : State => x.withCtl s.ctl) hinner
    exact (show inner ((sweepBoundary s).withCtl s.ctl) = (inner (sweepBoundary s)).withCtl s.ctl from rfl).trans
      (hback.trans (by cases s; rfl))
  · obtain ⟨hinner, hring⟩ := sweepBoundary_resting h hpend hquiet
    obtain ⟨haside, -, htrains, hqueue⟩ := enterRest_spec hquiet.2.2
    generalize enterRest s = y at haside htrains hqueue hinner
    generalize sweepBoundary s = t at hinner hring
    have hall : aside t = aside (rested s) := (aside_of_inner hinner).trans haside
    refine ⟨(aside_ctl hall).trans rfl, (inner_trains hinner :).trans htrains, (congrArg Ring.running hring :),
      (congrArg Ring.service hring :), (congrArg Ring.pendingSetting hring :), (congrArg Ring.timer hring :),
      (congrArg Ring.nextGroup hring :), (congrArg Ring.power hring :), (congrArg Ring.postCount hring :),
      (congrArg Ring.overloaded hring :), (aside_engine hall).trans rfl, (aside_deck hall).trans rfl, ?_, fun hmode => ?_⟩
    · rw [aside_il hall]
      rfl
    · rw [inner_demo hinner]
      exact hqueue hmode
  · exact (sweepBoundary_plain h hpend).1

end Sys2Proof.Machine
end

section
/-! PROOFS. The Ring Master's statement: polls, answers, misses and commands (chapter 9). -/

namespace Sys2Proof.Machine

open Sys2Proof

-- One theorem at a time: theorems that wait for each other would hold a thread each.
set_option Elab.async false

variable {s t : State}

/-! ### The outcome that ends a whole sweep (R155) -/

/-- The boundary's work is told by the state without the ring, and by the setting, the timer and the next group. -/
theorem BoundaryWork.congr {x : State} (h : BoundaryWork x t) (hinner : inner x = inner s)
    (hrunning : x.ring.running = s.ring.running) (hpending : x.ring.pendingSetting = s.ring.pendingSetting)
    (htimer : x.ring.timer = s.ring.timer) (hgroup : x.ring.nextGroup = s.ring.nextGroup) : BoundaryWork s t := by
  have hback : inner (t.withCtl x.ctl) = inner x ↔ inner (t.withCtl s.ctl) = inner s := by
    rw [inner_ctl hinner, hinner]
  have hmoving : deckMoving x = deckMoving s := by rw [deckMoving, inner_deck hinner, deckMoving]
  have hstill : allStill x = allStill s := by rw [allStill, inner_trains hinner, allStill]
  have hsec : ∀ n, secAt x n = secAt s n := fun n => by rw [secAt, inner_il hinner, secAt]
  unfold BoundaryWork at h ⊢
  simp only [hback] at h
  rw [hmoving, hstill, hrunning, hpending, htimer, hgroup, inner_ctl hinner, inner_il hinner, inner_trains hinner,
    inner_deck hinner, inner_demo hinner, inner_engine hinner, hinner] at h
  simpa only [hsec] using h

/-- The outcome of the last poll of the last group with no command waiting is the boundary (R155). -/
theorem afterOutcome_boundary (hunder : s.ring.underWay = true) (htodo : s.ring.todo = []) (hwindow : s.ring.window = none)
    (htail : s.ring.restTail = false) (hstop : s.ring.stopRun = []) (hqueue : s.ring.queue = [])
    (hgroup : s.ring.group + 1 = groupsOf s.ring.running.mode) :
    afterOutcome s = sweepBoundary (s.withRing { s.ring with due := 0, underWay := false }) := by
  have hdue : dueAfter s = 0 := by simp [dueAfter, hstop, hqueue]
  have hsettle : afterOutcome s = settleSweep (s.withRing { s.ring with due := 0 }) := by
    unfold afterOutcome
    rw [hdue]
    exact if_neg (by simp [htail])
  have hdone : (partialDone { s.ring with due := 0 } && !s.ring.restTail) = true := by
    simp [partialDone, hunder, htodo, hwindow, htail]
  rw [hsettle, settleSweep]
  exact (if_pos hdone).trans (if_pos hgroup)

/-- A module whose count alone changed takes no part in the sweep. -/
theorem boundaryWork_takeMiss {a : Nat} {m : Module} (hm : findItem s.ring.modules a = some m)
    (hfew : m.state ≠ .active ∨ m.misses < 2) (hunder : s.ring.underWay = true) (htodo : s.ring.todo = [])
    (htail : s.ring.restTail = false) (hstop : s.ring.stopRun = []) (hqueue : s.ring.queue = [])
    (hgroup : s.ring.group + 1 = groupsOf s.ring.running.mode) : BoundaryWork s (takeMiss a s) := by
  have hmiss : ∃ (x : State) (v : Table Module), takeMiss a s = afterOutcome x ∧ inner x = inner s ∧
      x.ring = { s.ring with window := none, modules := v } := by
    have hnoted : inner (missNoted s) = inner s := (inner_of_quiet (quiet_missNoted s)).trans (inner_withRing _ _)
    rw [takeMiss_cases hm]
    by_cases hactive : m.state = .active
    · have hless : m.misses < 2 := hfew.resolve_left (not_not_intro hactive)
      rw [if_pos hactive, if_pos hless]
      refine ⟨updateModule (missNoted s) a (fun m => { m with misses := m.misses + 1 }),
        updateItem s.ring.modules a (fun m => { m with misses := m.misses + 1 }), rfl,
        (inner_withRing _ _).trans hnoted, ?_⟩
      rw [updateModule, State.withRing_ring, ring_missNoted]
    · rw [if_neg hactive]
      exact ⟨missNoted s, s.ring.modules, rfl, hnoted, ring_missNoted s⟩
  obtain ⟨x, v, htaken, hinner, hring⟩ := hmiss
  rw [htaken, afterOutcome_boundary (by rw [hring]; exact hunder) (by rw [hring]; exact htodo) (by rw [hring])
    (by rw [hring]; exact htail) (by rw [hring]; exact hstop) (by rw [hring]; exact hqueue) (by rw [hring]; exact hgroup)]
  refine (boundaryWork_sweepBoundary _).congr ((inner_withRing _ _).trans hinner) ?_ ?_ ?_ ?_ <;>
    rw [State.withRing_ring, hring]

/-! ### The statement -/

theorem exec_goodAnswer_modules {a : Nat} {frame : List Byte} {m : Module} (hwindow : s.ring.window = some a)
    (hm : findItem s.ring.modules a = some m) (hgood : goodFrame a m.kind frame = true) :
    ∃ t, exec (.goodAnswer frame) s = .next t ∧ t.ring.window = none ∧
      moduleView (moduleAt t a) = (m.kind, .active, 0, some (payloadOf frame)) ∧
      (∀ b, b ≠ a → moduleView (moduleAt t b) = moduleView (moduleAt s b)) ∧ t.store = s.store := by
  have hmod : moduleAt s a = m := by simp [moduleAt, hm]
  exact ⟨_, exec_goodAnswer hwindow (by rw [hmod]; exact hgood), takeAnswer_modules frame hm⟩

theorem exec_miss_modules {a : Nat} {got : List Byte} {m : Module} (hwindow : s.ring.window = some a)
    (hm : findItem s.ring.modules a = some m) (hbad : goodFrame a m.kind got = false) :
    ∃ t, exec (.miss got) s = .next t ∧ t.ring.window = none ∧ moduleView (moduleAt t a) =
        (if m.state = .active then (if m.misses < 2 then (m.kind, .active, m.misses + 1, m.data)
          else (m.kind, .failed, 3, m.data)) else moduleView m) ∧
      (∀ b, b ≠ a → moduleView (moduleAt t b) = moduleView (moduleAt s b)) ∧ t.store = s.store ∧
      (m.state = .active → 2 ≤ m.misses → s.ring.todo ≠ [] → MadeSafe a m.kind s t) ∧
      (m.state ≠ .active ∨ m.misses < 2 → s.ring.underWay = true → s.ring.todo = [] → s.ring.restTail = false →
        s.ring.stopRun = [] → s.ring.queue = [] → s.ring.group + 1 = groupsOf s.ring.running.mode → BoundaryWork s t) := by
  have hmod : moduleAt s a = m := by simp [moduleAt, hm]
  obtain ⟨hopen, hself, hother, hstore⟩ := takeMiss_modules hm
  exact ⟨_, exec_miss hwindow (by rw [hmod]; exact hbad), hopen, hself, hother, hstore, takeMiss_madeSafe hm,
    boundaryWork_takeMiss hm⟩

theorem exec_commandSent (h : sendDue s.ring = true) :
    (∀ c l, s.ring.stopRun = c :: l → ∃ t, exec .ringCommandSent s = .next t ∧ t.ring.line = cmdFrame (desc s) c ∧
      (s.ring.underWay = false ∨ s.ring.todo ≠ [] → t = s.withRing
        { s.ring with stopRun := l, due := s.ring.due - 1, line := cmdFrame (desc s) c })) ∧
    (∀ c l, s.ring.stopRun = [] → s.ring.queue = c :: l → ∃ t, exec .ringCommandSent s = .next t ∧
      t.ring.line = cmdFrame (desc s) c ∧
      (s.ring.underWay = false ∨ s.ring.todo ≠ [] → t = s.withRing (refillSlot
        { s.ring with queue := l, due := s.ring.due - 1, line := cmdFrame (desc s) c }))) := by
  have hline : ∀ x : State, (settleSweep x).ring.line = x.ring.line := fun x => (congrArg (·.2.2.2) (posted_settleSweep x) :)
  obtain ⟨hstop, hqueue⟩ := ringCommandSent_spec h
  refine ⟨fun c l hl => ⟨_, hstop c l hl, (hline _).trans rfl, fun hidle => settleSweep_idle hidle⟩,
    fun c l hnone hl => ⟨_, hqueue c l hnone hl, (hline _).trans ?_, fun hidle => settleSweep_idle ?_⟩⟩
  · exact (congrArg Ring.line (ringRest_refillSlot _) :)
  · have hsame := ringRest_refillSlot { s.ring with queue := l, due := s.ring.due - 1, line := cmdFrame (desc s) c }
    obtain hunder | htodo := hidle
    · exact .inl ((congrArg Ring.underWay hsame :).trans hunder)
    · exact .inr fun hnil => htodo ((congrArg Ring.todo hsame :).symm.trans hnil)

/-- Settles O57: an outcome of a poll goes through `takeAnswer` or `takeMiss`, each of which ends at `afterOutcome`; the views
of the module table pass through every owner's work (`wired`), and a boundary is `sweepBoundary`. -/
theorem ringPollsAnswersAndCommands : Obligations.RingPollsAnswersAndCommands := by
  unfold Obligations.RingPollsAnswersAndCommands
  refine ⟨fun a l s hdue htodo => exec_poll hdue htodo, fun a frame m s => exec_goodAnswer_modules,
    fun a got m s => exec_miss_modules, fun s => exec_commandSent, fun c s => ?_, fun x old v s => ?_,
    fun on flags s hover hpower => ?_, fun cause s => quiet_enterWaking cause s, fun a on s => ownerActive_traction a,
    fun s => stopTrains_ring s⟩
  · intro r reaches same put absent full slots
    have hreach : ¬ reaches → cmdReaches s c = false := fun h => by simpa using fun hr => h ((cmdReaches_iff s c).1 hr)
    have hreaches : reaches → cmdReaches s c = true := (cmdReaches_iff s c).2
    obtain ⟨hlost, hstopped, hqueued, hslotted, hjoined⟩ := offer_cases c s
    rw [replaceCmd_eq] at hstopped hqueued
    have hfull : full → _ := fun h : full => offer_full (hreaches h.1) h.2.1 h.2.2
    refine ⟨fun h => hlost (hreach h), fun h => hstopped (hreaches h), fun h => hqueued (hreaches h), fun x h => hslotted x (hreaches h),
      fun h => hjoined (hreaches h), fun h => (hfull h).1, fun l1 x l2 h hover hq hx h1 hlen hslot => ?_,
      fun l1 x l2 w h hover hq hx h1 hlen hslot => ?_, fun h hlamp hnone => (hfull h).2.2 hlamp fun _ => hnone, fun h hcmd => ?_⟩
    · exact ((hfull h).2.1 hover l1 x l2 hq hx h1 hlen).1 hslot
    · exact ((hfull h).2.1 hover l1 x l2 hq hx h1 hlen).2 w hslot
    · obtain ⟨hlamp, hover⟩ : isLamp c = false ∧ ¬ IsOver c := by
        obtain ⟨n, pos, rfl⟩ | ⟨k, sn, rfl⟩ | ⟨on, rfl⟩ := hcmd <;> exact ⟨rfl, by rintro (⟨_, _, h⟩ | ⟨_, _, _, h⟩) <;> cases h⟩
      exact (hfull h).2.2 hlamp fun h => absurd h hover
  · rfl
  · intro t waits
    obtain ⟨hsame, hwaits, hoffers⟩ := tractionAnswer_spec hover hpower
    exact ⟨hsame, fun hne hw => hwaits hne ((powerWaits_iff _).2 hw),
      fun hne hw => hoffers hne (by simpa using fun h => hw ((powerWaits_iff _).1 h))⟩

end Sys2Proof.Machine
end

section
/-! PROOFS. What acceptance does to locks and points (R55): the tables, read by item (chapters 2 and 3). -/

namespace Sys2Proof.Machine

open Sys2Proof

-- One theorem at a time: theorems that wait for each other would hold a thread each.
set_option Elab.async false

variable {s t u : State}

/-! ### Tables -/

theorem updateItem_congr {α : Type} {l : Table α} {k : Nat} {f g : α → α} (h : ∀ a, findItem l k = some a → f a = g a) :
    updateItem l k f = updateItem l k g := by
  induction l with
  | nil => rfl
  | cons e l ih =>
    obtain ⟨i, a⟩ := e
    by_cases hk : i = k
    · have heq : f a = g a := h a (by simp [findItem, hk])
      simp [updateItem, hk, heq]
    · simpa [updateItem, hk] using ih fun b hb => h b (by simpa [findItem, hk] using hb)

theorem updateItem_id {α : Type} (l : Table α) (k : Nat) : updateItem l k (fun a => a) = l := by
  induction l with
  | nil => rfl
  | cons e l ih =>
    obtain ⟨i, a⟩ := e
    by_cases hk : i = k
    · simp [updateItem, hk]
    · simpa [updateItem, hk] using ih

/-- A state whose point's record is changed in a way that leaves it. -/
theorem updatePt_congr {n : Nat} {f g : PtState → PtState} (h : ∀ st, ptAt s n = some st → f st = g st) :
    updatePt s n f = updatePt s n g := by
  rw [updatePt, updateItem_congr h, updatePt]

theorem updatePt_id (s : State) (n : Nat) : updatePt s n (fun st => st) = s := by
  rw [updatePt, updateItem_id]
  rfl

/-! ### Locks and points changed -/

/-- Locks and points have changed: all but aspects, sections and points stays. -/
structure Relocked (s t : State) : Prop where
  rest : unlit (t.withIl s.il) = unlit s
  instances : t.il.instances = s.il.instances
  districts : t.il.districts = s.il.districts
  settled : ∀ n, (secAt t n).map (fun x => (x.occ, x.occupant, x.disturbed)) =
    (secAt s n).map (fun x => (x.occ, x.occupant, x.disturbed))

theorem unlit_withIl_congr (h : unlit t = unlit s) (v : Interlock) : unlit (t.withIl v) = unlit (s.withIl v) := by
  have hread : ∀ x : State, unlit (x.withIl v) = (unlit x).withIl { v with signals := [] } := fun x => by cases x; rfl
  rw [hread, hread, h]

namespace Relocked

protected theorem refl (s : State) : Relocked s s := ⟨by cases s; rfl, rfl, rfl, fun _ => rfl⟩

protected theorem trans (h : Relocked s t) (k : Relocked t u) : Relocked s u where
  rest := (unlit_withIl_congr k.rest s.il).trans h.rest
  instances := k.instances.trans h.instances
  districts := k.districts.trans h.districts
  settled n := (k.settled n).trans (h.settled n)

theorem withIl {v : Interlock} (hinst : v.instances = s.il.instances) (hdistricts : v.districts = s.il.districts)
    (hsettled : ∀ n, (findItem v.sections n).map (fun x => (x.occ, x.occupant, x.disturbed)) =
      (secAt s n).map (fun x => (x.occ, x.occupant, x.disturbed))) : Relocked s (s.withIl v) :=
  ⟨by cases s; rfl, hinst, hdistricts, hsettled⟩

theorem unlit (h : Relocked s t) (k : unlit u = unlit t) : Relocked s u := by
  have hstill := still_of_unlit k
  have hself : Machine.unlit (t.withIl t.il) = Machine.unlit t := by cases t; rfl
  exact h.trans ⟨(unlit_withIl_congr k t.il).trans hself, still_instances hstill, still_districts hstill,
    fun n => by rw [still_secAt hstill]⟩

theorem foldl {α : Type} (h : Relocked s t) {f : State → α → State} (hf : ∀ x a, Relocked x (f x a)) (l : List α) :
    Relocked s (l.foldl f t) := foldl_keeps (Relocked s) f (fun x a hx => hx.trans (hf x a)) l t h

theorem engine (h : Relocked s t) : t.engine = s.engine := (unlit_engine h.rest :)
theorem trains (h : Relocked s t) : t.trains = s.trains := (unlit_trains h.rest :)
theorem demo (h : Relocked s t) : t.demo = s.demo := congrArg (fun x => x.demo) h.rest
theorem deck (h : Relocked s t) : t.deck = s.deck := (unlit_deck h.rest :)
theorem store (h : Relocked s t) : t.store = s.store := (unlit_store h.rest :)
theorem instAt (h : Relocked s t) (k : Nat) : instAt t k = instAt s k := by rw [Machine.instAt, h.instances, Machine.instAt]

theorem tables (h : Relocked s t) : Tables s t := by
  refine ⟨?_, h.districts, h.settled⟩
  have hmargin := margin_of_still (still_of_unlit h.rest)
  rwa [margin_withIl] at hmargin

end Relocked

/-! ### Sections locked -/

theorem unlit_noteSection (n : Nat) (ev : OccEvent) (s : State) : unlit (noteSection n ev s) = unlit s := by
  unfold noteSection
  split
  · exact unlit_raise _ _
  · rfl

theorem relocked_setLock (n : Nat) (l : Option Lock) (s : State) : Relocked s (setLock n l s) := by
  refine Relocked.unlit (Relocked.withIl ?_ ?_ fun m => ?_) (unlit_noteSection n _ _)
  · rfl
  · rfl
  · exact (((Tables.refl s).lockSec n l).settled m :)

theorem secAt_setLock (n m : Nat) (l : Option Lock) (s : State) :
    secAt (setLock n l s) m = if m = n then (secAt s m).map (fun st => { st with lock := l }) else secAt s m := by
  rw [still_secAt (still_setLock n l s)]
  by_cases h : m = n
  · rw [if_pos h, h, secAt_updateSec_same]
  · rw [if_neg h, secAt_updateSec_other _ _ h]

theorem points_setLock (n : Nat) (l : Option Lock) (s : State) : (setLock n l s).il.points = s.il.points :=
  (still_points (still_setLock n l s)).trans rfl

/-- A list of sections locked alike. -/
theorem secAt_lockAll {α : Type} (g : α → Nat) (l : Lock) (xs : List α) (m : Nat) (s : State) :
    secAt (xs.foldl (fun s x => setLock (g x) (some l) s) s) m =
      if ∃ x ∈ xs, g x = m then (secAt s m).map (fun st => { st with lock := some l }) else secAt s m := by
  induction xs generalizing s with
  | nil => simp
  | cons x xs ih =>
    rw [List.foldl_cons, ih, secAt_setLock]
    by_cases hx : m = g x
    · simp [hx, Function.comp_def]
    · simp [hx, Ne.symm hx]

theorem relocked_lockAll {α : Type} (g : α → Nat) (l : Lock) (xs : List α) (s : State) :
    Relocked s (xs.foldl (fun s x => setLock (g x) (some l) s) s) :=
  (Relocked.refl s).foldl (fun x a => relocked_setLock (g a) (some l) x) xs

theorem points_lockAll {α : Type} (g : α → Nat) (l : Lock) (xs : List α) (s : State) :
    (xs.foldl (fun s x => setLock (g x) (some l) s) s).il.points = s.il.points :=
  foldl_same (fun x : State => x.il.points) _ (fun x a => points_setLock (g a) (some l) x) xs s

/-! ### Points locked and commanded -/

/-- A point locked once more (R34). -/
def lockedOnce (pos : Position) (st : PtState) : PtState :=
  { st with locks := st.locks + 1, lockedPos := if st.locks = 0 then pos else st.lockedPos }

theorem unlit_lockPoint (n : Nat) (pos : Position) (s : State) : unlit (lockPoint n pos s) = unlit (updatePt s n (lockedOnce pos)) :=
  unlit_of_quiet (notePoint_blocks n _ _)

/-- Beside the ring and the aspects, a point commanded changes its record alone (R31). -/
theorem unlit_commandPoint_all (n : Nat) (pos : Position) (s : State) :
    unlit (commandPoint n pos s) = unlit (updatePt s n (commandedTo (desc s).params.pointTimeout pos)) := by
  cases hst : ptAt s n with
  | none =>
    have hsame : updatePt s n (commandedTo (desc s).params.pointTimeout pos) = s :=
      (updatePt_congr (g := fun st => st) fun st h => by rw [hst] at h; cases h).trans (updatePt_id s n)
    rw [hsame]
    simp [commandPoint, hst]
  | some st =>
    by_cases h : Rests pos st
    · have hrests : updatePt s n (commandedTo (desc s).params.pointTimeout pos) =
          updatePt s n (fun st => { st with commanded := some pos }) := updatePt_congr fun x hx => by
        obtain rfl := Option.some.inj (hst.symm.trans hx)
        exact if_pos h
      rw [hrests]
      by_cases hproven : st.reported = provenIn pos
      · simp [commandPoint, hst, hproven]
      · obtain ⟨hmoving, hcmd⟩ := h.resolve_left hproven
        have hsame : updatePt s n (fun st => { st with commanded := some pos }) = s :=
          (updatePt_congr (g := fun st => st) fun x hx => by
            obtain rfl := Option.some.inj (hst.symm.trans hx)
            rw [← hcmd]).trans (updatePt_id s n)
        rw [hsame]
        simp only [commandPoint, hst, if_neg hproven, if_pos (And.intro hmoving hcmd)]
    · rw [unlit_commandPoint hst h]
      congr 1
      refine updatePt_congr fun x hx => ?_
      obtain rfl := Option.some.inj (hst.symm.trans hx)
      exact (if_neg h).symm

theorem relocked_updatePt (n : Nat) (f : PtState → PtState) (s : State) : Relocked s (updatePt s n f) :=
  Relocked.withIl rfl rfl fun _ => rfl

theorem relocked_lockPoint (n : Nat) (pos : Position) (s : State) : Relocked s (lockPoint n pos s) :=
  (relocked_updatePt n _ s).unlit (unlit_lockPoint n pos s)

theorem relocked_commandPoint (n : Nat) (pos : Position) (s : State) : Relocked s (commandPoint n pos s) :=
  (relocked_updatePt n _ s).unlit (unlit_commandPoint_all n pos s)

theorem ptAt_of_unlit_updatePt {n : Nat} {f : PtState → PtState} (h : unlit t = unlit (updatePt s n f)) (m : Nat) :
    ptAt t m = if m = n then (ptAt s m).map f else ptAt s m := by
  rw [still_ptAt (still_of_unlit h)]
  by_cases hm : m = n
  · rw [if_pos hm, hm, ptAt_updatePt_same]
  · rw [if_neg hm, ptAt_updatePt_other _ _ hm]

theorem ptAt_lockPoint (n m : Nat) (pos : Position) (s : State) :
    ptAt (lockPoint n pos s) m = if m = n then (ptAt s m).map (lockedOnce pos) else ptAt s m :=
  ptAt_of_unlit_updatePt (unlit_lockPoint n pos s) m

theorem ptAt_commandPoint (n m : Nat) (pos : Position) (s : State) : ptAt (commandPoint n pos s) m =
    if m = n then (ptAt s m).map (commandedTo (desc s).params.pointTimeout pos) else ptAt s m :=
  ptAt_of_unlit_updatePt (unlit_commandPoint_all n pos s) m

theorem sections_lockPoint (n : Nat) (pos : Position) (s : State) : (lockPoint n pos s).il.sections = s.il.sections :=
  (still_sections (still_of_unlit (unlit_lockPoint n pos s))).trans rfl

theorem sections_commandPoint (n : Nat) (pos : Position) (s : State) : (commandPoint n pos s).il.sections = s.il.sections :=
  (still_sections (still_of_unlit (unlit_commandPoint_all n pos s))).trans rfl

theorem Relocked.desc (h : Relocked s t) : desc t = desc s := by rw [Machine.desc, h.store, Machine.desc]

/-! ### The points of a route (R55 steps 3 and 4) -/

/-- A point locked `k` times, none of which is not a change. -/
def lockedTimes (pos : Position) (k : Nat) (st : PtState) : PtState :=
  if k = 0 then st else { st with locks := st.locks + k, lockedPos := if st.locks = 0 then pos else st.lockedPos }

theorem lockedTimes_zero (pos : Position) : lockedTimes pos 0 = id := rfl

theorem lockedTimes_succ (pos : Position) (k : Nat) (st : PtState) :
    lockedTimes pos k (lockedOnce pos st) = lockedTimes pos (k + 1) st := by
  by_cases hk : k = 0
  · simp [lockedTimes, lockedOnce, hk]
  · have hne : st.locks + 1 ≠ 0 := by omega
    simp only [lockedTimes, lockedOnce, hk, hne, Nat.succ_ne_zero k, if_false, Nat.add_assoc, Nat.add_comm 1 k]

/-- A point on a list of points to lock, wherever it stands there in one position. -/
theorem ptAt_lockEach {n : Nat} {pos : Position} {l : List HeldPoint} (h : ∀ g ∈ l, g.point = n → g.pos = pos) (s : State) :
    ptAt (l.foldl (fun s h => lockPoint h.point h.pos s) s) n =
      (ptAt s n).map (lockedTimes pos (l.countP (fun g => g.point == n))) := by
  induction l generalizing s with
  | nil => simp [lockedTimes_zero]
  | cons g l ih =>
    have htail : ∀ x ∈ l, x.point = n → x.pos = pos := fun x hx => h x (List.mem_cons_of_mem _ hx)
    rw [List.foldl_cons, ih htail, ptAt_lockPoint]
    by_cases hg : g.point = n
    · have hpos : g.pos = pos := h g List.mem_cons_self hg
      rw [if_pos hg.symm, List.countP_cons_of_pos (by simpa using hg), Option.map_map, hpos]
      congr 1
      funext st
      exact lockedTimes_succ pos _ st
    · rw [if_neg (Ne.symm hg), List.countP_cons_of_neg (by simpa using hg)]

theorem commandedTo_commandedTo (timeout : Nat) (pos : Position) (st : PtState) :
    commandedTo timeout pos (commandedTo timeout pos st) = commandedTo timeout pos st := by
  by_cases h : st.reported = provenIn pos ∨ (st.reported = .moving ∧ st.commanded = some pos)
  · have hone : commandedTo timeout pos st = { st with commanded := some pos } := if_pos h
    rw [hone]
    exact if_pos (h.imp_right fun ⟨hmoving, _⟩ => ⟨hmoving, rfl⟩)
  · have hone : commandedTo timeout pos st = { st with commanded := some pos, reported := .moving, timer := some timeout } :=
      if_neg h
    rw [hone]
    exact if_pos (.inr ⟨rfl, rfl⟩)

/-- A point on a list of points to command, wherever it stands there in one position (R31). -/
theorem ptAt_commandEach {n : Nat} {pos : Position} {l : List HeldPoint} (h : ∀ g ∈ l, g.point = n → g.pos = pos) (s : State) :
    ptAt (l.foldl (fun s h => commandPoint h.point h.pos s) s) n =
      if ∃ g ∈ l, g.point = n then (ptAt s n).map (commandedTo (desc s).params.pointTimeout pos) else ptAt s n := by
  induction l generalizing s with
  | nil => simp
  | cons g l ih =>
    have htail : ∀ x ∈ l, x.point = n → x.pos = pos := fun x hx => h x (List.mem_cons_of_mem _ hx)
    rw [List.foldl_cons, ih htail, ptAt_commandPoint, (relocked_commandPoint _ _ _).desc]
    by_cases hg : g.point = n
    · have hpos : g.pos = pos := h g List.mem_cons_self hg
      have hin : ∃ x ∈ g :: l, x.point = n := ⟨g, List.mem_cons_self, hg⟩
      rw [if_pos hg.symm, if_pos hin, hpos, Option.map_map]
      split
      · congr 1
        funext st
        exact commandedTo_commandedTo _ _ st
      · rfl
    · rw [if_neg (Ne.symm hg)]
      simp [hg]

/-- A point of a list of points to lock: locked once for each place it has on the list, and commanded when it was free (R31,
R34, R55). -/
theorem ptAt_lockPoints {n : Nat} {pos : Position} {l : List HeldPoint} (h : ∀ g ∈ l, g.point = n → g.pos = pos) (s : State) :
    ptAt (lockPoints l s) n = if ∃ g ∈ l, g.point = n then
      (ptAt s n).map (lockedIn (desc s).params.pointTimeout pos (l.countP (fun g => g.point == n))) else ptAt s n := by
  unfold lockPoints
  extract_lets first
  have hfirst : ∀ g ∈ first, g.point = n → g.pos = pos := fun g hg => h g (List.mem_of_mem_filter hg)
  have hdesc : desc (l.foldl (fun s h => lockPoint h.point h.pos s) s) = desc s :=
    ((Relocked.refl s).foldl (fun x (g : HeldPoint) => relocked_lockPoint g.point g.pos x) l).desc
  rw [ptAt_commandEach hfirst, ptAt_lockEach h, hdesc]
  by_cases hin : ∃ g ∈ l, g.point = n
  · rw [if_pos hin]
    obtain ⟨g, hg, hpoint⟩ := hin
    have hcount : l.countP (fun g => g.point == n) ≠ 0 := by
      rw [Ne, List.countP_eq_zero]
      exact fun hnone => hnone g hg (by simpa using hpoint)
    cases hst : ptAt s n with
    | none => simp
    | some st =>
      have hfree : (∃ g ∈ first, g.point = n) ↔ st.locks = 0 := by
        constructor
        · rintro ⟨g', hg', rfl⟩
          simpa [hst] using (List.mem_filter.1 hg').2
        · intro hlocks
          exact ⟨g, List.mem_filter.2 ⟨hg, by simp [hpoint, hst, hlocks]⟩, hpoint⟩
      simp only [hfree]
      by_cases hlocks : st.locks = 0
      · simp only [if_pos hlocks, Option.map_some, lockedIn, lockedTimes, if_neg hcount]
        congr 1
        unfold commandedTo
        split <;> simp [hlocks]
      · simp only [if_neg hlocks, Option.map_some, lockedIn, lockedTimes, if_neg hcount]
  · have hnone : ¬ ∃ g ∈ first, g.point = n := fun ⟨g, hg, hpoint⟩ => hin ⟨g, List.mem_of_mem_filter hg, hpoint⟩
    have hcount : l.countP (fun g => g.point == n) = 0 := by
      rw [List.countP_eq_zero]
      exact fun g hg hpoint => hin ⟨g, hg, by simpa using hpoint⟩
    rw [if_neg hnone, if_neg hin, hcount, lockedTimes_zero, Option.map_id, id_eq]

theorem relocked_lockPoints (l : List HeldPoint) (s : State) : Relocked s (lockPoints l s) :=
  ((Relocked.refl s).foldl (fun x (g : HeldPoint) => relocked_lockPoint g.point g.pos x) l).foldl
    (fun x (g : HeldPoint) => relocked_commandPoint g.point g.pos x) _

theorem sections_lockPoints (l : List HeldPoint) (s : State) : (lockPoints l s).il.sections = s.il.sections :=
  (foldl_same (fun x : State => x.il.sections) _ (fun x (g : HeldPoint) => sections_commandPoint g.point g.pos x) _ _).trans
    (foldl_same (fun x : State => x.il.sections) _ (fun x (g : HeldPoint) => sections_lockPoint g.point g.pos x) l s)

end Sys2Proof.Machine
end

section
/-! PROOFS. The commands that acceptance offers to the ring (R31, R124, R161). -/

namespace Sys2Proof.Machine

open Sys2Proof

-- One theorem at a time: theorems that wait for each other would hold a thread each.
set_option Elab.async false

variable {s t u : State}

/-! ### A command that waits goes on waiting -/

/-- The queue keeps its places, and the command goes on waiting (R161). -/
structure Keeps (c : RingCmd) (s t : State) : Prop where
  room : s.ring.queue.length ≤ 32 → t.ring.queue.length ≤ 32
  waits : s.ring.queue.length ≤ 32 → WaitsOrFull c s.ring → WaitsOrFull c t.ring
  wires : wired t = wired s

namespace Keeps

variable {c : RingCmd}

protected theorem refl (c : RingCmd) (s : State) : Keeps c s s := ⟨id, fun _ => id, rfl⟩

protected theorem trans (h : Keeps c s t) (k : Keeps c t u) : Keeps c s u :=
  ⟨k.room ∘ h.room, fun hq hw => k.waits (h.room hq) (h.waits hq hw), k.wires.trans h.wires⟩

protected theorem ripples (hc : isShown c = false) (h : Ripples s t) : Keeps c s t :=
  ⟨fun hq => (h.queue hq).1, fun hq => (h.queue hq).2 c hc, wired_of_ground h.same⟩

protected theorem foldl {α : Type} {f : State → α → State} {l : List α} (hf : ∀ x, ∀ a ∈ l, Keeps c x (f x a)) (s : State) :
    Keeps c s (l.foldl f s) :=
  foldl_within (P := Keeps c s) (fun x a ha hx => hx.trans (hf x a ha)) (.refl c s)

/-- The same stop run, queue and slot. -/
theorem sameRing (hstop : t.ring.stopRun = s.ring.stopRun) (hqueue : t.ring.queue = s.ring.queue) (hslot : t.ring.slot = s.ring.slot)
    (hwired : wired t = wired s) : Keeps c s t := by
  refine ⟨fun hq => by rwa [hqueue], fun _ hw => ?_, hwired⟩
  rwa [WaitsOrFull, hstop, hqueue, hslot, ← WaitsOrFull]

/-- The same ring and layout. -/
theorem ring (hring : t.ring = s.ring) (hstore : t.store = s.store) : Keeps c s t :=
  sameRing (by rw [hring]) (by rw [hring]) (by rw [hring]) (by rw [wired, hstore, hring, wired])

end Keeps

/-- A command reaches its module where the layout and the modules' states are the same (R159). -/
theorem cmdReaches_of_wired (h : wired t = wired s) (c : RingCmd) : cmdReaches t c = cmdReaches s c := by
  have hactive : moduleActive t = moduleActive s := by
    funext a
    have hview := congrArg (·.2.1) (moduleView_of_wired h a)
    exact congrArg (fun x : ModState => x == .active) hview
  rw [cmdReaches, desc, store_of_wired h, hactive, cmdReaches, desc]

theorem wired_offer (d : RingCmd) (s : State) : wired (offer d s) = wired s :=
  wired_of_posted (posted_of_inner (inner_offer d s) (ringRest_offer d s))

/-- An offer for another target, or of the command itself. -/
theorem keeps_offer {c d : RingCmd} (h : cmdTarget c ≠ cmdTarget d ∨ c = d) (s : State) : Keeps c s (offer d s) := by
  refine ⟨fun hq => ?_, fun hq hw => ?_, wired_offer d s⟩
  · rw [offer_ring]
    split
    · exact (placeCmd_waits s.ring d hq).2
    · exact hq
  · rw [offer_ring]
    split
    · obtain hne | rfl := h
      · exact (placeCmd_keeps s.ring c d hq hne hw).1
      · exact (placeCmd_waits s.ring c hq).1
    · exact hw

/-- An offer that reaches its module waits (R159, R161). -/
theorem waits_offer {c : RingCmd} (hreach : cmdReaches s c = true) (hq : s.ring.queue.length ≤ 32) :
    WaitsOrFull c (offer c s).ring := by
  rw [offer_ring, if_pos hreach]
  exact (placeCmd_waits s.ring c hq).1

/-! ### The points commanded -/

theorem wired_startPoint (n : Nat) (pos : Position) (s : State) : wired (startPoint n pos s) = wired s :=
  (wired_setNeither n 0 _).trans
    (Eq.trans rfl (wired_offer (.pointMove n pos) (updatePt s n (fun st => { st with commanded := some pos }))))

/-- The start of a move sees the ring through its offer alone. -/
theorem keeps_startPoint (c : RingCmd) (n : Nat) (pos : Position) (s : State) :
    Keeps c (offer (.pointMove n pos) s) (startPoint n pos s) := by
  obtain ⟨hring, -⟩ := startPoint_ring n pos s
  exact .sameRing (congrArg Ring.stopRun hring :) (congrArg Ring.queue hring :) (congrArg Ring.slot hring :)
    ((wired_startPoint n pos s).trans (wired_offer _ s).symm)

theorem ring_commandPoint_rests {n : Nat} {pos : Position} (h : ∀ st, ptAt s n = some st → Rests pos st) :
    (commandPoint n pos s).ring = s.ring := by
  cases hst : ptAt s n with
  | none => simp [commandPoint, hst]
  | some st =>
    rw [(commandPoint_rests hst (h st hst)).2.2]
    rfl

/-- A point commanded leaves a command for another target, or the same command, waiting. -/
theorem keeps_commandPoint {c : RingCmd} (hc : isShown c = false) {n : Nat} {pos : Position}
    (h : cmdTarget c ≠ cmdTarget (.pointMove n pos) ∨ c = .pointMove n pos) (s : State) : Keeps c s (commandPoint n pos s) := by
  by_cases hrests : ∀ st, ptAt s n = some st → Rests pos st
  · have hring := ring_commandPoint_rests hrests
    exact .ring hring (relocked_commandPoint n pos s).store
  · simp only [not_forall] at hrests
    obtain ⟨st, hst, hnot⟩ := hrests
    rw [commandPoint_starts hst hnot]
    exact ((keeps_offer h s).trans (keeps_startPoint c n pos s)).trans
      (.ripples hc (((Ripples.refl _).notePoint n .position).recomputeAll _))

/-- A point that starts to move has its command waiting (R31). -/
theorem waits_commandPoint {n : Nat} {pos : Position} {st : PtState} (hst : ptAt s n = some st) (h : ¬ Rests pos st)
    (hreach : cmdReaches s (.pointMove n pos) = true) (hq : s.ring.queue.length ≤ 32) :
    WaitsOrFull (.pointMove n pos) (commandPoint n pos s).ring :=
  offered_commandPoint hst h hreach hq

theorem keeps_lockPoint (c : RingCmd) (n : Nat) (pos : Position) (s : State) : Keeps c s (lockPoint n pos s) :=
  .ring ((quiet_ring (notePoint_blocks n .lock (updatePt s n (lockedOnce pos)))).trans rfl) (relocked_lockPoint n pos s).store

/-- What is to wait: the command of a point that has not started to move, or one that waits already. -/
def Awaited (c : RingCmd) (n : Nat) (st : PtState) (s : State) : Prop :=
  s.ring.queue.length ≤ 32 ∧ cmdReaches s c = true ∧ (ptAt s n = some st ∨ WaitsOrFull c s.ring)

/-- A list of points commanded leaves the command of a point waiting that it starts to move, wherever it stands there in one
position (R31, R55). -/
theorem waits_commandEach {n : Nat} {pos : Position} {l : List HeldPoint} {st : PtState} (h : ∀ g ∈ l, g.point = n → g.pos = pos)
    (hin : ∃ g ∈ l, g.point = n) (hst : ptAt s n = some st) (hnot : ¬ Rests pos st)
    (hreach : cmdReaches s (.pointMove n pos) = true) (hq : s.ring.queue.length ≤ 32) :
    WaitsOrFull (.pointMove n pos) (l.foldl (fun s g => commandPoint g.point g.pos s) s).ring := by
  obtain ⟨g, hg, hpoint⟩ := hin
  have hkeeps : ∀ x, ∀ a ∈ l, Keeps (.pointMove n pos) x (commandPoint a.point a.pos x) := fun x a ha =>
    keeps_commandPoint rfl (by
      by_cases hn : a.point = n
      · exact .inr (by rw [h a ha hn, hn])
      · exact .inl (by simpa [cmdTarget] using Ne.symm hn)) x
  have hcommands : ∀ x, ∀ a ∈ l, a.point = n → Awaited (.pointMove n pos) n st x →
      WaitsOrFull (.pointMove n pos) (commandPoint a.point a.pos x).ring := fun x a ha hn ⟨hroom, hreaches, hwait⟩ => by
    obtain hx | hx := hwait
    · rw [h a ha hn, hn]
      exact waits_commandPoint hx hnot hreaches hroom
    · exact (hkeeps x a ha).waits hroom hx
  refine (foldl_reaches (P := Awaited (.pointMove n pos) n st) (Q := fun x => x.ring.queue.length ≤ 32 ∧
    WaitsOrFull (.pointMove n pos) x.ring) (f := fun s (g : HeldPoint) => commandPoint g.point g.pos s) hg (fun x a ha _ hx => ?_)
    (fun x hx => ⟨(hkeeps x g hg).room hx.1, hcommands x g hg hpoint hx⟩)
    (fun x a ha hx => ⟨(hkeeps x a ha).room hx.1, (hkeeps x a ha).waits hx.1 hx.2⟩) ⟨hq, hreach, .inl hst⟩).2
  refine ⟨(hkeeps x a ha).room hx.1, (cmdReaches_of_wired (hkeeps x a ha).wires _).trans hx.2.1, ?_⟩
  by_cases hn : a.point = n
  · exact .inr (hcommands x a ha hn hx)
  · refine hx.2.2.imp (fun hpt => ?_) ((hkeeps x a ha).waits hx.1)
    rw [ptAt_commandPoint, if_neg (Ne.symm hn)]
    exact hpt

/-- The points of a route leave the command waiting of each that starts to move (R31, R55). -/
theorem waits_lockPoints {n : Nat} {pos : Position} {l : List HeldPoint} {st : PtState} (h : ∀ g ∈ l, g.point = n → g.pos = pos)
    (hin : ∃ g ∈ l, g.point = n) (hst : ptAt s n = some st) (hfree : st.locks = 0) (hnot : ¬ Rests pos st)
    (hreach : cmdReaches s (.pointMove n pos) = true) (hq : s.ring.queue.length ≤ 32) :
    WaitsOrFull (.pointMove n pos) (lockPoints l s).ring := by
  obtain ⟨g, hg, hpoint⟩ := hin
  unfold lockPoints
  extract_lets first
  have hkeeps : Keeps (.pointMove n pos) s (l.foldl (fun s h => lockPoint h.point h.pos s) s) :=
    .foldl (fun x a _ => keeps_lockPoint _ a.point a.pos x) s
  have hlocked : ptAt (l.foldl (fun s h => lockPoint h.point h.pos s) s) n =
      some (lockedTimes pos (l.countP (fun g => g.point == n)) st) := by
    rw [ptAt_lockEach h, hst]
    rfl
  have hsame : ¬ Rests pos (lockedTimes pos (l.countP (fun g => g.point == n)) st) := by
    unfold lockedTimes
    split
    · exact hnot
    · exact hnot
  exact waits_commandEach (fun a ha => h a (List.mem_of_mem_filter ha))
    ⟨g, List.mem_filter.2 ⟨hg, by simp [hpoint, hst, hfree]⟩, hpoint⟩ hlocked hsame
    ((cmdReaches_of_wired hkeeps.wires _).trans hreach) (hkeeps.room hq)

theorem keeps_lockPoints {c : RingCmd} (hc : isShown c = false) {l : List HeldPoint}
    (h : ∀ g ∈ l, cmdTarget c ≠ cmdTarget (.pointMove g.point g.pos) ∨ c = .pointMove g.point g.pos) (s : State) :
    Keeps c s (lockPoints l s) :=
  (Keeps.foldl (fun x (a : HeldPoint) _ => keeps_lockPoint c a.point a.pos x) s).trans
    (.foldl (fun x a ha => keeps_commandPoint hc (h a (List.mem_of_mem_filter ha)) x) _)

/-! ### The deck turned (R124) -/

theorem ripples_noteDeck (ev : DeckEvent) (s : State) : Ripples s (noteDeck ev s) := by
  unfold noteDeck
  split
  · exact (Ripples.refl s).raise _
  · exact .refl s

/-- The start of a move sees the waiting commands through its offer alone. -/
theorem keeps_startMove {c : RingCmd} (hc : isShown c = false) {d : DeckState} {e : DeckEntry} (road : Nat) (sense : ReqSense)
    (req : MoveReq) (hd : s.deck = some d) (he : (desc s).deck = some e) :
    Keeps c (offer (.deckTurn road (resolveSense e.n (startIndex d) road sense)) s) (startMove road sense req s) := by
  have hturned : ∀ f, Keeps c (offer (.deckTurn road (resolveSense e.n (startIndex d) road sense)) s)
      (updateDeck (offer (.deckTurn road (resolveSense e.n (startIndex d) road sense)) s) f) := fun f => .ring rfl rfl
  simp only [startMove, hd, he]
  exact (hturned _).trans (.ripples hc ((ripples_noteDeck _ _).recomputeAll _))

end Sys2Proof.Machine
end

section
/-! PROOFS. The absorption of an overlap by another route (R51, R55 step 1). -/

namespace Sys2Proof.Machine

open Sys2Proof

-- One theorem at a time: theorems that wait for each other would hold a thread each.
set_option Elab.async false

variable {s t u : State}

/-! ### The run under way -/

/-- A run under way goes on, but for its record of instances; the trains and the Route Engine stay. -/
structure RunKept (s t : State) : Prop where
  run : ∀ r, s.demo.run = some r → t.trains = s.trains ∧ ∃ l, t.demo.run = some { r with insts := l }
  engine : t.engine = s.engine

namespace RunKept

protected theorem refl (s : State) : RunKept s s := ⟨fun r hr => ⟨rfl, r.insts, hr⟩, rfl⟩

protected theorem trans (h : RunKept s t) (k : RunKept t u) : RunKept s u := by
  refine ⟨fun r hr => ?_, k.engine.trans h.engine⟩
  obtain ⟨htrains, l, hl⟩ := h.run r hr
  obtain ⟨ktrains, m, hm⟩ := k.run _ hl
  exact ⟨ktrains.trans htrains, m, hm⟩

/-- Work that leaves trains, demonstrations and the Route Engine. -/
theorem same (htrains : t.trains = s.trains) (hdemo : t.demo = s.demo) (hengine : t.engine = s.engine) : RunKept s t :=
  ⟨fun r hr => ⟨htrains, r.insts, by rw [hdemo]; exact hr⟩, hengine⟩

theorem unlit (h : unlit t = unlit s) : RunKept s t := same (unlit_trains h) (congrArg (fun x => x.demo) h) (unlit_engine h)

protected theorem foldl {α : Type} {f : State → α → State} (hf : ∀ x a, RunKept x (f x a)) (l : List α) (s : State) :
    RunKept s (l.foldl f s) := foldl_keeps (RunKept s) f (fun x a hx => hx.trans (hf x a)) l s (.refl s)

/-- With a run under way no demonstration is admitted (R142, R147). -/
protected theorem leaveCancel (slot : Nat) (s : State) : RunKept s (leaveCancel slot s) := by
  refine ⟨fun r hr => ?_, aside_engine (aside_leaveCancel slot s)⟩
  unfold Machine.leaveCancel
  split
  · dsimp only
    split
    · obtain heq | ⟨-, -, -, -, hrun, -⟩ := admissionTest_cases (s.withDemo { s.demo with cancel := s.demo.cancel.filter (· != slot) })
      · rw [heq]
        exact ⟨rfl, r.insts, hr⟩
      · exact absurd (hr.symm.trans hrun) (by simp)
    · exact ⟨rfl, r.insts, hr⟩
  · exact ⟨rfl, r.insts, hr⟩

protected theorem demoFreed (slot : Nat) (s : State) : RunKept s (demoFreed slot s) := by
  have hrecord : RunKept s (s.withDemo { s.demo with
      run := s.demo.run.map (fun r => { r with insts := r.insts.filter (fun e => e.1 != slot) }) }) := by
    refine ⟨fun r hr => ⟨rfl, r.insts.filter (fun e => e.1 != slot), ?_⟩, rfl⟩
    rw [State.withDemo_demo, hr]
    rfl
  exact hrecord.trans (.leaveCancel slot _)

protected theorem ifDemo (q : Party) (slot : Nat) (s : State) : RunKept s (ifDemo q (demoFreed slot) s) := by
  unfold Machine.ifDemo
  split
  · exact .demoFreed slot s
  · exact .refl s

theorem unlockPoint (n : Nat) (s : State) : RunKept s (unlockPoint n s) := by
  have hquiet := notePoint_blocks n .lock (updatePt s n (fun st => { st with locks := st.locks - 1 }))
  exact .same ((quiet_trains hquiet).trans rfl) ((quiet_demo hquiet).trans rfl) ((quiet_engine hquiet).trans rfl)

theorem unlockAll (l : List HeldPoint) (s : State) : RunKept s (unlockAll l s) :=
  .foldl (fun x (h : HeldPoint) => .unlockPoint h.point x) l s

end RunKept

/-! ### Freeing (R71) -/

/-- The test of R71 frees the slot and gives the points back, or does nothing. -/
theorem freeTest_cases (slot : Nat) (s : State) : RunKept s (freeTest slot s) ∧
    (freeTest slot s = s ∨ ∃ i, instAt s slot = some i ∧
      still (freeTest slot s) = still (freeSlot slot (Machine.unlockAll i.held s))) := by
  unfold freeTest
  split
  · exact ⟨.refl s, .inl rfl⟩
  · rename_i i hi
    split
    · extract_lets s1
      have hfreed : unlit (recomputeUpstream i (recomputeEntry i s1)) = unlit (freeSlot slot (Machine.unlockAll i.held s)) := by
        rw [unlit_recomputeUpstream, unlit_recomputeEntry]
        exact unlit_raise _ _
      have hslot : RunKept (Machine.unlockAll i.held s) (freeSlot slot (Machine.unlockAll i.held s)) := .same rfl rfl rfl
      refine ⟨(((RunKept.unlockAll i.held s).trans hslot).trans (.unlit hfreed)).trans (.ifDemo _ slot _), .inr ⟨i, hi, ?_⟩⟩
      rw [still_ifDemo _ (still_demoFreed slot)]
      exact still_of_unlit hfreed
    · exact ⟨.refl s, .inl rfl⟩

/-! ### An instance that loses overlap sections -/

/-- What it does to an instance to have overlap sections absorbed. -/
structure Told (old : Nat) (l : List Nat) (s t : State) : Prop where
  release : Release old s t
  run : RunKept s t
  sections : t.il.sections = s.il.sections
  points : ∀ m, ∃ c, ptAt t m = (ptAt s m).map (fewerLocks c) ∧
    ((∀ i, instAt s old = some i → ∀ h ∈ i.held, h.point ≠ m) → c = 0)
  overlap : ∀ j, instAt t old = some j → ∃ i, instAt s old = some i ∧ j.overlap = i.overlap.filter (fun n => !l.contains n) ∧
    j.held = i.held

theorem fewerLocks_zero : fewerLocks 0 = id := rfl

/-- The instance with its overlap sections lessened, and nothing given back. -/
structure Lessened (old : Nat) (i : Inst) (l : List Nat) (s t : State) : Prop where
  release : Release old s t
  run : RunKept s t
  sections : t.il.sections = s.il.sections
  points : t.il.points = s.il.points
  inst : ∃ j, instAt t old = some j ∧ j.overlap = i.overlap.filter (fun n => !l.contains n) ∧ j.held = i.held

namespace Lessened

variable {old : Nat} {i : Inst} {l : List Nat}

theorem unlit (h : Lessened old i l s t) (k : unlit u = unlit t) : Lessened old i l s u := by
  have hstill := still_of_unlit k
  refine ⟨h.release.unlit k, h.run.trans (.unlit k), (still_sections hstill).trans h.sections,
    (still_points hstill).trans h.points, ?_⟩
  rw [still_instAt hstill]
  exact h.inst

/-- Its overlap release timer is done. -/
theorem updateInst (h : Lessened old i l s t) :
    Lessened old i l s (updateInst t old (fun i => { i with overlapTimer := .done })) := by
  obtain ⟨j, hj, hoverlap, hheld⟩ := h.inst
  exact ⟨h.release.updateInst, h.run.trans (.same rfl rfl rfl), h.sections, h.points, { j with overlapTimer := .done },
    by rw [instAt_updateInst_same, hj]; rfl, hoverlap, hheld⟩

theorem told (h : Lessened old i l s t) (hi : instAt s old = some i) : Told old l s t := by
  refine ⟨h.release, h.run, h.sections, fun m => ⟨0, ?_, fun _ => rfl⟩, fun y hy => ?_⟩
  · rw [ptAt, h.points, fewerLocks_zero, Option.map_id]
    rfl
  · obtain ⟨j, hj, hoverlap, hheld⟩ := h.inst
    obtain rfl := Option.some.inj (hj.symm.trans hy)
    exact ⟨i, hi, hoverlap, hheld⟩

/-- The test of R71 gives back what the instance still holds. -/
theorem freeTest (h : Lessened old i l s t) (hi : instAt s old = some i) : Told old l s (freeTest old t) := by
  obtain ⟨hrun, hsame | ⟨j, hj, hstill⟩⟩ := freeTest_cases old t
  · rw [hsame]
    exact h.told hi
  · obtain ⟨j', hj', -, hheld⟩ := h.inst
    obtain rfl := Option.some.inj (hj'.symm.trans hj)
    refine ⟨h.release.freeTest, h.run.trans hrun, ?_, fun m => ⟨i.held.countP (fun g => g.point == m), ?_, fun hfar => ?_⟩,
      fun y hy => ?_⟩
    · rw [still_sections hstill, freeSlot, State.withIl_il, sections_unlockAll, h.sections]
    · rw [still_ptAt hstill, ptAt, freeSlot, State.withIl_il, ← ptAt, ptAt_unlockAll, ptAt, h.points, ← ptAt, hheld]
    · rw [List.countP_eq_zero]
      exact fun g hg => by simpa using hfar i hi g hg
    · rw [still_instAt hstill, instAt_freeSlot, if_pos rfl] at hy
      cases hy

end Lessened

theorem told_absorbedTold (old receiver : Nat) (l : List Nat) (s : State) : Told old l s (absorbedTold old receiver l s) := by
  cases hi : instAt s old with
  | none =>
    have hsame : absorbedTold old receiver l s = s := by simp [absorbedTold, hi]
    rw [hsame]
    exact ⟨.refl old s, .refl s, rfl, fun m => ⟨0, by rw [fewerLocks_zero, Option.map_id, id_eq], fun _ => rfl⟩,
      fun j hj => by rw [hi] at hj; cases hj⟩
  | some i =>
    generalize hs1 : updateInst s old (fun i => { i with overlap := i.overlap.filter (fun n => !l.contains n) }) = s1
    have hone : Lessened old i l s s1 := by
      rw [← hs1]
      exact ⟨Release.updateInst (.refl old s), .same rfl rfl rfl, rfl, rfl,
        { i with overlap := i.overlap.filter (fun n => !l.contains n) }, by rw [instAt_updateInst_same, hi]; rfl, rfl, rfl⟩
    simp only [absorbedTold, hi, hs1]
    split
    · have htwo : Lessened old i l s (updateInst s1 old (fun i => { i with overlapTimer := .done })) := hone.updateInst
      exact (htwo.unlit ((unlit_recomputeEntry i _).trans (unlit_raise _ _))).freeTest hi
    · exact (hone.unlit (unlit_recomputeEntry i _)).told hi

/-! ### All the absorbed sections -/

/-- Instances of some slots have lost overlap sections, and given back what they held when none was left. -/
structure Lost (olds : List Nat) (s t : State) : Prop where
  tables : Tables s t
  admits : Admissions s t
  run : RunKept s t
  sections : t.il.sections = s.il.sections
  others : ∀ k, k ∉ olds → instAt t k = instAt s k
  held : ∀ k j, instAt t k = some j → ∃ i, instAt s k = some i ∧ j.held = i.held
  points : ∀ m, ∃ c, ptAt t m = (ptAt s m).map (fewerLocks c) ∧
    ((∀ k ∈ olds, ∀ i, instAt s k = some i → ∀ h ∈ i.held, h.point ≠ m) → c = 0)

namespace Lost

variable {olds : List Nat}

protected theorem refl (olds : List Nat) (s : State) : Lost olds s s :=
  ⟨.refl s, .refl s, .refl s, rfl, fun _ _ => rfl, fun _ j hj => ⟨j, hj, rfl⟩,
    fun m => ⟨0, by rw [fewerLocks_zero, Option.map_id, id_eq], fun _ => rfl⟩⟩

protected theorem trans (h : Lost olds s t) (k : Lost olds t u) : Lost olds s u := by
  refine ⟨h.tables.trans k.tables, h.admits.trans k.admits, h.run.trans k.run, k.sections.trans h.sections,
    fun n hn => (k.others n hn).trans (h.others n hn), fun n j hj => ?_, fun m => ?_⟩
  · obtain ⟨y, hy, hjy⟩ := k.held n j hj
    obtain ⟨x, hx, hyx⟩ := h.held n y hy
    exact ⟨x, hx, hjy.trans hyx⟩
  · obtain ⟨c, hc, hzero⟩ := h.points m
    obtain ⟨d, hd, hnone⟩ := k.points m
    refine ⟨c + d, ?_, fun hfar => ?_⟩
    · rw [hd, hc, Option.map_map]
      congr 1
      funext st
      simp only [Function.comp_apply, fewerLocks, Nat.sub_sub]
    · have hfar' : ∀ n ∈ olds, ∀ i, instAt t n = some i → ∀ g ∈ i.held, g.point ≠ m := fun n hn i hi g hg => by
        obtain ⟨x, hx, hheld⟩ := h.held n i hi
        exact hfar n hn x hx g (hheld ▸ hg)
      rw [hzero hfar, hnone hfar']

theorem of_told {old : Nat} {l : List Nat} (hold : old ∈ olds) (h : Told old l s t) : Lost olds s t := by
  refine ⟨h.release.beside.tables, h.release.beside.admits, h.run, h.sections,
    fun k hk => h.release.beside.others k fun heq => hk (heq ▸ hold), fun k j hj => ?_, fun m => ?_⟩
  · by_cases hk : k = old
    · subst hk
      obtain ⟨i, hi, -, hheld⟩ := h.overlap j hj
      exact ⟨i, hi, hheld⟩
    · exact ⟨j, (h.release.beside.others k hk) ▸ hj, rfl⟩
  · obtain ⟨c, hc, hzero⟩ := h.points m
    exact ⟨c, hc, fun hfar => hzero (hfar old hold)⟩

end Lost

theorem mem_distinctSlots (l : List Nat) (k : Nat) : k ∈ distinctSlots l ↔ k ∈ l := by
  induction l with
  | nil => rfl
  | cons a l ih =>
    simp only [distinctSlots, List.mem_cons, List.mem_filter, ih, bne_iff_ne]
    by_cases h : k = a <;> simp [h]

/-- The absorbed sections taken over: they are locked as ROUTE, and their old instances lose them (R51, R55 step 1). -/
theorem absorb_spec (slot : Nat) (taken : List (Nat × Nat)) (s : State) :
    (∃ x, Relocked s x ∧ x.il.points = s.il.points ∧ Lost (distinctSlots (taken.map (·.2))) x (absorb slot taken s)) ∧
    (∀ n, secAt (absorb slot taken s) n = if ∃ e ∈ taken, e.1 = n then
      (secAt s n).map (fun st => { st with lock := some { slot := slot, role := .route } }) else secAt s n) ∧
    (∀ e ∈ taken, ∀ j, instAt (absorb slot taken s) e.2 = some j → e.1 ∉ j.overlap) := by
  unfold absorb
  extract_lets s1
  have htold : ∀ (x : State) (old : Nat), Told old ((taken.filter (fun e => e.2 == old)).map (·.1)) x
      (absorbedTold old slot ((taken.filter (fun e => e.2 == old)).map (·.1)) x) := fun x old => told_absorbedTold old slot _ x
  have hlost : Lost (distinctSlots (taken.map (·.2))) s1 ((distinctSlots (taken.map (·.2))).foldl (fun s old =>
      absorbedTold old slot ((taken.filter (fun e => e.2 == old)).map (·.1)) s) s1) :=
    foldl_within (P := Lost (distinctSlots (taken.map (·.2))) s1) (fun x old hold hx => hx.trans (.of_told hold (htold x old)))
      (.refl _ s1)
  refine ⟨⟨s1, relocked_lockAll _ _ taken s, points_lockAll _ _ taken s, hlost⟩, fun n => ?_, fun e he => ?_⟩
  · rw [secAt, hlost.sections, ← secAt]
    exact secAt_lockAll (fun e : Nat × Nat => e.1) _ taken n s
  · have hmem : e.2 ∈ distinctSlots (taken.map (·.2)) := (mem_distinctSlots _ _).2 (List.mem_map.2 ⟨e, he, rfl⟩)
    have hself : ∀ (x : State), ∀ j, instAt (absorbedTold e.2 slot ((taken.filter (fun a => a.2 == e.2)).map (·.1)) x) e.2 = some j →
        e.1 ∉ j.overlap := fun x j hj hin => by
      obtain ⟨i, -, hoverlap, -⟩ := (htold x e.2).overlap j hj
      rw [hoverlap] at hin
      have hgone := (List.mem_filter.1 hin).2
      rw [Bool.not_eq_true', List.contains_eq_mem, decide_eq_false_iff_not] at hgone
      exact hgone (List.mem_map.2 ⟨e, List.mem_filter.2 ⟨he, by simp⟩, rfl⟩)
    refine foldl_reaches (P := fun _ => True) (Q := fun x => ∀ j, instAt x e.2 = some j → e.1 ∉ j.overlap) hmem
      (fun _ _ _ _ _ => trivial) (fun x _ => hself x) (fun x old _ hx => ?_) trivial
    by_cases hold : e.2 = old
    · rw [← hold]
      exact hself x
    · intro j hj
      exact hx j ((htold x old).release.beside.others e.2 hold ▸ hj)

end Sys2Proof.Machine
end

section
/-! PROOFS. The route taken: instance, sections, points and deck, before its outcome (R55 steps 1 to 5). -/

namespace Sys2Proof.Machine

open Sys2Proof

-- One theorem at a time: theorems that wait for each other would hold a thread each.
set_option Elab.async false

variable {s t u : State}

/-! ### What the checks leave (R50 to R53) -/

/-- Every check of SET-ROUTE has passed. -/
structure Passed (s : State) (r : RouteEntry) : Prop where
  slots : (freeSlotOf s).isSome = true
  sections : sectionsPass s r = true
  points : ∀ h ∈ pointsOf r, pointFails s h.point h.pos = none
  deck : deckCheck s r ≠ .busy

theorem passed_of_checkRoute {party : Party} {route : Nat} {r : RouteEntry} (hr : routeAt s route = some r)
    (h : checkRoute s party route = none) : Passed s r := by
  simp only [checkRoute, hr] at h
  split at h
  · cases h
  · split at h
    · cases h
    · split at h
      · cases h
      · rename_i hslots
        split at h
        · cases h
        · rename_i hsections
          split at h
          · cases h
          · rename_i hpoints
            split at h
            · cases h
            · rename_i hdeck
              refine ⟨by simpa [Option.isSome_iff_ne_none] using hslots, by simpa using hsections, fun g hg => ?_, hdeck⟩
              cases hf : pointFails s g.point g.pos with
              | none => rfl
              | some why =>
                have hmem : why ∈ (pointsOf r).filterMap (fun h => pointFails s h.point h.pos) := List.mem_filterMap.2 ⟨g, hg, hf⟩
                rw [List.head?_eq_none_iff] at hpoints
                rw [hpoints] at hmem
                cases hmem

theorem freeSlotOf_spec {slot : Nat} (h : freeSlotOf s = some slot) :
    slot < 32 ∧ instAt s slot = none ∧ ∀ k, k < slot → (instAt s k).isSome = true := by
  obtain ⟨hfree, hmem, hbefore⟩ := List.find?_range_eq_some.1 h
  refine ⟨List.mem_range.1 hmem, by simpa using hfree, fun k hk => ?_⟩
  simpa [Option.isSome_iff_ne_none] using hbefore k hk

/-- An absorbable section of a route is locked as OVERLAP by the instance in the slot with it. -/
theorem mem_absorbable {r : RouteEntry} {e : Nat × Nat} (h : e ∈ absorbable s r) :
    (∃ x ∈ r.sections, x.1 = e.1) ∧ ∃ st l, secAt s e.1 = some st ∧ st.lock = some l ∧ l.role = .overlap ∧ l.slot = e.2 := by
  obtain ⟨x, hx, hlock⟩ := List.mem_filterMap.1 h
  obtain ⟨l, hl, hrole⟩ := Option.bind_eq_some_iff.1 hlock
  obtain ⟨st, hst, hstl⟩ := Option.bind_eq_some_iff.1 hl
  split at hrole
  · obtain rfl := Option.some.inj hrole
    exact ⟨⟨x, hx, rfl⟩, st, l, hst, hstl, by assumption, rfl⟩
  · cases hrole

/-- The instance that an absorbable section is taken from is live (R51). -/
theorem live_of_absorbable {r : RouteEntry} {e : Nat × Nat} (hp : Passed s r) (h : e ∈ absorbable s r) :
    (instAt s e.2).isSome = true := by
  obtain ⟨⟨x, hx, hxe⟩, st, l, hst, hl, hrole, hslot⟩ := mem_absorbable h
  have hall := hp.sections
  simp only [sectionsPass, Bool.and_eq_true, List.all_eq_true] at hall
  have hfree := hall.1 x hx
  simp only [routeSectionFree, hxe, hst, Option.bind_some, hl, Bool.and_eq_true, beq_iff_eq] at hfree
  obtain ⟨i, hi, -⟩ := Option.bind_eq_some_iff.1 hfree.2
  rw [← hslot, hi]
  rfl

theorem claimOf_pending_iff (c : DeckCheck) : claimOf c = .pending ↔ ∃ road, c = .move road := by
  cases c <;> simp [claimOf]

/-- A deck that has to turn for a route stands ALIGNED and may start to move (R53, R123). -/
theorem deckCheck_move {r : RouteEntry} {road : Nat} (h : deckCheck s r = .move road) :
    ∃ d e, s.deck = some d ∧ (desc s).deck = some e ∧ startFails s e = none := by
  unfold deckCheck at h
  split at h
  · repeat' split at h
    all_goals cases h
  · cases h
  · cases h
  · rename_i req e hreq he
    split at h
    · cases h
    · rename_i j hj
      have hd : ∃ d, s.deck = some d := by
        cases hd : s.deck with
        | none => simp [deckAligned, hd] at hj
        | some d => exact ⟨d, rfl⟩
      obtain ⟨d, hd⟩ := hd
      split at h
      · cases h
      · split at h
        · cases h
        · split at h
          · rename_i hfree
            simp only [Bool.and_eq_true, Option.isNone_iff_eq_none] at hfree
            exact ⟨d, e, hd, he, hfree.2⟩
          · cases h

/-- A deck that may start to move has a section without a lock and an ACTIVE module (R123). -/
theorem startFails_none {e : DeckEntry} (h : startFails s e = none) :
    (∀ st, secAt s e.sec = some st → st.lock = none) ∧ moduleActive s e.addr = true := by
  unfold startFails at h
  split at h
  · cases h
  · split at h
    · cases h
    · split at h
      · cases h
      · rename_i hheld _ hactive
        refine ⟨fun st hst => ?_, by simpa using hactive⟩
        simp only [deckHeld, hst, Option.any_some, Bool.or_eq_true, not_or] at hheld
        simpa using hheld.1

/-- The section of a deck that has to turn is not absorbed. -/
theorem not_deck_of_absorbable {r : RouteEntry} {e : Nat × Nat} (h : e ∈ absorbable s r)
    (hclaim : claimOf (deckCheck s r) = .pending) : isDeckSection s e.1 = false := by
  obtain ⟨road, hroad⟩ := (claimOf_pending_iff _).1 hclaim
  obtain ⟨d, x, -, hx, hstart⟩ := deckCheck_move hroad
  obtain ⟨-, st, l, hst, hl, -⟩ := mem_absorbable h
  rw [Bool.eq_false_iff]
  intro hsec
  have hn : x.sec = e.1 := by simpa [isDeckSection, hx] using hsec
  have hnone := (startFails_none hstart).1 st (by rw [hn]; exact hst)
  rw [hl] at hnone
  cases hnone

/-! ### The sections locked (R55 step 2) -/

theorem relocked_lockSections (slot : Nat) (r : RouteEntry) (taken : List (Nat × Nat)) (ovl : List Nat) (moves : Bool) (s : State) :
    Relocked s (lockSections slot r taken ovl moves s) :=
  (relocked_lockAll (fun n : Nat => n) _ _ s).trans (relocked_lockAll (fun n : Nat => n) _ ovl _)

theorem points_lockSections (slot : Nat) (r : RouteEntry) (taken : List (Nat × Nat)) (ovl : List Nat) (moves : Bool) (s : State) :
    (lockSections slot r taken ovl moves s).il.points = s.il.points :=
  (points_lockAll (fun n : Nat => n) _ ovl _).trans (points_lockAll (fun n : Nat => n) _ _ s)

theorem secAt_lockSections (slot : Nat) (r : RouteEntry) (taken : List (Nat × Nat)) (ovl : List Nat) (moves : Bool) (s : State)
    (n : Nat) : secAt (lockSections slot r taken ovl moves s) n =
      if n ∈ ovl then (secAt s n).map (fun st => { st with lock := some { slot := slot, role := .overlap } })
      else if (∃ x ∈ r.sections, x.1 = n) ∧ (∀ e ∈ taken, e.1 ≠ n) ∧ ¬ (moves = true ∧ isDeckSection s n = true) then
        (secAt s n).map (fun st => { st with lock := some { slot := slot, role := .route } })
      else secAt s n := by
  unfold lockSections
  extract_lets own s1
  have hown : (∃ x ∈ own, x = n) ↔
      (∃ x ∈ r.sections, x.1 = n) ∧ (∀ e ∈ taken, e.1 ≠ n) ∧ ¬ (moves = true ∧ isDeckSection s n = true) := by
    cases moves <;> simp [own]
  rw [secAt_lockAll (fun n : Nat => n) _ ovl n s1, secAt_lockAll (fun n : Nat => n) _ own n s]
  simp only [hown, exists_eq_right]
  by_cases hovl : n ∈ ovl
  · simp only [hovl, if_true]
    split
    · rw [Option.map_map]
      rfl
    · rfl
  · simp only [hovl, if_false]

/-! ### The route taken -/

/-- The state with the new instance. -/
def withNewcomer (party : Party) (route slot : Nat) (r : RouteEntry) (s : State) : State :=
  s.withIl { s.il with
    instances := putItem s.il.instances slot (newInst route r party (claimOf (deckCheck s r)) (overlapHeld s r)) }

/-- The sections of the route taken over and locked. -/
def secured (party : Party) (route slot : Nat) (r : RouteEntry) (s : State) : State :=
  lockSections slot r (absorbable s r) (overlapHeld s r) (claimOf (deckCheck s r) == .pending)
    (absorb slot (absorbable s r) (withNewcomer party route slot r s))

/-- The points locked and commanded too. -/
def pointed (party : Party) (route slot : Nat) (r : RouteEntry) (s : State) : State :=
  lockPoints (pointsOf r) (secured party route slot r s)

/-- The deck turned, when it has to. -/
def taken (party : Party) (route slot : Nat) (r : RouteEntry) (s : State) : State :=
  match deckCheck s r with
  | .move road => startMove road .short (.inst slot party) (pointed party route slot r s)
  | _ => pointed party route slot r s

/-- The record told, the aspects recomputed and the test of R61 (R55 steps 7 and 8). -/
def concluded (party : Party) (route slot : Nat) (r : RouteEntry) (l : List (Nat × Nat)) (s : State) : State :=
  setTest slot (recomputeAll (r.sections.flatMap (fun x => sectionSignals (raise (.route (.setting slot route party l)) s) x.1))
    (raise (.route (.setting slot route party l)) s))

theorem acceptRoute_eq (party : Party) (route slot : Nat) (r : RouteEntry) (outcome : State → State) (s : State) :
    acceptRoute party route slot r outcome s =
      concluded party route slot r (absorbable s r) (outcome (taken party route slot r s)) := rfl

/-! ### Before the deck -/

section

variable {party : Party} {route slot : Nat} {r : RouteEntry}

theorem instAt_withNewcomer (k : Nat) : instAt (withNewcomer party route slot r s) k =
    if k = slot then some (newInst route r party (claimOf (deckCheck s r)) (overlapHeld s r)) else instAt s k := by
  by_cases hk : k = slot
  · rw [if_pos hk, hk]
    exact findItem_putItem_same _ _ _
  · rw [if_neg hk]
    exact findItem_putItem_other _ _ _ _ hk

/-- The slots of the absorbed instances. -/
theorem mem_absorbedSlots (k : Nat) : k ∈ distinctSlots ((absorbable s r).map (·.2)) ↔ ∃ e ∈ absorbable s r, e.2 = k := by
  rw [mem_distinctSlots, List.mem_map]

/-- What the new instance, the absorption and the locks of sections leave and bring. -/
structure Secured (party : Party) (route slot : Nat) (r : RouteEntry) (s t : State) : Prop where
  tables : Tables s t
  admits : Admissions s t
  run : RunKept s t
  inst : instAt t slot = some (newInst route r party (claimOf (deckCheck s r)) (overlapHeld s r))
  others : ∀ k, k ≠ slot → (∀ e ∈ absorbable s r, e.2 ≠ k) → instAt t k = instAt s k
  overlap : ∀ e ∈ absorbable s r, ∀ j, instAt t e.2 = some j → e.1 ∉ j.overlap
  points : ∀ m, ∃ c, ptAt t m = (ptAt s m).map (fewerLocks c) ∧ (PointApart s r m → c = 0)

theorem secured_absorb (hp : Passed s r) (hslot : instAt s slot = none) :
    Secured party route slot r s (absorb slot (absorbable s r) (withNewcomer party route slot r s)) := by
  obtain ⟨⟨x, hx, hxpoints, hlost⟩, -, hoverlap⟩ := absorb_spec slot (absorbable s r) (withNewcomer party route slot r s)
  have hlive : ∀ e ∈ absorbable s r, e.2 ≠ slot := fun e he heq => by
    have hsome := live_of_absorbable hp he
    rw [heq, hslot] at hsome
    cases hsome
  have hnew : Tables s (withNewcomer party route slot r s) := ⟨margin_withIl _ _, rfl, fun _ => rfl⟩
  have hself : RunKept s (withNewcomer party route slot r s) := .same rfl rfl rfl
  have hlocked : RunKept (withNewcomer party route slot r s) x := .same hx.trains hx.demo hx.engine
  have hsame : ∀ k, instAt x k = instAt (withNewcomer party route slot r s) k := hx.instAt
  refine ⟨(hnew.trans hx.tables).trans hlost.tables, ?_, (hself.trans hlocked).trans hlost.run, ?_, fun k hk hfar => ?_, hoverlap,
    fun m => ?_⟩
  · exact (Admissions.same (s := s) (t := x) (hx.trains.trans rfl) (hx.demo.trans rfl)).trans hlost.admits
  · rw [hlost.others slot fun hmem => by
      obtain ⟨e, he, heq⟩ := (mem_absorbedSlots slot).1 hmem
      exact hlive e he heq, hsame, instAt_withNewcomer, if_pos rfl]
  · rw [hlost.others k fun hmem => by
      obtain ⟨e, he, heq⟩ := (mem_absorbedSlots k).1 hmem
      exact hfar e he heq, hsame, instAt_withNewcomer, if_neg hk]
  · obtain ⟨c, hc, hzero⟩ := hlost.points m
    refine ⟨c, ?_, fun hapart => hzero fun k hk i hi => ?_⟩
    · rw [hc, ptAt, hxpoints]
      rfl
    · obtain ⟨e, he, rfl⟩ := (mem_absorbedSlots k).1 hk
      rw [hsame, instAt_withNewcomer, if_neg (hlive e he)] at hi
      exact hapart e he i hi

/-- Locks and points changed later leave the instances, and points by their own. -/
theorem Secured.relocked (h : Secured party route slot r s t) (k : Relocked t u) (hpoints : u.il.points = t.il.points) :
    Secured party route slot r s u := by
  refine ⟨h.tables.trans k.tables, h.admits.trans (.same k.trains k.demo), h.run.trans (.same k.trains k.demo k.engine), ?_,
    fun n hn hfar => ?_, fun e he j hj => ?_, fun m => ?_⟩
  · rw [k.instAt]
    exact h.inst
  · rw [k.instAt]
    exact h.others n hn hfar
  · rw [k.instAt] at hj
    exact h.overlap e he j hj
  · rw [ptAt, hpoints, ← ptAt]
    exact h.points m

theorem secured_spec (hp : Passed s r) (hslot : instAt s slot = none) :
    Secured party route slot r s (secured party route slot r s) :=
  (secured_absorb hp hslot).relocked (relocked_lockSections _ _ _ _ _ _) (points_lockSections _ _ _ _ _ _)

/-- The lock of a section as the acceptance leaves it (R54, R55 step 2). -/
def lockAfter (s : State) (r : RouteEntry) (slot n : Nat) (l : Option Lock) : Option Lock :=
  if n ∈ overlapHeld s r then some { slot := slot, role := .overlap }
  else if (∃ x ∈ r.sections, x.1 = n) ∧ ¬ (claimOf (deckCheck s r) = .pending ∧ isDeckSection s n = true) then
    some { slot := slot, role := .route }
  else l

theorem secAt_secured (n : Nat) : secAt (secured party route slot r s) n =
    (secAt s n).map (fun st => { st with lock := lockAfter s r slot n st.lock }) := by
  obtain ⟨⟨x, hx, -, hlost⟩, hsec, -⟩ := absorb_spec slot (absorbable s r) (withNewcomer party route slot r s)
  have hdesc : isDeckSection (absorb slot (absorbable s r) (withNewcomer party route slot r s)) n = isDeckSection s n := by
    rw [isDeckSection, desc, margin_store hlost.tables.apart, hx.store]
    rfl
  have hself : secAt (withNewcomer party route slot r s) n = secAt s n := rfl
  have hmoves : (claimOf (deckCheck s r) == Claim.pending) = true ↔ claimOf (deckCheck s r) = .pending := beq_iff_eq
  rw [secured, secAt_lockSections, hsec, hdesc, hself]
  simp only [hmoves]
  by_cases hovl : n ∈ overlapHeld s r
  · simp only [hovl, if_true, lockAfter]
    split
    · rw [Option.map_map]
      rfl
    · rfl
  · simp only [hovl, if_false, lockAfter]
    by_cases htaken : ∃ e ∈ absorbable s r, e.1 = n
    · obtain ⟨e, he, rfl⟩ := htaken
      have hin := (mem_absorbable he).1
      have hdeck : ¬ (claimOf (deckCheck s r) = .pending ∧ isDeckSection s e.1 = true) := fun ⟨hclaim, hsection⟩ => by
        rw [not_deck_of_absorbable he hclaim] at hsection
        cases hsection
      rw [if_neg fun h => h.2.1 e he rfl, if_pos ⟨e, he, rfl⟩]
      simp only [hin, hdeck, not_false_eq_true, and_self, if_true]
    · have hfar : ∀ e ∈ absorbable s r, e.1 ≠ n := fun e he heq => htaken ⟨e, he, heq⟩
      have hown : ((∃ x ∈ r.sections, x.1 = n) ∧ (∀ e ∈ absorbable s r, e.1 ≠ n) ∧
          ¬ (claimOf (deckCheck s r) = .pending ∧ isDeckSection s n = true)) ↔
          ((∃ x ∈ r.sections, x.1 = n) ∧ ¬ (claimOf (deckCheck s r) = .pending ∧ isDeckSection s n = true)) :=
        ⟨fun h => ⟨h.1, h.2.2⟩, fun h => ⟨h.1, hfar, h.2⟩⟩
      rw [if_neg htaken]
      simp only [hown]
      by_cases hlock : (∃ x ∈ r.sections, x.1 = n) ∧ ¬ (claimOf (deckCheck s r) = .pending ∧ isDeckSection s n = true)
      · simp only [if_pos hlock]
      · simp only [if_neg hlock]
        cases secAt s n <;> rfl

end

end Sys2Proof.Machine
end

section
/-! PROOFS. A route accepted (R55). -/

namespace Sys2Proof.Machine

open Sys2Proof

-- One theorem at a time: theorems that wait for each other would hold a thread each.
set_option Elab.async false

variable {s t u : State}

/-! ### The test of R61 on a new instance (R55 step 8) -/

theorem updateInst_self {slot : Nat} {i : Inst} (hi : instAt s slot = some i) : updateInst s slot (fun _ => i) = s := by
  have hsame : updateItem s.il.instances slot (fun _ => i) = s.il.instances :=
    (updateItem_congr (g := fun a => a) fun a ha => Option.some.inj (hi.symm.trans ha)).trans (updateItem_id _ _)
  rw [updateInst, hsame]
  rfl

theorem unlit_updateInst_congr (h : unlit t = unlit s) (slot : Nat) (f : Inst → Inst) :
    unlit (updateInst t slot f) = unlit (updateInst s slot f) := by
  have hread : ∀ x : State, unlit (updateInst x slot f) =
      (unlit x).withIl { (unlit x).il with instances := updateItem (unlit x).il.instances slot f } := fun x => by cases x; rfl
  rw [hread, hread, h]

/-- An instance in SETTING whose first section no train has passed stays, or becomes SET (R61). -/
theorem unlit_setTest {slot : Nat} {i : Inst} (hi : instAt s slot = some i) (hfirst : i.firstPassing = none) :
    ∃ j, (j = i ∨ j = { i with state := .set }) ∧ unlit (setTest slot s) = unlit (updateInst s slot (fun _ => j)) := by
  by_cases hready : setReady s i = true
  · refine ⟨{ i with state := .set }, .inr rfl, ?_⟩
    have hset : updateInst s slot (fun i => { i with state := .set }) = updateInst s slot (fun _ => { i with state := .set }) := by
      rw [updateInst, updateItem_congr (g := fun _ => { i with state := .set }) fun a ha => by
        rw [Option.some.inj (hi.symm.trans ha)], updateInst]
    have hnone : i.firstPassing.isSome = false := by rw [hfirst, Option.isSome_none]
    simp only [setTest, hi, hready, if_true, hnone, Bool.false_eq_true, if_false]
    rw [unlit_recomputeEntry, unlit_of_quiet (quiet_count _ _ _ _), unlit_raise, hset]
  · refine ⟨i, .inl rfl, ?_⟩
    rw [updateInst_self hi]
    simp [setTest, hi, hready]

/-- The conclusion of an acceptance: the new instance may become SET, and nothing else changes but reports, aspects and the
ring. -/
theorem concluded_spec {party : Party} {route slot : Nat} {r : RouteEntry} {l : List (Nat × Nat)} {i : Inst}
    (hi : instAt s slot = some i) (hfirst : i.firstPassing = none) :
    Ripples s (concluded party route slot r l s) ∧ ∃ j, (j = i ∨ j = { i with state := .set }) ∧
      unlit (concluded party route slot r l s) = unlit (updateInst s slot (fun _ => j)) := by
  unfold concluded
  generalize hx : raise (.route (.setting slot route party l)) s = x
  have hunlit : ∀ g, unlit (recomputeAll g x) = unlit s := fun g => by rw [unlit_recomputeAll, ← hx, unlit_raise]
  have hripples : Ripples s x := hx ▸ (Ripples.refl s).raise _
  obtain ⟨j, hj, hset⟩ := unlit_setTest (s := recomputeAll (r.sections.flatMap (fun y => sectionSignals x y.1)) x)
    (by rw [still_instAt (still_of_unlit (hunlit _))]; exact hi) hfirst
  refine ⟨(hripples.recomputeAll _).setTest slot, j, hj, hset.trans ?_⟩
  exact unlit_updateInst_congr (hunlit _) slot _

/-! ### The points and the deck of the route (R55 steps 3 to 5) -/

section

variable {party : Party} {route slot : Nat} {r : RouteEntry}

theorem keeps_secured {c : RingCmd} (hc : isShown c = false) : Keeps c s (secured party route slot r s) := by
  have hnew : Keeps c s (withNewcomer party route slot r s) := .ring rfl rfl
  exact hnew.trans (.ripples hc (((Ripples.refl _).absorb slot _).lockSections slot r _ _ _))

/-- A point of the route that is free and not where it is needed has an ACTIVE module (R52). -/
theorem cmdReaches_of_passed (hp : Passed s r) {h : HeldPoint} (hh : h ∈ pointsOf r) {st : PtState} (hst : ptAt s h.point = some st)
    (hfree : st.locks = 0) (hnot : ¬ Rests h.pos st) : cmdReaches s (.pointMove h.point h.pos) = true := by
  have hnone := hp.points h hh
  unfold pointFails at hnone
  rw [hst] at hnone
  cases he : findItem (desc s).points h.point with
  | none => rw [he] at hnone; cases hnone
  | some e =>
    rw [he] at hnone
    refine (cmdReaches_iff s _).2 ⟨e.addr, by simp [cmdModule, he], ?_⟩
    by_contra hidle
    have hlimit : ¬ Config.pointLockLimit ≤ st.locks := by
      rw [hfree]
      decide
    have hlocks : ¬ 0 < st.locks := by omega
    simp only [hlocks, hlimit, false_and, if_false] at hnone
    rw [if_neg (show ¬ (st.reported = provenIn h.pos ∨ _) from hnot)] at hnone
    have hnever : moduleActive s e.addr = false := by simpa using hidle
    split at hnone
    · cases hnone
    · simp [hnever] at hnone

theorem desc_secured (hp : Passed s r) (hslot : instAt s slot = none) : desc (secured party route slot r s) = desc s := by
  rw [desc, margin_store (secured_spec hp hslot).tables.apart, desc]

/-- A point of the route that starts to move has its command waiting (R31). -/
theorem waits_pointed (hp : Passed s r) (hslot : instAt s slot = none) {h : HeldPoint} (hh : h ∈ pointsOf r)
    (hsame : ∀ g ∈ pointsOf r, g.point = h.point → g.pos = h.pos) {st : PtState} (hst : ptAt s h.point = some st)
    (hfree : st.locks = 0) (hnot : ¬ Rests h.pos st) (hq : s.ring.queue.length ≤ 32) :
    WaitsOrFull (.pointMove h.point h.pos) (pointed party route slot r s).ring := by
  have hkeeps : Keeps (.pointMove h.point h.pos) s (secured party route slot r s) := keeps_secured rfl
  obtain ⟨c, hc, -⟩ := (secured_spec (party := party) (route := route) hp hslot).points h.point
  rw [hst] at hc
  refine waits_lockPoints hsame ⟨h, hh, rfl⟩ hc ?_ hnot ((cmdReaches_of_wired hkeeps.wires _).trans
    (cmdReaches_of_passed hp hh hst hfree hnot)) (hkeeps.room hq)
  simp [fewerLocks, hfree]

theorem keeps_pointed {c : RingCmd} (hc : isShown c = false) (hne : ∀ n pos, cmdTarget c ≠ cmdTarget (.pointMove n pos)) :
    Keeps c s (pointed party route slot r s) :=
  (keeps_secured hc).trans (keeps_lockPoints hc (fun _ _ => .inl (hne _ _)) _)

theorem relocked_pointed : Relocked (secured party route slot r s) (pointed party route slot r s) := relocked_lockPoints _ _

theorem deck_pointed (hp : Passed s r) (hslot : instAt s slot = none) : (pointed party route slot r s).deck = s.deck :=
  relocked_pointed.deck.trans (margin_deck (secured_spec hp hslot).tables.apart)

theorem desc_pointed (hp : Passed s r) (hslot : instAt s slot = none) : desc (pointed party route slot r s) = desc s :=
  relocked_pointed.desc.trans (desc_secured hp hslot)

/-- The deck as the acceptance leaves it (R124). -/
def deckTaken (s : State) (party : Party) (slot : Nat) (r : RouteEntry) : Option DeckState :=
  match deckCheck s r, (desc s).deck with
  | .move road, some e => s.deck.map (fun d => { d with
      pos := .moving (startIndex d) road (resolveSense e.n (startIndex d) road .short), req := some (.inst slot party),
      doubt := 0, timer := some (moveTime (desc s).params
        (stepsOf e.n (startIndex d) road (resolveSense e.n (startIndex d) road .short))) })
  | _, _ => s.deck

/-- The deck turned changes itself, the ring and aspects alone. -/
theorem unlit_taken (hp : Passed s r) (hslot : instAt s slot = none) : unlit (taken party route slot r s) =
    unlit ((pointed party route slot r s).withDeck (deckTaken s party slot r)) := by
  have hdeck := deck_pointed (party := party) (route := route) hp hslot
  have hdesc := desc_pointed (party := party) (route := route) hp hslot
  have hself : ∀ v, v = s.deck → unlit (pointed party route slot r s) = unlit ((pointed party route slot r s).withDeck v) := by
    rintro v rfl
    rw [← hdeck]
    rfl
  unfold taken deckTaken
  cases hcheck : deckCheck s r with
  | move road =>
    obtain ⟨d, e, hd, he, -⟩ := deckCheck_move hcheck
    simp only [he, hd, Option.map_some]
    rw [unlit_startMove road .short (.inst slot party) (hdeck.trans hd) ((congrArg Desc.deck hdesc :).trans he), hdesc]
  | busy => exact hself _ rfl
  | stands => exact hself _ rfl
  | unneeded => exact hself _ rfl

/-- The command of a deck that has to turn waits (R124). -/
theorem waits_taken_deck (hp : Passed s r) (hslot : instAt s slot = none) {road : Nat} (hcheck : deckCheck s r = .move road)
    {d : DeckState} {e : DeckEntry} (hd : s.deck = some d) (he : (desc s).deck = some e) (hq : s.ring.queue.length ≤ 32) :
    WaitsOrFull (.deckTurn road (resolveSense e.n (startIndex d) road .short)) (taken party route slot r s).ring := by
  obtain ⟨d', e', hd', he', hstart⟩ := deckCheck_move hcheck
  obtain rfl := Option.some.inj (hd.symm.trans hd')
  obtain rfl := Option.some.inj (he.symm.trans he')
  have hkeeps : Keeps (.deckTurn road (resolveSense e.n (startIndex d) road .short)) s (pointed party route slot r s) :=
    keeps_pointed rfl fun n pos => by simp [cmdTarget]
  have hreach : cmdReaches s (.deckTurn road (resolveSense e.n (startIndex d) road .short)) = true :=
    (cmdReaches_iff s _).2 ⟨e.addr, by simp [cmdModule, he], (startFails_none hstart).2⟩
  have hoffer := keeps_offer (.inr rfl) (s := pointed party route slot r s)
    (c := .deckTurn road (resolveSense e.n (startIndex d) road .short))
  have hmove := keeps_startMove (c := .deckTurn road (resolveSense e.n (startIndex d) road .short)) rfl road .short (.inst slot party)
    ((deck_pointed (party := party) (route := route) hp hslot).trans hd)
    ((congrArg Desc.deck (desc_pointed (party := party) (route := route) hp hslot) :).trans he)
  have hroom := hkeeps.room hq
  unfold taken
  rw [hcheck]
  exact hmove.waits (hoffer.room hroom) (waits_offer ((cmdReaches_of_wired hkeeps.wires _).trans hreach) hroom)

/-- The command of a point goes on waiting when the deck turns. -/
theorem keeps_taken (hp : Passed s r) (hslot : instAt s slot = none) (n : Nat) (pos : Position) :
    Keeps (.pointMove n pos) (pointed party route slot r s) (taken party route slot r s) := by
  unfold taken
  cases hcheck : deckCheck s r with
  | move road =>
    obtain ⟨d, e, hd, he, -⟩ := deckCheck_move hcheck
    exact (keeps_offer (.inl (by simp [cmdTarget])) _).trans (keeps_startMove rfl road .short (.inst slot party)
      ((deck_pointed hp hslot).trans hd) ((congrArg Desc.deck (desc_pointed hp hslot) :).trans he))
  | busy => exact .refl _ _
  | stands => exact .refl _ _
  | unneeded => exact .refl _ _

end

end Sys2Proof.Machine
end

section
/-! PROOFS. The acceptance of a route, whole (R55). -/

namespace Sys2Proof.Machine

open Sys2Proof

-- One theorem at a time: theorems that wait for each other would hold a thread each.
set_option Elab.async false

variable {s t u : State}

/-! ### What an acceptance reads and leaves -/

/-- A state with the blocks of another that the acceptance, the cancellation and the release of a route change. -/
def resetTo (b t : State) : State :=
  ((((t.withIl b.il).withDeck b.deck).withEngine b.engine).withDemo b.demo).withTrains b.trains

/-- Aspects and an instance are no part of what is left. -/
theorem inner_resetTo_unlit (b : State) {slot : Nat} {f : Inst → Inst} (h : unlit t = unlit (updateInst s slot f)) :
    inner (resetTo b t) = inner (resetTo b s) := by
  have hread : ∀ x : State, inner (resetTo b x) = inner (resetTo b (unlit x)) := fun x => by cases x; rfl
  have hinst : inner (resetTo b (updateInst s slot f)) = inner (resetTo b s) := rfl
  rw [hread t, h, ← hread, hinst]

/-- An outcome leaves the Interlocking Unit, the deck, the ring and the layout. -/
structure Grounded (s t : State) : Prop where
  il : t.il = s.il
  deck : t.deck = s.deck
  ring : t.ring = s.ring
  store : t.store = s.store

/-- What acceptance is to leave, read through blocks that an outcome leaves. -/
theorem Accepted.grounded {party : Party} {route slot : Nat} {r : RouteEntry} (h : Accepted party route slot r s t)
    (k : Grounded t u) : Accepted party route slot r s u := by
  have hinst : ∀ n, instAt u n = instAt t n := fun n => by rw [instAt, k.il, instAt]
  have hsec : ∀ n, secAt u n = secAt t n := fun n => by rw [secAt, k.il, secAt]
  have hpt : ∀ n, ptAt u n = ptAt t n := fun n => by rw [ptAt, k.il, ptAt]
  have hoffered : ∀ c, Offered c s u = Offered c s t := fun c => by rw [Offered, k.ring, Offered]
  unfold Accepted
  simp only [hinst, hsec, hpt, hoffered, k.deck]
  exact h

section

variable {party : Party} {route slot : Nat} {r : RouteEntry}

/-- The route taken, as `Accepted` has it; an outcome and the conclusion follow. -/
structure Taken (party : Party) (route slot : Nat) (r : RouteEntry) (s t : State) : Prop where
  secured : Secured party route slot r s (secured party route slot r s)
  inst : instAt t slot = some (newInst route r party (claimOf (deckCheck s r)) (overlapHeld s r))
  insts : ∀ k, instAt t k = instAt (Machine.secured party route slot r s) k
  sections : ∀ n, secAt t n = (secAt s n).map (fun st => { st with lock := lockAfter s r slot n st.lock })
  far : ∀ n, (∀ h ∈ pointsOf r, h.point ≠ n) → PointApart s r n → ptAt t n = ptAt s n
  near : ∀ h ∈ pointsOf r, (∀ g ∈ pointsOf r, g.point = h.point → g.pos = h.pos) → PointApart s r h.point →
    ptAt t h.point = (ptAt s h.point).map
      (lockedIn (desc s).params.pointTimeout h.pos ((pointsOf r).countP (fun g => g.point == h.point)))
  moves : ∀ h ∈ pointsOf r, (∀ g ∈ pointsOf r, g.point = h.point → g.pos = h.pos) → ∀ st, ptAt s h.point = some st →
    st.locks = 0 → st.reported ≠ provenIn h.pos → ¬ (st.reported = .moving ∧ st.commanded = some h.pos) →
    Offered (.pointMove h.point h.pos) s t
  turns : ∀ road, deckCheck s r = .move road → ∀ d e, s.deck = some d → (desc s).deck = some e →
    Offered (.deckTurn road (resolveSense e.n (startIndex d) road .short)) s t
  room : s.ring.queue.length ≤ 32 → t.ring.queue.length ≤ 32
  deck : t.deck = deckTaken s party slot r

theorem room_pointed (hq : s.ring.queue.length ≤ 32) : (pointed party route slot r s).ring.queue.length ≤ 32 :=
  (keeps_pointed (c := .power true) rfl fun n pos => by simp [cmdTarget]).room hq

theorem taken_spec (hp : Passed s r) (hslot : instAt s slot = none) : Taken party route slot r s (taken party route slot r s) := by
  have hsecured := secured_spec (party := party) (route := route) hp hslot
  have hpointed : Relocked (secured party route slot r s) (pointed party route slot r s) := relocked_pointed
  have hunlit := unlit_taken (party := party) (route := route) hp hslot
  have hstill := still_of_unlit hunlit
  have hinst : ∀ k, instAt (taken party route slot r s) k = instAt (secured party route slot r s) k := fun k => by
    rw [still_instAt hstill, ← hpointed.instAt]
    rfl
  have hpt : ∀ n, ptAt (taken party route slot r s) n = ptAt (pointed party route slot r s) n := fun n => by
    rw [still_ptAt hstill]
    rfl
  have hapart : ∀ n, PointApart s r n → ptAt (secured party route slot r s) n = ptAt s n := fun n hn => by
    obtain ⟨c, hc, hzero⟩ := hsecured.points n
    rw [hc, hzero hn, fewerLocks_zero, Option.map_id, id_eq]
  refine ⟨hsecured, (hinst slot).trans hsecured.inst, hinst, fun n => ?_, fun n hfar hn => ?_, fun h hh hsame hn => ?_,
    fun h hh hsame st hst hfree hproven hmoving hq => ?_, fun road hcheck d e hd he => waits_taken_deck hp hslot hcheck hd he,
    fun hq => ?_, unlit_deck hunlit⟩
  · rw [still_secAt hstill, secAt, State.withDeck_il, pointed, sections_lockPoints, ← secAt, secAt_secured]
  · have hnone : ¬ ∃ g ∈ pointsOf r, g.point = n := fun ⟨g, hg, heq⟩ => hfar g hg heq
    rw [hpt, pointed, ptAt_lockPoints (pos := .normal) (fun g hg heq => absurd heq (hfar g hg)), if_neg hnone, hapart n hn]
  · rw [hpt, pointed, ptAt_lockPoints hsame, if_pos ⟨h, hh, rfl⟩, hapart _ hn, desc_secured hp hslot]
  · have hnot : ¬ Rests h.pos st := fun hrests => hrests.elim hproven hmoving
    exact (keeps_taken hp hslot h.point h.pos).waits (room_pointed hq) (waits_pointed hp hslot hh hsame hst hfree hnot hq)
  · exact (keeps_taken hp hslot 0 .normal).room (room_pointed hq)

/-- What acceptance leaves of the Interlocking Unit and the deck, and what it takes from the state after the outcome. -/
structure Concluded (b s w t : State) : Prop where
  districts : t.il.districts = s.il.districts
  settled : ∀ n, (secAt t n).map (fun x => (x.occ, x.occupant, x.disturbed)) =
    (secAt s n).map (fun x => (x.occ, x.occupant, x.disturbed))
  engine : t.engine = w.engine
  trains : t.trains = w.trains
  demo : t.demo = w.demo
  store : t.store = w.store
  rest : inner (resetTo b t) = inner (resetTo b w)

/-- A route taken and concluded is accepted (R55). -/
theorem accepted_concluded {w : State} (b : State) (hp : Passed s r) (hfree : freeSlotOf s = some slot)
    (k : Grounded (taken party route slot r s) w) :
    Accepted party route slot r s (concluded party route slot r (absorbable s r) w) ∧
      Concluded b s w (concluded party route slot r (absorbable s r) w) := by
  obtain ⟨hslots, hnone, hbefore⟩ := freeSlotOf_spec hfree
  have ht := taken_spec (party := party) (route := route) hp hnone
  have hw : instAt w slot = some (newInst route r party (claimOf (deckCheck s r)) (overlapHeld s r)) := by
    rw [instAt, k.il]
    exact ht.inst
  obtain ⟨hripples, j, hj, hunlit⟩ := concluded_spec (party := party) (route := route) (r := r) (l := absorbable s r) hw rfl
  generalize concluded party route slot r (absorbable s r) w = t at hripples hunlit
  have hstill := still_of_unlit hunlit
  have hself : instAt t slot = some j := by
    rw [still_instAt hstill, instAt_updateInst_same, hw]
    rfl
  have hinst : ∀ n, n ≠ slot → instAt t n = instAt (secured party route slot r s) n := fun n hn => by
    rw [still_instAt hstill, instAt_updateInst_other _ _ hn, instAt, k.il, ← instAt]
    exact ht.insts n
  have hsec : ∀ n, secAt t n = (secAt s n).map (fun st => { st with lock := lockAfter s r slot n st.lock }) := fun n => by
    rw [still_secAt hstill, ← ht.sections n, secAt, updateInst, State.withIl_il, k.il, secAt]
  have hpt : ∀ n, ptAt t n = ptAt (taken party route slot r s) n := fun n => by
    rw [still_ptAt hstill, ptAt, updateInst, State.withIl_il, k.il, ptAt]
  have hdeck : t.deck = deckTaken s party slot r := by
    rw [unlit_deck hunlit, ← ht.deck, ← k.deck]
    rfl
  have hwaits : ∀ c, isShown c = false → Offered c s (taken party route slot r s) → Offered c s t := fun c hc ho hq =>
    (hripples.queue (by rw [k.ring]; exact ht.room hq)).2 c hc (by rw [k.ring]; exact ho hq)
  have hlive : ∀ e ∈ absorbable s r, e.2 ≠ slot := fun e he heq => by
    have hsome := live_of_absorbable hp he
    rw [heq, hnone] at hsome
    cases hsome
  refine ⟨⟨hslots, hnone, hbefore, ⟨j, hself, ?_⟩, fun n st hst => ?_, fun e he i hi => ?_, fun n hn hfar => ?_, fun n hfar hn => ?_,
    fun h hh hsame hn => ?_, fun h hh hsame st hst hlocks hproven hmoving => ?_, fun road hroad => ?_, fun hroad => ?_⟩,
    ⟨?_, fun n => ?_, (unlit_engine hunlit).trans rfl, (unlit_trains hunlit).trans rfl, congrArg (fun x => x.demo) hunlit,
      (unlit_store hunlit).trans rfl, ?_⟩⟩
  · obtain rfl | rfl := hj
    · exact ⟨rfl, rfl, .inl rfl, rfl, rfl, rfl, rfl, rfl, rfl, rfl⟩
    · exact ⟨rfl, rfl, .inr rfl, rfl, rfl, rfl, rfl, rfl, rfl, rfl⟩
  · rw [hsec, hst]
    rfl
  · rw [hinst e.2 (hlive e he)] at hi
    exact ht.secured.overlap e he i hi
  · rw [hinst n hn]
    exact ht.secured.others n hn hfar
  · rw [hpt]
    exact ht.far n hfar hn
  · rw [hpt]
    exact ht.near h hh hsame hn
  · exact hwaits _ rfl (ht.moves h hh hsame st hst hlocks hproven hmoving)
  · obtain ⟨d, e, hd, he, -⟩ := deckCheck_move hroad
    refine ⟨d, e, hd, he, hwaits _ rfl (ht.turns road hroad d e hd he), ?_⟩
    rw [hdeck, deckTaken, hroad, he, hd]
    rfl
  · rw [hdeck, deckTaken]
    split
    · rename_i road _ hcheck _
      exact absurd hcheck (hroad road)
    · rfl
  · have hdistricts : (taken party route slot r s).il.districts = s.il.districts :=
      (still_districts (still_of_unlit (unlit_taken hp hnone))).trans
        (relocked_pointed.districts.trans ht.secured.tables.districts)
    rw [still_districts hstill, ← hdistricts, ← k.il]
    rfl
  · rw [hsec, Option.map_map]
    rfl
  · exact inner_resetTo_unlit b hunlit

end

end Sys2Proof.Machine
end

section
/-! PROOFS. The grants of the Route Engine that accept a route (R48, R55, R59, R144). -/

namespace Sys2Proof.Machine

open Sys2Proof

-- One theorem at a time: theorems that wait for each other would hold a thread each.
set_option Elab.async false

variable {s t u w : State}

/-! ### What the route taken leaves -/

section

variable {party : Party} {route slot : Nat} {r : RouteEntry}

theorem admissions_taken (hp : Passed s r) (hslot : instAt s slot = none) : Admissions s (taken party route slot r s) := by
  have hpointed : Relocked (secured party route slot r s) (pointed party route slot r s) := relocked_pointed
  have hdeck : Admissions (pointed party route slot r s) ((pointed party route slot r s).withDeck (deckTaken s party slot r)) :=
    .same rfl rfl
  exact (((secured_spec hp hslot).admits.trans (.same hpointed.trains hpointed.demo)).trans hdeck).trans
    (.unlit (unlit_taken hp hslot))

theorem runKept_taken (hp : Passed s r) (hslot : instAt s slot = none) : RunKept s (taken party route slot r s) := by
  have hpointed : Relocked (secured party route slot r s) (pointed party route slot r s) := relocked_pointed
  have hdeck : RunKept (pointed party route slot r s) ((pointed party route slot r s).withDeck (deckTaken s party slot r)) :=
    .same rfl rfl rfl
  exact (((secured_spec hp hslot).run.trans (.same hpointed.trains hpointed.demo hpointed.engine)).trans hdeck).trans
    (.unlit (unlit_taken hp hslot))

/-- The route taken changes the blocks of `resetTo` alone. -/
theorem inner_resetTo_taken (hp : Passed s r) (hslot : instAt s slot = none) :
    inner (resetTo s (taken party route slot r s)) = inner s := by
  have hmargin : margin (pointed party route slot r s) = margin s :=
    relocked_pointed.tables.apart.trans (secured_spec hp hslot).tables.apart
  have hread : ∀ x : State, inner (resetTo s x) = inner (resetTo s (margin x)) := fun x => by cases x; rfl
  have hdeck : ∀ (x : State) v, resetTo s (x.withDeck v) = resetTo s x := fun x v => by cases x; rfl
  have hself : resetTo s s = s := by cases s; rfl
  rw [hread, margin_of_still (still_of_unlit (unlit_taken hp hslot)), ← hread, hdeck, hread, hmargin, ← hread, hself]

/-- Reports are no part of what is left. -/
theorem inner_resetTo_quiet (b : State) (h : quiet t = quiet s) : inner (resetTo b t) = inner (resetTo b s) := by
  have hread : ∀ x : State, inner (resetTo b x) = inner (resetTo b (quiet x)) := fun x => by cases x; rfl
  rw [hread, h, ← hread]

theorem store_taken (hp : Passed s r) (hslot : instAt s slot = none) : (taken party route slot r s).store = s.store := by
  have h := inner_resetTo_taken (party := party) (route := route) hp hslot
  generalize taken party route slot r s = x at h ⊢
  exact inner_store (t := resetTo s x) h

end

/-! ### The grant (R48) -/

theorem afterGrant_withEngine (m : Member) (s : State) : ∃ v, afterGrant m s = s.withEngine v := by
  unfold afterGrant
  extract_lets batch k
  split
  · exact ⟨_, rfl⟩
  · exact ⟨_, rfl⟩

/-- The Route Engine after a grant, as the engine and the description before it have it. -/
theorem engine_afterGrant_congr (m : Member) (hengine : t.engine = s.engine) (hstore : t.store = s.store) :
    (afterGrant m t).engine = (afterGrant m s).engine := by
  have hbatch : ∀ p, batchFlag t p = batchFlag s p := fun p => by cases p <;> simp only [batchFlag, desc, hstore]
  simp only [afterGrant, apply_ite State.engine, State.withEngine_engine, hengine, hbatch]

theorem withEngine_afterGrant (m : Member) (s : State) : afterGrant m s = s.withEngine (afterGrant m s).engine := by
  obtain ⟨v, hv⟩ := afterGrant_withEngine m s
  rw [hv]
  rfl

theorem quiet_afterGrant_congr (m : Member) (h : quiet t = quiet s) : quiet (afterGrant m t) = quiet (afterGrant m s) := by
  rw [withEngine_afterGrant m t, withEngine_afterGrant m s,
    engine_afterGrant_congr m (quiet_engine h) (quiet_store h)]
  exact congrArg (fun x : State => x.withEngine (afterGrant m s).engine) h

theorem grounded_afterGrant (m : Member) (s : State) : Grounded s (afterGrant m s) := by
  rw [withEngine_afterGrant]
  exact ⟨rfl, rfl, rfl, rfl⟩

/-! ### An evaluation that accepts (R55) -/

/-- The acceptance of a route leaves what `RouteFrame` names. -/
theorem Concluded.routeFrame {b : State} (h : Concluded b s w t) (m : Member) (hil : b.il = s.il) (hadmits : Admissions b w)
    (hrest : inner (resetTo b w) = inner b) : RouteFrame b (afterGrant m t) := by
  obtain ⟨v, hv⟩ := afterGrant_withEngine m t
  have hsec : ∀ n, secAt b n = secAt s n := fun n => by rw [secAt, hil, secAt]
  rw [hv]
  refine ⟨?_, fun n => ?_, fun x => ?_, h.rest.trans hrest⟩
  · rw [hil]
    exact h.districts
  · rw [hsec]
    exact h.settled n
  · obtain hsame | ⟨hcancel, hrun, r, hr, hx⟩ := hadmits.trainAt_or x
    · refine .inl (Eq.trans ?_ hsame)
      rw [trainAt, trainAt, State.withEngine_trains, h.trains]
    · exact .inr ⟨hcancel, hrun, r, by rw [State.withEngine_demo, h.demo]; exact hr, hx⟩

/-- An evaluation whose checks all pass takes the route, has its outcome and concludes. -/
theorem evaluate_accepts {party : Party} {route : Nat} {r : RouteEntry} {onFail : Failure → State → State}
    {outcome : Nat → State → State} (hr : routeAt s route = some r) (hcheck : checkRoute s party route = none)
    (hground : ∀ slot x, Grounded x (outcome slot x)) :
    ∃ slot, instAt s slot = none ∧ Accepted party route slot r s (evaluate party route onFail outcome s) ∧
      ∀ b, Concluded b s (outcome slot (taken party route slot r s)) (evaluate party route onFail outcome s) := by
  have hp := passed_of_checkRoute hr hcheck
  obtain ⟨slot, hfree⟩ := Option.isSome_iff_exists.1 hp.slots
  have heval : evaluate party route onFail outcome s = acceptRoute party route slot r (outcome slot) s := by
    simp only [evaluate, hcheck, hr, hfree]
  rw [heval, acceptRoute_eq]
  exact ⟨slot, (freeSlotOf_spec hfree).2.1, (accepted_concluded s hp hfree (hground slot _)).1,
    fun b => (accepted_concluded b hp hfree (hground slot _)).2⟩

theorem evaluate_fails {party : Party} {route : Nat} {f : Failure} {onFail : Failure → State → State}
    {outcome : Nat → State → State} (h : checkRoute s party route = some f) :
    evaluate party route onFail outcome s = onFail f s := by
  simp only [evaluate, h]

/-! ### A port's SET-ROUTE -/

theorem grounded_respond (p : PortId) (tag : Byte) (a : Answer) (s : State) : Grounded s (respond p tag a s) :=
  ⟨by simp, by simp, by simp, by simp⟩

theorem Accepted.of_withPorts {party : Party} {route slot : Nat} {r : RouteEntry} {v : Ports}
    (h : Accepted party route slot r (s.withPorts v) t) : Accepted party route slot r s t := h

theorem popHead_withPorts (p : PortId) (s : State) : ∃ v, popHead p s = s.withPorts v := by
  cases p <;> exact ⟨_, rfl⟩

/-- A port's SET-ROUTE is granted and evaluated. -/
theorem setRouteTurn_granted {p : PortId} {tag : Byte} {route option : Nat} (hheads : Heads s p tag (.setRoute route option))
    (hmode : s.ctl.mode = .inService) (hgrant : grantOf s = some (.port p)) :
    setRouteTurn p s = afterGrant (.port p) (portSet p tag route option (popHead p s)) := by
  have hhead : headRequest s p = some { tag := tag, req := .setRoute route option } := hheads.1
  simp [setRouteTurn, hhead, refusesRoutes, hmode, hgrant]

/-- The option says what a failure brings, and nothing of an acceptance. -/
theorem portSet_eq {p : PortId} {tag : Byte} {route option : Nat} (h : option ≤ 1) : ∃ onFail,
    portSet p tag route option s = evaluate (.port p) route onFail (fun i => respond p tag (.accepted i)) s := by
  obtain rfl | rfl := Nat.le_one_iff_eq_zero_or_eq_one.1 h
  · exact ⟨_, rfl⟩
  · exact ⟨_, rfl⟩

/-- A granted SET-ROUTE whose checks all pass is accepted (R44, R55). -/
theorem setRouteTurn_accepts {p : PortId} {tag : Byte} {route option : Nat} {r : RouteEntry}
    (hheads : Heads s p tag (.setRoute route option)) (hoption : option ≤ 1) (hmode : s.ctl.mode = .inService)
    (hgrant : grantOf s = some (.port p)) (hr : routeAt s route = some r) (hcheck : checkRoute s (.port p) route = none) :
    ∃ slot, Accepted (.port p) route slot r s (setRouteTurn p s) ∧
      (setRouteTurn p s).engine = (afterGrant (.port p) s).engine ∧
      RouteFrame (answered p tag (.accepted slot) s) (setRouteTurn p s) := by
  obtain ⟨onFail, heval⟩ := portSet_eq (s := popHead p s) (p := p) (tag := tag) (route := route) hoption
  obtain ⟨v, hv⟩ := popHead_withPorts p s
  rw [setRouteTurn_granted hheads hmode hgrant, heval]
  simp only [answered, hv]
  have hcheck' : checkRoute (s.withPorts v) (.port p) route = none := hcheck
  have hp : Passed (s.withPorts v) r := passed_of_checkRoute (s := s.withPorts v) hr hcheck'
  obtain ⟨slot, hslot, haccepted, hconcluded⟩ := evaluate_accepts (s := s.withPorts v) (onFail := onFail)
    (outcome := fun i => respond p tag (.accepted i)) hr hcheck' fun n x => grounded_respond p tag _ x
  have hrespond : ∀ x, resetTo (respond p tag (.accepted slot) (s.withPorts v)) (respond p tag (.accepted slot) x) =
      respond p tag (.accepted slot) (resetTo (s.withPorts v) x) := fun x => by
    rw [respond_comm p tag _ (f := resetTo (s.withPorts v)) fun n y => by cases p <;> rfl]
    simp [resetTo]
  generalize evaluate (.port p) route onFail (fun i => respond p tag (.accepted i)) (s.withPorts v) = t at haccepted hconcluded ⊢
  refine ⟨slot, (haccepted.grounded (grounded_afterGrant _ _)).of_withPorts, ?_, ?_⟩
  · refine engine_afterGrant_congr _ ?_ ?_
    · rw [(hconcluded s).engine, respond_engine, (runKept_taken hp hslot).engine, State.withPorts_engine]
    · rw [(hconcluded s).store, respond_store, store_taken hp hslot, State.withPorts_store]
  · refine (hconcluded _).routeFrame _ (respond_il p tag _ _) ?_ ?_
    · have hafter : ∀ x, Admissions x (respond p tag (.accepted slot) x) := fun x =>
        .same (respond_trains p tag _ x) (respond_demo p tag _ x)
      have hbefore : Admissions (respond p tag (.accepted slot) (s.withPorts v)) (s.withPorts v) :=
        .same (respond_trains p tag _ _).symm (respond_demo p tag _ _).symm
      exact (hbefore.trans (admissions_taken hp hslot)).trans (hafter _)
    · rw [hrespond]
      exact inner_respond_congr p tag _ (inner_resetTo_taken hp hslot)

end Sys2Proof.Machine
end

section
/-! PROOFS. The grants of the level-2 group: retry and demonstration (R48, R59, R144). -/

namespace Sys2Proof.Machine

open Sys2Proof

-- One theorem at a time: theorems that wait for each other would hold a thread each.
set_option Elab.async false

variable {s t u w : State}

/-! ### The oldest eligible retry entry (R59) -/

section

variable {e : RetryEntry}

theorem retryTurn_granted (hgrant : grantOf s = some .g) (he : oldestEligible s = some e) :
    retryTurn s = afterGrant .g (evalRetry e s) := by
  simp only [retryTurn, hgrant, he, if_true]

/-- What an accepted entry brings: it leaves the list, and the record is told. -/
theorem grounded_queuedSet (slot : Nat) (s : State) :
    Grounded s (raise (.route (.queuedSet e.route e.port slot)) (dropRetry e.route s)) :=
  have h : quiet (raise (.route (.queuedSet e.route e.port slot)) (dropRetry e.route s)) = quiet (dropRetry e.route s) :=
    quiet_raise _ _
  ⟨(quiet_il h :), (quiet_deck h :), (quiet_ring h :), (quiet_store h :)⟩

/-- An eligible entry whose checks all pass is accepted and leaves the list (R59). -/
theorem retryTurn_accepts {r : RouteEntry} (hgrant : grantOf s = some .g) (he : oldestEligible s = some e)
    (hr : routeAt s e.route = some r) (hcheck : checkRoute s (.port e.port) e.route = none) :
    (∃ slot, Accepted (.port e.port) e.route slot r s (retryTurn s)) ∧ RouteFrame s (retryTurn s) ∧
      (retryTurn s).engine = (afterGrant .g (dropRetry e.route s)).engine := by
  have hp := passed_of_checkRoute hr hcheck
  rw [retryTurn_granted hgrant he, evalRetry]
  obtain ⟨slot, hslot, haccepted, hconcluded⟩ := evaluate_accepts (onFail := retryFails e) hr hcheck
    fun n x => grounded_queuedSet (e := e) n x
  generalize evaluate (.port e.port) e.route (retryFails e) _ s = t at haccepted hconcluded ⊢
  have hadmits := admissions_taken (party := .port e.port) (route := e.route) hp hslot
  have hrun := runKept_taken (party := .port e.port) (route := e.route) hp hslot
  have hrest := inner_resetTo_taken (party := .port e.port) (route := e.route) hp hslot
  have hstore := store_taken (party := .port e.port) (route := e.route) hp hslot
  generalize taken (.port e.port) e.route slot r s = x at hconcluded hadmits hrun hrest hstore
  have hraised := quiet_raise (.route (.queuedSet e.route e.port slot)) (dropRetry e.route x)
  generalize raise (.route (.queuedSet e.route e.port slot)) (dropRetry e.route x) = w at hconcluded hraised
  refine ⟨⟨slot, haccepted.grounded (grounded_afterGrant _ _)⟩, (hconcluded s).routeFrame _ rfl ?_ ?_,
    engine_afterGrant_congr _ ?_ ?_⟩
  · exact hadmits.trans (.same (quiet_trains hraised :) (quiet_demo hraised :))
  · exact (inner_resetTo_quiet s hraised).trans hrest
  · rw [(hconcluded s).engine, quiet_engine hraised]
    simp only [dropRetry, State.withEngine_engine, hrun.engine]
  · rw [(hconcluded s).store, quiet_store hraised]
    exact hstore

/-- An eligible entry that is still blocked stays, ineligible, with the new reason (R59). -/
theorem retryTurn_blocked {why : Reason} (hgrant : grantOf s = some .g) (he : oldestEligible s = some e)
    (hcheck : checkRoute s (.port e.port) e.route = some (.blocking why)) :
    retryTurn s = afterGrant .g (s.withEngine { s.engine with retry := s.engine.retry.map (fun x =>
      if x.route = e.route then { x with eligible := false, reason := why } else x) }) := by
  rw [retryTurn_granted hgrant he, evalRetry, evaluate_fails hcheck]
  rfl

/-- An eligible entry that is finally refused leaves the list (R59). -/
theorem retryTurn_final {why : Reason} (hgrant : grantOf s = some .g) (he : oldestEligible s = some e)
    (hcheck : checkRoute s (.port e.port) e.route = some (.final why)) :
    quiet (retryTurn s) = quiet (afterGrant .g (dropRetry e.route s)) := by
  rw [retryTurn_granted hgrant he, evalRetry, evaluate_fails hcheck, retryFails, countRefused]
  exact quiet_afterGrant_congr .g (by rw [quiet_count, quiet_raise])

end

/-! ### The Demonstration Unit's SET-ROUTE (R144) -/

/-- The run after the acceptance of its route in a slot. -/
def nextOfRun (slot : Nat) (r : Run) : Run :=
  { r with insts := r.insts ++ [(slot, r.next)], hand := .none, next := r.next + 1 }

/-- The Demonstration Unit's SET-ROUTE waits and is the group's to grant. -/
structure DemoGranted (r : Run) (pl : PlanEntry) (route : Nat) (s : State) : Prop where
  granted : grantOf s = some .g
  idle : oldestEligible s = none
  mode : s.ctl.mode = .inService
  awake : s.ctl.pendingRest = none
  run : s.demo.run = some r
  fresh : r.hand = .fresh
  going : r.paused = false
  plan : planEntry s r.plan = some pl
  next : pl.routes[r.next - 1]? = some route

section

variable {r : Run} {pl : PlanEntry} {route : Nat}

theorem demoSetTurn_granted (h : DemoGranted r pl route s) : demoSetTurn s =
    afterGrant .g (evaluate .demo route (demoSetFails route) (fun i => updateRun (nextOfRun i)) s) := by
  have hwaits : demoSetWaits s = true := by
    simp [demoSetWaits, setGrantable, h.mode, h.awake, h.run, h.fresh, h.going]
  have heval : evalDemo s = evaluate .demo route (demoSetFails route) (fun i => updateRun (nextOfRun i)) s := by
    simp only [evalDemo, h.run, h.plan, Option.bind_some, h.next]
    rfl
  rw [demoSetTurn, if_pos ⟨h.granted, by rw [h.idle]; rfl, hwaits⟩, heval]

/-- The run whose route is accepted moves on by one and has the instance in its record (R144). -/
theorem demoSetTurn_accepts {x : RouteEntry} (h : DemoGranted r pl route s) (hx : routeAt s route = some x)
    (hcheck : checkRoute s .demo route = none) : ∃ slot r', Accepted .demo route slot x s (demoSetTurn s) ∧
      RouteFrame s (demoSetTurn s) ∧ (demoSetTurn s).trains = s.trains ∧
      (demoSetTurn s).engine = (afterGrant .g s).engine ∧ (demoSetTurn s).demo.run = some r' ∧ r'.plan = r.plan ∧
      r'.train = r.train ∧ r'.next = r.next + 1 ∧ r'.hand = .none ∧ (slot, r.next) ∈ r'.insts := by
  have hp := passed_of_checkRoute hx hcheck
  rw [demoSetTurn_granted h]
  obtain ⟨slot, hslot, haccepted, hconcluded⟩ := evaluate_accepts (onFail := demoSetFails route)
    (outcome := fun i => updateRun (nextOfRun i)) hx hcheck fun n y => ⟨rfl, rfl, rfl, rfl⟩
  generalize evaluate .demo route (demoSetFails route) _ s = t at haccepted hconcluded ⊢
  have hadmits := admissions_taken (party := .demo) (route := route) hp hslot
  have hkept := runKept_taken (party := .demo) (route := route) hp hslot
  have hrest := inner_resetTo_taken (party := .demo) (route := route) hp hslot
  have hstore := store_taken (party := .demo) (route := route) hp hslot
  generalize taken .demo route slot x s = w at hconcluded hadmits hkept hrest hstore
  obtain ⟨htrains, l, hrun⟩ := hkept.run r h.run
  have hmoved : (updateRun (nextOfRun slot) w).demo.run = some (nextOfRun slot { r with insts := l }) := by
    rw [updateRun, State.withDemo_demo, hrun]
    rfl
  have hmoves : Admissions w (updateRun (nextOfRun slot) w) := .inl ⟨rfl, by rw [hmoved, hrun]; rfl, id⟩
  rw [withEngine_afterGrant .g t] at *
  refine ⟨slot, nextOfRun slot { r with insts := l }, haccepted.grounded ⟨rfl, rfl, rfl, rfl⟩, ?_, ?_, ?_, ?_, rfl, rfl, rfl,
    rfl, by simp [nextOfRun]⟩
  · rw [← withEngine_afterGrant]
    exact (hconcluded s).routeFrame .g rfl (hadmits.trans hmoves) hrest
  · exact (hconcluded s).trains.trans htrains
  · exact engine_afterGrant_congr .g ((hconcluded s).engine.trans hkept.engine) ((hconcluded s).store.trans hstore)
  · rw [State.withEngine_demo, (hconcluded s).demo, hmoved]

/-- The request in hand of a run whose route is blocked is BLOCKED (R144). -/
theorem demoSetTurn_blocked {why : Reason} (h : DemoGranted r pl route s)
    (hcheck : checkRoute s .demo route = some (.blocking why)) :
    demoSetTurn s = afterGrant .g (s.withDemo { s.demo with run := some { r with hand := .blocked why } }) := by
  rw [demoSetTurn_granted h, evaluate_fails hcheck, demoSetFails, updateRun, h.run]
  rfl

theorem demoSetTurn_final {why : Reason} (h : DemoGranted r pl route s)
    (hcheck : checkRoute s .demo route = some (.final why)) : demoSetTurn s =
      afterGrant .g (abort (if why = .notHolder then .notHolder else .refused why) (countRefused .demo route s)) := by
  rw [demoSetTurn_granted h, evaluate_fails hcheck, demoSetFails]

end

/-! ### The end of a run (R147) -/

/-- The notice of a train leaves its driver and throttle. -/
theorem driver_noteTrain (k : Nat) (ev : TrainEvent) (s : State) (n : Nat) :
    (trainAt (noteTrain k ev s) n).map (fun x => (x.driver, x.throttle)) =
      (trainAt s n).map (fun x => (x.driver, x.throttle)) := by
  unfold noteTrain
  split
  · rw [trainAt, quiet_trains (quiet_raise _ _), updateSup, updateTrain]
    by_cases hn : n = k
    · subst hn
      rw [State.withTrains_trains, findItem_updateItem_same, Option.map_map]
      rfl
    · rw [State.withTrains_trains, findItem_updateItem_other _ _ _ _ hn]
      rfl
  · rfl

/-- The train of a run that ends has no driver and throttle 0. -/
theorem dropDriver_driver (k : Nat) (s : State) {x : TrainRec} (h : trainAt (dropDriver k s) k = some x) :
    x.driver = none ∧ x.throttle = 0 := by
  have hnoted := driver_noteTrain k .driver (updateTrain s k (fun r => { r with driver := none, throttle := 0 })) k
  rw [← dropDriver, h, trainAt, updateTrain, State.withTrains_trains, findItem_updateItem_same, Option.map_map] at hnoted
  obtain ⟨y, -, hy⟩ := Option.map_eq_some_iff.1 hnoted.symm
  obtain ⟨hdriver, hthrottle⟩ := Prod.mk.inj hy
  exact ⟨hdriver.symm, hthrottle.symm⟩

/-- What an abort leaves: the cancel list has grown by the run's instances in SETTING and SET, and the run's train has no
driver, when no other run follows at once from the queue (R142, R147). -/
theorem abort_leaves {r : Run} (why : AbortReason) (hrun : s.demo.run = some r) :
    (abort why s).demo.cancel = s.demo.cancel ++ (r.insts.map (·.1)).filter (cancellable s) ∧
    ((abort why s).demo.run = none → ∀ x, trainAt (abort why s) r.train = some x → x.driver = none ∧ x.throttle = 0) ∧
    ∀ r', (abort why s).demo.run = some r' → ∃ e ∈ s.demo.queue, e.plan = r'.plan := by
  simp only [abort, hrun]
  generalize hs1 : s.withDemo _ = s1
  obtain ⟨hdemo, -⟩ := noteTrain_others r.train .driver (updateTrain s1 r.train (fun r => { r with driver := none, throttle := 0 }))
  rw [← dropDriver] at hdemo
  have hdriver : ∀ x, trainAt (dropDriver r.train s1) r.train = some x → x.driver = none ∧ x.throttle = 0 := fun x =>
    dropDriver_driver r.train s1
  generalize dropDriver r.train s1 = s2 at hdemo hdriver ⊢
  have hraised : quiet (raise (.demo (.aborted r.plan r.train why)) (count .demoAborted (some .demo) (planDistrict s2 r.plan) s2)) =
      quiet s2 := by rw [quiet_raise, quiet_count]
  generalize raise (.demo (.aborted r.plan r.train why)) _ = s3 at hraised ⊢
  have hlamp : unlamped (recomputeLamp r.plan (s3.withDemo { s3.demo with run := none })) =
      unlamped (s3.withDemo { s3.demo with run := none }) := unlamped_recomputeLamp _ _
  generalize recomputeLamp r.plan (s3.withDemo { s3.demo with run := none }) = s4 at hlamp ⊢
  have hbefore : s3.demo = s1.demo := (quiet_demo hraised).trans hdemo
  have hcancel : s4.demo.cancel = s.demo.cancel ++ (r.insts.map (·.1)).filter (cancellable s) :=
    (unlamped_cancel hlamp).trans (by rw [State.withDemo_demo, hbefore, ← hs1]; rfl)
  have hqueue : s4.demo.queue = s.demo.queue :=
    (unlamped_queue hlamp).trans (by rw [State.withDemo_demo, hbefore, ← hs1]; rfl)
  have hnone : s4.demo.run = none := (unlamped_run hlamp).trans rfl
  have htrains : s4.trains = s2.trains := (unlamped_trains hlamp).trans (quiet_trains hraised :)
  obtain heq | ⟨e, l, pl, hq, -, -, heq⟩ := admissionTest_cases s4
  · rw [heq]
    refine ⟨hcancel, fun _ x hx => hdriver x ?_, fun r' hr' => ?_⟩
    · rw [trainAt, ← htrains]
      exact hx
    · rw [hnone] at hr'
      cases hr'
  · obtain ⟨⟨r1, hr1, hplan, -⟩, hkept, -⟩ := admitHead_leaves e.plan pl s4
    rw [heq]
    refine ⟨hkept.trans hcancel, fun hr' => ?_, fun r' hr' => ⟨e, ?_, ?_⟩⟩
    · rw [hr1] at hr'
      cases hr'
    · rw [← hqueue, hq]
      exact List.mem_cons_self
    · obtain rfl := Option.some.inj (hr1.symm.trans hr')
      exact hplan.symm

/-- A run whose route is finally refused is aborted: no route, section, point or deck changes (R144, R147). -/
theorem demoSetTurn_refused {r : Run} {pl : PlanEntry} {route : Nat} {why : Reason} (h : DemoGranted r pl route s)
    (hcheck : checkRoute s .demo route = some (.final why)) :
    (demoSetTurn s).il = s.il ∧ (demoSetTurn s).deck = s.deck ∧
    (demoSetTurn s).demo.cancel = s.demo.cancel ++ (r.insts.map (·.1)).filter (cancellable s) ∧
    ((demoSetTurn s).demo.run = none →
      ∀ x, trainAt (demoSetTurn s) r.train = some x → x.driver = none ∧ x.throttle = 0) ∧
    ∀ r', (demoSetTurn s).demo.run = some r' → ∃ e ∈ s.demo.queue, e.plan = r'.plan := by
  rw [demoSetTurn_final h hcheck]
  generalize (if why = .notHolder then AbortReason.notHolder else .refused why) = cause
  have hcounted : quiet (countRefused .demo route s) = quiet s := by rw [countRefused, quiet_count]
  generalize countRefused .demo route s = s1 at hcounted ⊢
  have hdemo := quiet_demo hcounted
  have hcancellable : cancellable s1 = cancellable s := by
    funext n
    rw [cancellable, cancellable, instAt, instAt, quiet_il hcounted]
  obtain ⟨hcancel, htrain, hqueue⟩ := abort_leaves cause (hdemo ▸ h.run)
  have haside : aside (abort cause s1) = aside s1 := aside_abort _ _
  rw [hdemo, hcancellable] at hcancel
  rw [hdemo] at hqueue
  generalize abort cause s1 = s2 at haside hcancel htrain hqueue ⊢
  rw [withEngine_afterGrant]
  exact ⟨(aside_il haside).trans (quiet_il hcounted), (aside_deck haside).trans (quiet_deck hcounted), hcancel, htrain, hqueue⟩

/-- Settles O43: a grant whose checks pass is `accepted_concluded`, whoever made the request; a retry entry or the
Demonstration Unit's request that fails has the outcome of R59 and R144. -/
theorem grantsOfTheRouteEngine : Obligations.GrantsOfTheRouteEngine := by
  unfold Obligations.GrantsOfTheRouteEngine
  refine ⟨?ports, ?retry, ?demo⟩
  case ports =>
    intro p tag route option r s hheads hoption hmode _ hgrant hr hcheck
    obtain ⟨slot, haccepted, hengine, hframe⟩ := setRouteTurn_accepts hheads hoption hmode hgrant hr hcheck
    exact ⟨_, slot, rfl, haccepted, hengine, hframe⟩
  case retry =>
    intro e s hgrant he
    refine ⟨retryTurn s, rfl, fun r hr hcheck => retryTurn_accepts hgrant he hr hcheck, fun why hcheck => ?_,
      fun why hcheck => retryTurn_final hgrant he hcheck⟩
    exact congrArg quiet (retryTurn_blocked hgrant he hcheck)
  case demo =>
    intro r pl route s hgrant hidle hmode hawake hrun hfresh hgoing hplan hnext
    have h : DemoGranted r pl route s := ⟨hgrant, hidle, hmode, hawake, hrun, hfresh, hgoing, hplan, hnext⟩
    exact ⟨demoSetTurn s, rfl, fun x hx hcheck => demoSetTurn_accepts h hx hcheck,
      fun why hcheck => congrArg quiet (demoSetTurn_blocked h hcheck),
      fun why hcheck => ⟨demoSetTurn_final h hcheck, demoSetTurn_refused h hcheck⟩⟩

end Sys2Proof.Machine
end
